-- ==== Sys2Proof/Word.lean ====
section
/-! DEFINITION. The word types of the part: bytes, little-endian record fields and 64-byte lines (00_scope.md, "Conventions"). -/

namespace Sys2Proof

abbrev Byte := BitVec 8

abbrev Half := BitVec 16

abbrev Word := BitVec 32

abbrev Quad := BitVec 64

/-- 64 bytes of frame memory; byte `i` is bits `8 * i` to `8 * i + 7`. -/
abbrev Line := BitVec 512

/-- Byte enables of a line; bit `i` enables byte `i`. -/
abbrev Mask := BitVec 64

/-- A line address on the frame bus: the byte address of the line is 64 times it (34-bit byte addresses). -/
abbrev LineNo := BitVec 28

/-- One pixel, 4 bytes. -/
abbrev Pixel := BitVec 32

end Sys2Proof
end

