-- ==== Sys2Proof/Config.lean ====
section
/-! DEFINITION. The numbers the spec fixes for the part, each under the rule that states it, and the one number the spec leaves open (log 2). -/

namespace Sys2Proof.Config

/-- 16 GiB of frame memory, 34-bit byte addresses (00_scope.md, "Memory"). -/
def memoryBytes : Nat := 0x400000000

/-- DESIGN CHOICE (log 2): what a byte of frame memory reads as before anything is written to it. -/
def powerOnByte : Byte := 0

/-- R26. -/
def queueCapacity : Nat := 32

/-- R36. -/
def watchCapacity : Nat := 40

/-- R29: timebase events from the deassertion of RESET to the end of initialisation. -/
def initEvents : Nat := 10

/-- 4 KiB (R45). -/
def apertureBytes : Nat := 4096

/-- R69. -/
def gameCeiling : Nat := 5999000

/-- R69. -/
def secondaryCeiling : Nat := 999000

/-- R65. -/
def scoreMax : Nat := 999

/-- R65. -/
def auxMax : Nat := 99

/-- R65. -/
def periodMax : Nat := 15

/-- R63, in milliseconds. -/
def gapTime : Nat := 10

/-- R66, in milliseconds. -/
def watchdogTime : Nat := 500

/-- R70: the error at which a clock snaps, in milliseconds. -/
def snapError : Nat := 250

/-- R116, in milliseconds. -/
def chaseTime : Nat := 2000

/-- R41: frames above the written mark that the chase window covers. -/
def chaseFrames : Nat := 64

/-- R135, in milliseconds. -/
def gatherTime : Nat := 400

/-- 07, section 7.1: slot records of one list. -/
def listCapacity : Nat := 40

/-- R130, in sweep frames. -/
def houseDwell : Nat := 250

/-- R143. -/
def entryCapacity : Nat := 64

/-- R143: the largest exposure count. -/
def countMax : Nat := 4294967295

/-- R157. -/
def messageCapacity : Nat := 16

/-- R169, in milliseconds. -/
def debounceTime : Nat := 100

/-- R177, in milliseconds. -/
def warmTime : Nat := 2000

/-- R177, in milliseconds. -/
def coolTime : Nat := 10000

/-- R178: the duty of an alert that the cabinet does not limit. -/
def alertDuty : Nat := 8

/-- R175: full red. -/
def coldAlertColour : Pixel := 0x00FF0000

/-- R18: the largest underrun count. -/
def underrunMax : Nat := 65535

/-- R45: zone IDs run from 0 to 23. -/
def zoneIds : Nat := 24

end Sys2Proof.Config
end

