-- ==== Sys2Proof/Machine/Operands.lean ====
section
/-! DEFINITION. Fields of records: reading and placing little-endian fields by byte offset (00_scope.md, "Memory"), byte masks, and the address checks that every record uses. -/

namespace Sys2Proof.Machine

/-- The field of `w` bits at byte offset `off`, least significant byte first. -/
def field {n : Nat} (l : BitVec n) (off w : Nat) : BitVec w :=
  l.extractLsb' (8 * off) w

/-- Place `v` at byte offset `off` of a record whose bytes there are still 0. -/
def place {n w : Nat} (l : BitVec n) (off : Nat) (v : BitVec w) : BitVec n :=
  l ||| (v.setWidth n <<< (8 * off))

def byteAt (l : Line) (off : Nat) : Byte := field l off 8

def halfAt (l : Line) (off : Nat) : Half := field l off 16

def wordAt (l : Line) (off : Nat) : Word := field l off 32

def quadAt (l : Line) (off : Nat) : Quad := field l off 64

/-- A field as the number it carries. -/
def byteNat (l : Line) (off : Nat) : Nat := (byteAt l off).toNat

def halfNat (l : Line) (off : Nat) : Nat := (halfAt l off).toNat

def wordNat (l : Line) (off : Nat) : Nat := (wordAt l off).toNat

def quadNat (l : Line) (off : Nat) : Nat := (quadAt l off).toNat

/-- Place the number `v` in a field of `w` bits. -/
def placeNat {n : Nat} (l : BitVec n) (off w v : Nat) : BitVec n :=
  place l off (BitVec.ofNat w v)

/-- A flag as a bit of a record. -/
def flagNat (b : Bool) : Nat := if b then 1 else 0

/-- All 64 byte enables set (00_scope.md, "Line"). -/
def fullMask : Mask := BitVec.allOnes 64

def lineAddr (l : LineNo) : Nat := 64 * l.toNat

def lineAligned (a : Nat) : Bool := a % 64 == 0

/-- R47: an address operand lies below 16 GiB. -/
def addressOk (a : Quad) : Bool := a.toNat < Config.memoryBytes

/-- A range of `len` bytes from `a` ends at or below the end of memory. -/
def fits (a len : Nat) : Bool := a + len ≤ Config.memoryBytes

/-- Bytes of a raster of width `w` and height `h` (00_scope.md, "Pixels and geometry"). -/
def rasterBytes (w h : Nat) : Nat := w * h * 4

/-- Lines of a zone-sized raster (R16). -/
def rasterLines (w h : Nat) : Nat := w * h / 16

/-- `v` lies from `lo` to `hi` and is a multiple of 16. -/
def sizeOk (lo hi v : Nat) : Bool := lo ≤ v && v ≤ hi && v % 16 == 0

/-- The ranges of `n` bytes from `a` and of `m` bytes from `b` share a byte. -/
def rangesOverlap (a n b m : Nat) : Bool := 0 < n && 0 < m && a < b + m && b < a + n

/-- The 16 pixels of a line, in memory order. -/
def linePixels (l : Line) : List Pixel :=
  (List.range 16).map (fun k => wordAt l (4 * k))

/-- A counter that holds at `top`. -/
def saturate (top v : Nat) : Nat := min (v + 1) top

end Sys2Proof.Machine
end

