-- ==== Sys2Proof/Syntax.lean ====
section
/-! DEFINITION. The commands: one constructor of `Instr` for each row of spec/opcode_table.json, with the operands that the row's step needs. -/

namespace Sys2Proof

/-- A transaction offered at the C-port (02, section 2.1). -/
inductive Transaction where
  | read (line : LineNo)
  | write (line : LineNo) (data : Line) (mask : Mask)
  deriving DecidableEq, Repr

/-- The two clocks of R69. -/
inductive ClockId where
  | game
  | secondary
  deriving DecidableEq, Repr

/-- The pieces of boundary work whose order at one boundary the spec leaves open (R107, R119, R129, R165, R166; log 6). -/
inductive BoundaryTask where
  | layout
  | alert
  | replay
  | rotation
  | message
  deriving DecidableEq, Repr

/-- BEACON payload, 04 section 4.1. -/
structure BeaconPayload where
  gameValue : Word
  gameRunning : Byte
  direction : Byte
  secondaryValue : Word
  secondaryRunning : Byte
  period : Byte
  deriving DecidableEq, Repr

/-- SCORE payload, 04 section 4.1, and the operands of SCORE SET, 03 section 3.11. -/
structure ScorePayload where
  home : Half
  guest : Half
  homeAux : Byte
  guestAux : Byte
  deriving DecidableEq, Repr

/-- The message record carried in a cue line, 03 section 3.11. -/
structure MessageOperand where
  id : Half
  priority : Byte
  sponsor : Byte
  mode : Byte
  speed : Byte
  width : Half
  height : Half
  duration : Half
  repeats : Byte
  addr : Quad
  deriving DecidableEq, Repr

/-- ROTATION AMEND operands, 03 section 3.11. -/
structure AmendOperand where
  ribbon : Byte
  mode : Byte
  commitPoint : Byte
  count : Byte
  width : Half
  height : Half
  house : Quad
  slots : Quad
  deriving DecidableEq, Repr

/-- CLOCK SET operands, 03 section 3.11. -/
structure ClockSetOperand where
  gameValue : Word
  direction : Byte
  gameRunning : Byte
  tenths : Byte
  period : Byte
  source : Byte
  secondaryRunning : Byte
  secondaryValue : Word
  deriving DecidableEq, Repr

/-- The commands, in the order of spec/opcode_table.json. A cue carries its tag and the operands of the operand
table of 03 section 3.11, at that table's widths. -/
inductive Instr where
  | coldReset
  | resetDeassert
  | initialisationComplete (straps : BitVec 4)
  | transactionAccepted (t : Transaction)
  | mportGrant
  | progressLineRead
  | sweepLineArrival
  | layoutLineArrival
  | glyphLineArrival
  | clipDescriptorLineArrival
  | slotRecordLineArrival
  | sweepBoundary (order : List BoundaryTask) (holdCapture : Bool)
  | slotDeadline
  | linkReadyFalls
  | linkReadyRises
  | clockTimebaseStep
  | clockExpiry (clock : ClockId)
  | gapTimerExpiry
  | beaconWatchdogExpiry
  | beacon (payload : BeaconPayload)
  | scoreFrame (payload : ScorePayload)
  | idleTimerExpiry (zone : Nat)
  | chaseTimeout
  | gatherTimerExpiry
  | venueAlertLineAsserted
  | venueAlertLineDeasserted
  | debounceExpiry
  | heatLineAsserted
  | heatLineDeasserted
  | warmTimerExpiry
  | coolTimerExpiry
  | layoutLoad (tag : Half) (addr : Quad)
  | glyphLoad (tag : Half) (addr : Quad)
  | clipArm (tag : Half) (addr : Quad)
  | rotationAmend (tag : Half) (op : AmendOperand)
  | exposureSnapshot (tag : Half) (zero : Byte) (purge : Byte) (dest : Quad)
  | flip (tag : Half) (zone : Byte)
  | clipTake (tag : Half)
  | clipPlay (tag : Half) (rate : Half) (guardFlag : Byte)
  | clipHold (tag : Half)
  | clipResume (tag : Half)
  | clipRate (tag : Half) (rate : Half)
  | clipAngle (tag : Half) (angle : Byte)
  | clipDrop (tag : Half)
  | ribbonEnable (tag : Half) (ribbon : Byte)
  | ribbonDisable (tag : Half) (ribbon : Byte)
  | messagePost (tag : Half) (msg : MessageOperand)
  | messageWithdraw (tag : Half) (id : Half)
  | celebrationSet (tag : Half) (enable : Byte) (msg : MessageOperand)
  | alertStandingSet (tag : Half) (present : Byte) (addr : Quad) (colour : Pixel)
  | alertRaise (tag : Half) (addr : Quad)
  | alertClear (tag : Half)
  | brightnessSet (tag : Half) (requested : Byte) (thermal : Byte)
  | clockSet (tag : Half) (op : ClockSetOperand)
  | clockRun (tag : Half) (clock : Byte)
  | clockStop (tag : Half) (clock : Byte)
  | scoreSet (tag : Half) (op : ScorePayload)
  | statusClear (tag : Half) (mask : Word)
  | attentionMask (tag : Half) (mask : Word)
  | cancelLong (tag : Half)
  | cancelStaged (tag : Half) (target : Byte)
  | restart (tag : Half)
  | timingLineByte (byte : Byte) (framingError : Bool)
  deriving DecidableEq, Repr

end Sys2Proof
end

