-- ==== Sys2Proof/Decode.lean ====
section
/-! DEFINITION. Reading and writing the one encoding the spec gives the part, the cue line (03 section 3.11); and `decodeTableWord`, for which the command table has no bits. -/

namespace Sys2Proof

open Sys2Proof.Machine

/-- What the Cue Decoder makes of a full-line write to the cue line (R46). -/
inductive CueReading where
  /-- The signature is wrong: no cue, no result, no flag. -/
  | notCue
  /-- The flags byte is not 0 or the cue code is not in the operand table. -/
  | unknown (code : Byte) (tag : Half)
  /-- A cue of the operand table, with its operands. -/
  | cue (i : Instr)
  deriving DecidableEq, Repr

/-- R46: bytes 0 and 1 hold 0xA7 and 0x51. -/
def cueSignature : Half := 0x51A7

/-- Bytes 8 to 31 of MESSAGE POST and CELEBRATION SET. -/
def readMessage (l : Line) : MessageOperand :=
  { id := halfAt l 8, priority := byteAt l 10, sponsor := byteAt l 11, mode := byteAt l 12,
    speed := byteAt l 13, width := halfAt l 14, height := halfAt l 16, duration := halfAt l 18,
    repeats := byteAt l 20, addr := quadAt l 24 }

def readAmend (l : Line) : AmendOperand :=
  { ribbon := byteAt l 6, mode := byteAt l 7, commitPoint := byteAt l 8, count := byteAt l 9,
    width := halfAt l 10, height := halfAt l 12, house := quadAt l 16, slots := quadAt l 24 }

def readClockSet (l : Line) : ClockSetOperand :=
  { gameValue := wordAt l 8, direction := byteAt l 12, gameRunning := byteAt l 13,
    tenths := byteAt l 14, period := byteAt l 15, source := byteAt l 16,
    secondaryRunning := byteAt l 17, secondaryValue := wordAt l 20 }

def readScore (l : Line) : ScorePayload :=
  { home := halfAt l 6, guest := halfAt l 8, homeAux := byteAt l 10, guestAux := byteAt l 11 }

/-- The cue of a cue code, from the operand table of 03 section 3.11. CANCEL is two rows of the command table:
target 0 is CANCEL_LONG, every other target CANCEL_STAGED. -/
def cueOfCode (code : Nat) (l : Line) : Option Instr :=
  let tag := halfAt l 4
  match code with
  | 0x01 => some (.layoutLoad tag (quadAt l 8))
  | 0x02 => some (.glyphLoad tag (quadAt l 8))
  | 0x03 => some (.clipArm tag (quadAt l 8))
  | 0x04 => some (.rotationAmend tag (readAmend l))
  | 0x05 => some (.exposureSnapshot tag (byteAt l 6) (byteAt l 7) (quadAt l 8))
  | 0x10 => some (.flip tag (byteAt l 6))
  | 0x20 => some (.clipTake tag)
  | 0x21 => some (.clipPlay tag (halfAt l 6) (byteAt l 8))
  | 0x22 => some (.clipHold tag)
  | 0x23 => some (.clipResume tag)
  | 0x24 => some (.clipRate tag (halfAt l 6))
  | 0x25 => some (.clipAngle tag (byteAt l 6))
  | 0x26 => some (.clipDrop tag)
  | 0x30 => some (.ribbonEnable tag (byteAt l 6))
  | 0x31 => some (.ribbonDisable tag (byteAt l 6))
  | 0x40 => some (.messagePost tag (readMessage l))
  | 0x41 => some (.messageWithdraw tag (halfAt l 6))
  | 0x42 => some (.celebrationSet tag (byteAt l 6) (readMessage l))
  | 0x50 => some (.alertStandingSet tag (byteAt l 6) (quadAt l 8) (wordAt l 16))
  | 0x51 => some (.alertRaise tag (quadAt l 8))
  | 0x52 => some (.alertClear tag)
  | 0x60 => some (.brightnessSet tag (byteAt l 6) (byteAt l 7))
  | 0x70 => some (.clockSet tag (readClockSet l))
  | 0x71 => some (.clockRun tag (byteAt l 6))
  | 0x72 => some (.clockStop tag (byteAt l 6))
  | 0x73 => some (.scoreSet tag (readScore l))
  | 0x80 => some (.statusClear tag (wordAt l 8))
  | 0x81 => some (.attentionMask tag (wordAt l 8))
  | 0x82 => some (if byteAt l 6 = 0 then .cancelLong tag else .cancelStaged tag (byteAt l 6))
  | 0x83 => some (.restart tag)
  | _ => none

/-- R46, the rows of full-line writes. -/
def decodeCue (l : Line) : CueReading :=
  if halfAt l 0 ≠ cueSignature then .notCue
  else if byteAt l 3 ≠ 0 then .unknown (byteAt l 2) (halfAt l 4)
  else match cueOfCode (byteNat l 2) l with
    | some i => .cue i
    | none => .unknown (byteAt l 2) (halfAt l 4)

/-- The first six bytes of a cue line with flags byte 0. -/
def cueHead (code : Byte) (tag : Half) : Line :=
  place (place (place (0 : Line) 0 cueSignature) 2 code) 4 tag

def writeMessage (l : Line) (m : MessageOperand) : Line :=
  let l := place (place (place (place l 8 m.id) 10 m.priority) 11 m.sponsor) 12 m.mode
  let l := place (place (place l 13 m.speed) 14 m.width) 16 m.height
  place (place (place l 18 m.duration) 20 m.repeats) 24 m.addr

def writeAmend (l : Line) (a : AmendOperand) : Line :=
  let l := place (place (place (place l 6 a.ribbon) 7 a.mode) 8 a.commitPoint) 9 a.count
  place (place (place (place l 10 a.width) 12 a.height) 16 a.house) 24 a.slots

def writeClockSet (l : Line) (c : ClockSetOperand) : Line :=
  let l := place (place (place (place l 8 c.gameValue) 12 c.direction) 13 c.gameRunning) 14 c.tenths
  place (place (place (place l 15 c.period) 16 c.source) 17 c.secondaryRunning) 20 c.secondaryValue

def writeScore (l : Line) (p : ScorePayload) : Line :=
  place (place (place (place l 6 p.home) 8 p.guest) 10 p.homeAux) 11 p.guestAux

/-- The cue line that carries a cue, bytes the operand table does not name being 0; none for a command that is no cue. -/
def encodeCue : Instr → Option Line
  | .layoutLoad tag a => some (place (cueHead 0x01 tag) 8 a)
  | .glyphLoad tag a => some (place (cueHead 0x02 tag) 8 a)
  | .clipArm tag a => some (place (cueHead 0x03 tag) 8 a)
  | .rotationAmend tag op => some (writeAmend (cueHead 0x04 tag) op)
  | .exposureSnapshot tag z p d => some (place (place (place (cueHead 0x05 tag) 6 z) 7 p) 8 d)
  | .flip tag z => some (place (cueHead 0x10 tag) 6 z)
  | .clipTake tag => some (cueHead 0x20 tag)
  | .clipPlay tag r g => some (place (place (cueHead 0x21 tag) 6 r) 8 g)
  | .clipHold tag => some (cueHead 0x22 tag)
  | .clipResume tag => some (cueHead 0x23 tag)
  | .clipRate tag r => some (place (cueHead 0x24 tag) 6 r)
  | .clipAngle tag a => some (place (cueHead 0x25 tag) 6 a)
  | .clipDrop tag => some (cueHead 0x26 tag)
  | .ribbonEnable tag r => some (place (cueHead 0x30 tag) 6 r)
  | .ribbonDisable tag r => some (place (cueHead 0x31 tag) 6 r)
  | .messagePost tag m => some (writeMessage (cueHead 0x40 tag) m)
  | .messageWithdraw tag i => some (place (cueHead 0x41 tag) 6 i)
  | .celebrationSet tag e m => some (writeMessage (place (cueHead 0x42 tag) 6 e) m)
  | .alertStandingSet tag p a c => some (place (place (place (cueHead 0x50 tag) 6 p) 8 a) 16 c)
  | .alertRaise tag a => some (place (cueHead 0x51 tag) 8 a)
  | .alertClear tag => some (cueHead 0x52 tag)
  | .brightnessSet tag r t => some (place (place (cueHead 0x60 tag) 6 r) 7 t)
  | .clockSet tag op => some (writeClockSet (cueHead 0x70 tag) op)
  | .clockRun tag c => some (place (cueHead 0x71 tag) 6 c)
  | .clockStop tag c => some (place (cueHead 0x72 tag) 6 c)
  | .scoreSet tag op => some (writeScore (cueHead 0x73 tag) op)
  | .statusClear tag m => some (place (cueHead 0x80 tag) 8 m)
  | .attentionMask tag m => some (place (cueHead 0x81 tag) 8 m)
  | .cancelLong tag => some (cueHead 0x82 tag)
  | .cancelStaged tag t => some (place (cueHead 0x82 tag) 6 t)
  | .restart tag => some (cueHead 0x83 tag)
  | .coldReset => none
  | .resetDeassert => none
  | .initialisationComplete _ => none
  | .transactionAccepted _ => none
  | .mportGrant => none
  | .progressLineRead => none
  | .sweepLineArrival => none
  | .layoutLineArrival => none
  | .glyphLineArrival => none
  | .clipDescriptorLineArrival => none
  | .slotRecordLineArrival => none
  | .sweepBoundary _ _ => none
  | .slotDeadline => none
  | .linkReadyFalls => none
  | .linkReadyRises => none
  | .clockTimebaseStep => none
  | .clockExpiry _ => none
  | .gapTimerExpiry => none
  | .beaconWatchdogExpiry => none
  | .beacon _ => none
  | .scoreFrame _ => none
  | .idleTimerExpiry _ => none
  | .chaseTimeout => none
  | .gatherTimerExpiry => none
  | .venueAlertLineAsserted => none
  | .venueAlertLineDeasserted => none
  | .debounceExpiry => none
  | .heatLineAsserted => none
  | .heatLineDeasserted => none
  | .warmTimerExpiry => none
  | .coolTimerExpiry => none
  | .timingLineByte _ _ => none

/-- The command that a word of the command table spells. No row of spec/opcode_table.json has a bit, a mask or a
field, so no word spells a command. -/
def decodeTableWord (_nbits _w : Nat) : Option Instr := none

end Sys2Proof
end

