-- ==== Sys2Proof/Machine/Units.lean ====
section
/-! DEFINITION. The state of each block of the part as plain data (00_scope.md, "Block diagram"), one structure a block, and the records they hold. -/

namespace Sys2Proof.Machine

/-! ### Input pins (00_scope.md, "Pin groups") -/

/-- The levels last seen on the input pins. -/
structure Pins where
  /-- RESET asserted (R29). -/
  reset : Bool
  /-- The venue alert line asserted (R169). -/
  venue : Bool
  /-- The cabinet heat line asserted (R177). -/
  heat : Bool
  /-- Link-ready high (R22). -/
  linkReady : Bool
  deriving DecidableEq, Repr

/-! ### Glyphs and figures (05) -/

/-- The glyphs of 05 section 5.1; the cells of a display string are glyphs too (R91). -/
inductive Glyph where
  | digit (d : Fin 10)
  | colon
  | dot
  | blank
  | letterO
  | letterT
  | dash
  deriving DecidableEq, Repr

/-- The seven figures, in the order of their codes (01 section 1.2). -/
inductive Figure where
  | gameClock
  | secondaryClock
  | homeScore
  | guestScore
  | period
  | homeAux
  | guestAux
  deriving DecidableEq, Repr

/-- One glyph string per figure (05 section 5.2). -/
structure FigureStrings where
  game : List Glyph
  secondary : List Glyph
  home : List Glyph
  guest : List Glyph
  period : List Glyph
  homeAux : List Glyph
  guestAux : List Glyph
  deriving DecidableEq, Repr

/-- A glyph set (05 section 5.1); `addrs` holds the raster address of glyph `g` at index `g`. -/
structure GlyphSet where
  cellWidth : Nat
  cellHeight : Nat
  hasO : Bool
  hasT : Bool
  hasDash : Bool
  addrs : List Nat
  deriving DecidableEq, Repr

/-! ### Zones and the sweep (01) -/

/-- The two ribbons (07). -/
inductive RibbonId where
  | a
  | b
  deriving DecidableEq, Repr

/-- A zone's role with its role fields (01 section 1.2). `idle` is the idle timeout in units of 100 ms, 0 for off. -/
inductive Role where
  | replay
  | sponsor (ribbon : RibbonId)
  | figure (fig : Figure)
  | message
  | house (bufA : Nat) (bufB : Nat) (idle : Nat)
  deriving DecidableEq, Repr

/-- A zone record (01 section 1.2). -/
structure ZoneRec where
  id : Nat
  role : Role
  layer : Nat
  enabled : Bool
  x : Nat
  y : Nat
  w : Nat
  h : Nat
  backdrop : Pixel
  deriving DecidableEq, Repr

/-- The screen header (01 section 1.2). -/
structure ScreenHeader where
  width : Nat
  height : Nat
  rate : Nat
  backdrop : Pixel
  deriving DecidableEq, Repr

/-- A layout that passed R3 and R4. -/
structure Layout where
  header : ScreenHeader
  zones : List ZoneRec
  deriving DecidableEq, Repr

/-- What an active zone shows, by role (R14). `source` and `raster` say where the pixels come from. -/
inductive Content where
  | clipFrame (clip : Nat) (angle : Nat) (frame : Nat) (source : Nat)
  | sponsorSlot (slot : Nat) (sponsor : Nat) (minDuty : Nat) (raster : Nat)
  | houseMark (raster : Nat)
  | figureString (cells : List Glyph)
  | message (id : Nat) (sponsor : Nat) (raster : Nat) (offset : Nat)
  | houseBuffer (raster : Nat)
  deriving DecidableEq, Repr

/-- Content identities (R14). The layer and the role with its fields are parts of the identity of an active zone, since a
change of one changes the identity (R7, log 28). -/
inductive Ident where
  | dark
  | shown (layer : Nat) (role : Role) (content : Content)
  deriving DecidableEq, Repr

/-- R10. -/
inductive ReceiverState where
  | stale
  | holdsCurrent
  deriving DecidableEq, Repr

/-- A zone of the current layout with the state of 01 section 1.5. -/
structure Zone where
  cfg : ZoneRec
  epoch : Word
  receiver : ReceiverState
  lastEpoch : Word
  lastIdent : Option Ident
  underruns : Nat
  deriving DecidableEq, Repr

/-- Lines still to fetch from an address on (R16). -/
structure Run where
  addr : Nat
  lines : Nat
  deriving DecidableEq, Repr

/-- The fetch record of a slot (R16): the runs still to fetch, the first one at its next address with its lines
remaining, and the lines that have arrived. -/
structure Fetch where
  runs : List Run
  got : List Line
  deriving DecidableEq, Repr

/-- How the fetched lines lie in the zone: a zone-sized raster; cells of one glyph each (R94); the raster columns
`first` to `last` of a message, the first at zone column `start` (R161); or nothing but backdrop. -/
inductive Shape where
  | whole
  | cells (count : Nat) (cellWidth : Nat) (cellHeight : Nat)
  | window (first : Nat) (last : Nat) (start : Nat)
  | blank
  deriving DecidableEq, Repr

/-- How a slot's disposition is settled at the boundary (R15), or that the slot will not be sent (R21, R22). -/
inductive Settlement where
  | dark
  | held
  | toFetch
  | unsent
  deriving DecidableEq, Repr

/-- 00_scope.md, "Disposition". -/
inductive Disposition where
  | fresh
  | held
  | stalled
  | dark
  | unsent
  deriving DecidableEq, Repr

/-- A slot of the frame plan (R12 to R17). `closed` is how the slot closed, none while it is open. -/
structure Slot where
  zone : ZoneRec
  active : Bool
  visible : Bool
  ident : Ident
  epoch : Word
  settlement : Settlement
  shape : Shape
  fetch : Fetch
  closed : Option Disposition
  deriving DecidableEq, Repr

/-- The single slot of an alert frame (R23), as the boundary chose it (R174): `raster` is none for solid fill, and `colour`
is the alert colour. `sending` is false after a loss of the link. -/
structure AlertSlot where
  raster : Option Nat
  colour : Pixel
  fetch : Fetch
  sending : Bool
  closed : Bool
  deriving DecidableEq, Repr

/-- The frame in progress (R11). -/
inductive Frame where
  | none
  | zones (slots : List Slot)
  | alert (slot : AlertSlot)
  deriving DecidableEq, Repr

/-- R20. -/
inductive FrameKind where
  | zones
  | alert
  deriving DecidableEq, Repr

/-- The frame header of R20. -/
structure FrameHeader where
  number : Word
  duty : Nat
  kind : FrameKind
  width : Nat
  height : Nat
  backdrop : Pixel
  deriving DecidableEq, Repr

/-- What a slot carries on the link (R20). -/
inductive Payload where
  | pixels (raster : List Pixel)
  | fill (colour : Pixel)
  | keep
  deriving DecidableEq, Repr

/-- An item sent on the sweep link (R20). -/
inductive LinkItem where
  | header (h : FrameHeader)
  | slot (zone : ZoneRec) (disposition : Disposition) (payload : Payload)
  | alertSlot (payload : Payload)
  deriving DecidableEq, Repr

/-- LAYOUT LOAD in flight (R2, R6): the lines that have arrived, the header first; the zone count, 0 before the header
has arrived; and the pending layout once the checks have passed. -/
structure LayoutLoad where
  addr : Nat
  lines : List Line
  count : Nat
  pending : Option Layout
  deriving DecidableEq, Repr

/-- The Sweep Engine. `header` is none while no layout is current; `duty` is the duty of the frame header of the frame
in progress; `rate` is the sweep rate of the interval in progress (R1); `link` is what has been sent in the frame in progress. -/
structure SweepEngine where
  number : Word
  header : Option ScreenHeader
  zones : List Zone
  load : Option LayoutLoad
  frame : Frame
  duty : Nat
  rate : Nat
  link : List LinkItem
  deriving DecidableEq, Repr

/-- What the receiver cards hold for one zone. -/
structure HeldZone where
  zone : ZoneRec
  content : Payload
  deriving DecidableEq, Repr

/-- The receiver cards as R20 describes them: the last frame header, what they hold for each zone, the zones of the
frame being received, and the content of the alert slot. -/
structure ReceiverCards where
  header : Option FrameHeader
  held : List HeldZone
  seen : List Nat
  alert : Option Payload
  deriving DecidableEq, Repr

/-! ### Transaction Path and Memory Arbiter (02) -/

/-- The two buffers of a HOUSE zone. -/
inductive Buffer where
  | a
  | b
  deriving DecidableEq, Repr

inductive FlipState where
  | steady
  | flipPending
  deriving DecidableEq, Repr

/-- The redirect entry of a HOUSE zone (02 section 2.3). `size` is the bytes of one buffer. `timeout` is the idle
timeout in ms, 0 where the zone has no idle timer; `idle` is the ms remaining, none where it has no idle timer. -/
structure House where
  zone : Nat
  bufA : Nat
  bufB : Nat
  size : Nat
  onAir : Buffer
  flip : FlipState
  timeout : Nat
  idle : Option Nat
  stale : Bool
  deriving DecidableEq, Repr

/-- Kinds of watch list entries (R35, R36). -/
inductive WatchKind where
  | clipFrame
  | creative
  | glyph
  | messageRaster
  | houseBuffer
  | housePair
  | alertRaster
  deriving DecidableEq, Repr

/-- A watch list entry: `len` bytes from `start`. -/
structure WatchEntry where
  start : Nat
  len : Nat
  zone : Option Nat
  kind : WatchKind
  deriving DecidableEq, Repr

/-- A line returned on the C-port. -/
structure PortReply where
  line : LineNo
  data : Line
  deriving DecidableEq, Repr

/-- The Transaction Path. `offered` holds the transactions whose acceptance is withheld (R26), the oldest first;
`headAnswered` is the decision of R28, made when the head reached the head. -/
structure TransactionPath where
  queue : List Transaction
  offered : List Transaction
  headAnswered : Bool
  reply : Option PortReply
  watch : List WatchEntry
  houses : List House
  deriving DecidableEq, Repr

/-- Who asked for the line in flight. -/
inductive FlightOrigin where
  | slot (zone : Nat)
  | alertSlot
  | layout
  | glyph
  | clip
  | slotRecords
  deriving DecidableEq, Repr

/-- A line granted and not yet arrived; `dropped` once its fetch has been abandoned (R17, R44, R50). -/
structure Flight where
  origin : FlightOrigin
  data : Line
  dropped : Bool
  deriving DecidableEq, Repr

/-! ### Cue Decoder and Status Writer (03) -/

/-- The long cues (R50); each names its owning unit. -/
inductive LongCue where
  | layoutLoad
  | glyphLoad
  | clipArm
  | rotationAmend
  | exposureSnapshot
  deriving DecidableEq, Repr

inductive LanePhase where
  | fetching
  | waiting
  | gathering
  | writing
  deriving DecidableEq, Repr

/-- The result codes of R48. -/
inductive Result where
  | none
  | done
  | busy
  | wrongState
  | range
  | geometry
  | tableFull
  | queueFull
  | onAir
  | consoleOwns
  | lineActive
  | stagedPending
  | noZone
  | cancelled
  | unknownCue
  deriving DecidableEq, Repr

/-- The settled part of a final record (R52). -/
structure FinalRecord where
  result : Result
  detail : Nat
  deriving DecidableEq, Repr

/-- An occupied long lane (03 section 3.4). -/
structure Lane where
  cue : LongCue
  tag : Half
  phase : LanePhase
  records : Nat
  toggle : Bool
  final : Option FinalRecord
  deriving DecidableEq, Repr

/-- The last-short-result record (R48). -/
structure ShortResult where
  tag : Half
  code : Byte
  result : Result
  detail : Nat
  deriving DecidableEq, Repr

/-- The Cue Decoder: the long lane (none is idle), the last-short-result record, the attention mask and latches. -/
structure CueDecoder where
  lane : Option Lane
  last : ShortResult
  mask : BitVec 19
  latches : BitVec 19
  deriving DecidableEq, Repr

/-- A status block line waiting for the M-port; `number` is its line of the aperture. -/
structure StatusLine where
  number : Nat
  data : Line
  deriving DecidableEq, Repr

/-- The Status Writer. `captureDue` is the model's own field (log 7): a boundary's capture that was held back. -/
structure StatusWriter where
  flags : BitVec 19
  image : Option (BitVec 3072)
  lines : List StatusLine
  captureDue : Bool
  deriving DecidableEq, Repr

/-! ### Clock Unit (04) -/

inductive Direction where
  | down
  | up
  deriving DecidableEq, Repr

/-- A clock of R69; `slew` is the remainder r and `slewPhase` is p. -/
structure Clock where
  value : Nat
  running : Bool
  direction : Direction
  slew : Int
  slewPhase : Nat
  deriving DecidableEq, Repr

inductive ConsoleState where
  | absent
  | locked
  | freeRun
  | house
  deriving DecidableEq, Repr

/-- R76. -/
inductive ClockPhase where
  | running
  | stopped
  deriving DecidableEq, Repr

/-- Assembly states of R63. -/
inductive AssemblyState where
  | hunt
  | kind
  | length
  | payload
  | check
  | ending
  deriving DecidableEq, Repr

/-- The two kinds of console frame (04 section 4.1). -/
inductive ConsoleFrame where
  | beacon
  | score
  deriving DecidableEq, Repr

/-- The timing line receiver (R63); `bytes` are the payload bytes taken so far, `gap` the gap timer. -/
structure LineReceiver where
  state : AssemblyState
  kind : ConsoleFrame
  bytes : List Byte
  check : Byte
  gap : Option Nat
  deriving DecidableEq, Repr

structure ClockUnit where
  receiver : LineReceiver
  console : ConsoleState
  watchdog : Option Nat
  game : Clock
  secondary : Clock
  tenths : Bool
  period : Nat
  gameString : List Glyph
  secondaryString : List Glyph
  deriving DecidableEq, Repr

/-! ### Crowd messages (09) -/

inductive MessageMode where
  | still (duration : Nat)
  | crawl (speed : Nat)
  deriving DecidableEq, Repr

/-- A message record (R155) with its repeats remaining. -/
structure Message where
  id : Nat
  priority : Nat
  sponsor : Nat
  mode : MessageMode
  width : Nat
  height : Nat
  repeats : Nat
  addr : Nat
  remaining : Nat
  deriving DecidableEq, Repr

/-- Where a showing stands (R155, R160). -/
inductive Showing where
  | notStarted
  | still (framesRemaining : Nat)
  | crawl (offset : Nat)
  deriving DecidableEq, Repr

structure OnAir where
  msg : Message
  showing : Showing
  deriving DecidableEq, Repr

structure MessageQueue where
  queue : List Message
  onAir : Option OnAir
  lastGone : Nat
  deriving DecidableEq, Repr

/-! ### Figure Renderer (05) -/

/-- GLYPH LOAD in flight (R86). -/
structure GlyphLoad where
  addr : Nat
  lines : List Line
  deriving DecidableEq, Repr

structure FigureRenderer where
  home : Nat
  guest : Nat
  homeAux : Nat
  guestAux : Nat
  period : Nat
  glyphs : Option GlyphSet
  strings : FigureStrings
  celebration : Option Message
  load : Option GlyphLoad
  deriving DecidableEq, Repr

/-! ### Replay Engine (06) -/

/-- The states of a clip that is not EMPTY (06 section 6.4). -/
inductive ClipState where
  | armed
  | guarded
  | playing
  | held
  | ended
  deriving DecidableEq, Repr

inductive EndBehaviour where
  | haltDark
  | haltHold
  | loop
  | angleSweep
  deriving DecidableEq, Repr

/-- The clip record of 06 section 6.1, for a clip that is not EMPTY. `endedDark` marks a clip ended under HALT_DARK
by R113. `mark` is the written mark and `window` its chase window, flag `i` for frame mark + 1 + i. `chase` is the
chase timer, running exactly during chase wait (R116). -/
structure Clip where
  state : ClipState
  endedDark : Bool
  id : Nat
  bases : List Nat
  stride : Nat
  frames : Nat
  inPoint : Nat
  outPoint : Nat
  behaviour : EndBehaviour
  growing : Bool
  index : Nat
  angle : Nat
  pendingAngle : Option Nat
  rate : Nat
  pendingRate : Option Nat
  acc : Nat
  mark : Int
  window : BitVec 64
  chase : Option Nat
  heldByAlert : Bool
  deriving DecidableEq, Repr

/-- CLIP ARM in flight (R101): the header line once it has arrived. -/
structure ClipArm where
  addr : Nat
  header : Option Line
  deriving DecidableEq, Repr

/-- The Replay Engine; none stands for a clip record in state EMPTY. -/
structure ReplayEngine where
  current : Option Clip
  onDeck : Option Clip
  take : Bool
  arm : Option ClipArm
  deriving DecidableEq, Repr

/-! ### Rotation Unit (07) -/

inductive PhaseSet where
  | running
  | stopped
  | any
  deriving DecidableEq, Repr

/-- What a slot record shows: a sponsor's creative, or the house creative for a skip slot. -/
inductive SlotContent where
  | sponsor (id : Nat) (minDuty : Nat) (raster : Nat)
  | skip
  deriving DecidableEq, Repr

structure SlotRec where
  content : SlotContent
  phases : PhaseSet
  dwell : Nat
  deriving DecidableEq, Repr

/-- A list of slots with its house creative address and creative size. -/
structure SlotList where
  slots : List SlotRec
  house : Nat
  w : Nat
  h : Nat
  deriving DecidableEq, Repr

inductive CommitPoint where
  | atSlot
  | atCycle
  deriving DecidableEq, Repr

structure StagedList where
  list : SlotList
  point : CommitPoint
  deriving DecidableEq, Repr

inductive RibbonState where
  | off
  | starting
  | on
  | stopping
  deriving DecidableEq, Repr

inductive RibbonEntry where
  | none
  | slot (index : Nat)
  | house
  deriving DecidableEq, Repr

structure Ribbon where
  state : RibbonState
  committed : Option SlotList
  staged : Option StagedList
  entry : RibbonEntry
  dwell : Nat
  search : Nat
  deriving DecidableEq, Repr

/-- The pending list of a gathering (07 section 7.1) with the amend whose records are being fetched: the address of
its next line and the records still to come; and the gather timer. -/
structure Gather where
  ribbon : RibbonId
  list : SlotList
  point : CommitPoint
  next : Nat
  left : Nat
  timer : Option Nat
  deriving DecidableEq, Repr

structure RotationUnit where
  a : Ribbon
  b : Ribbon
  gather : Option Gather
  deriving DecidableEq, Repr

/-! ### Exposure Table (08) -/

structure ExposureEntry where
  sponsor : Nat
  scheduled : Nat
  credited : Nat
  unshown : Nat
  occluded : Nat
  dimmed : Nat
  moment : Nat
  frozen : Bool
  deriving DecidableEq, Repr

/-- States of a snapshot header (08 section 8.6). -/
inductive SnapshotState where
  | inProgress
  | complete
  | cancelled
  deriving DecidableEq, Repr

/-- A snapshot write line (R152): the header in a state, or entry line `n`, counted from 0. -/
inductive SnapshotLine where
  | header (state : SnapshotState)
  | entries (n : Nat)
  deriving DecidableEq, Repr

/-- An EXPOSURE SNAPSHOT in flight (R151, R152): the image, and the lines still to write. -/
structure Snapshot where
  image : List ExposureEntry
  number : Word
  tag : Half
  zero : Bool
  purge : Bool
  dest : Nat
  lines : List SnapshotLine
  written : Nat
  deriving DecidableEq, Repr

structure ExposureTable where
  entries : List ExposureEntry
  snapshot : Option Snapshot
  deriving DecidableEq, Repr

/-! ### Alert Unit and Brightness Governor (10) -/

inductive AlertState where
  | quiet
  | engaging
  | onAir
  | releasing
  deriving DecidableEq, Repr

/-- A raised alert: its raster and the screen size it was raised for (R170). -/
structure RaisedAlert where
  raster : Nat
  width : Nat
  height : Nat
  deriving DecidableEq, Repr

structure AlertUnit where
  state : AlertState
  latch : Bool
  debounce : Option Nat
  raised : Option RaisedAlert
  standing : Option Nat
  colour : Pixel
  chosen : Option Nat
  deriving DecidableEq, Repr

inductive ThermalState where
  | normal
  | warming
  | hold
  | cooling
  deriving DecidableEq, Repr

structure BrightnessGovernor where
  requested : Nat
  thermal : Nat
  pendingThermal : Option Nat
  state : ThermalState
  warm : Option Nat
  cool : Option Nat
  effective : Nat
  deriving DecidableEq, Repr

end Sys2Proof.Machine
end

