-- ==== Sys2Proof/Machine/Cold.lean ====
section
/-! DEFINITION. The cold values of every unit, each as the reset section of its chapter gives them. -/

namespace Sys2Proof.Machine

/-- R25. `duty` before the first frame is the cold effective duty (log 5). -/
def coldSweep : SweepEngine :=
  { number := 0, header := none, zones := [], load := none, frame := .none, duty := 8, rate := 60, link := [] }

/-- The receiver cards before the part has sent anything (log 5). -/
def coldReceivers : ReceiverCards := { header := none, held := [], seen := [], alert := none }

/-- R48, R62. -/
def coldShortResult : ShortResult := { tag := 0, code := 0, result := .none, detail := 0 }

/-- R62. -/
def coldDecoder : CueDecoder := { lane := none, last := coldShortResult, mask := 0, latches := 0 }

/-- R62. -/
def coldStatus : StatusWriter := { flags := 0, image := none, lines := [], captureDue := false }

/-- R84: HUNT, no frame under assembly, no gap timer. DESIGN CHOICE (log 29): kind BEACON, check 0 and no bytes stand
for the record of a frame while none is under assembly; nothing reads them then. -/
def coldReceiver : LineReceiver := { state := .hunt, kind := .beacon, bytes := [], check := 0, gap := none }

/-- R84. -/
def coldClock : Clock := { value := 0, running := false, direction := .down, slew := 0, slewPhase := 0 }

/-- "0.0" in five cells (R84). -/
def coldGameString : List Glyph := [.blank, .blank, .digit 0, .dot, .digit 0]

/-- "0.0" in three cells (R84). -/
def coldSecondaryString : List Glyph := [.digit 0, .dot, .digit 0]

/-- R84. -/
def coldClockUnit : ClockUnit :=
  { receiver := coldReceiver, console := .absent, watchdog := none, game := coldClock, secondary := coldClock,
    tenths := true, period := 1, gameString := coldGameString, secondaryString := coldSecondaryString }

/-- R99. -/
def coldStrings : FigureStrings :=
  { game := coldGameString, secondary := coldSecondaryString,
    home := [.blank, .blank, .digit 0], guest := [.blank, .blank, .digit 0],
    period := [.blank, .digit 1], homeAux := [.blank, .digit 0], guestAux := [.blank, .digit 0] }

/-- R99. -/
def coldFigures : FigureRenderer :=
  { home := 0, guest := 0, homeAux := 0, guestAux := 0, period := 1, glyphs := none, strings := coldStrings,
    celebration := none, load := none }

/-- R123. -/
def coldReplay : ReplayEngine := { current := none, onDeck := none, take := false, arm := none }

/-- R142. -/
def coldRibbon : Ribbon :=
  { state := .off, committed := none, staged := none, entry := .none, dwell := 0, search := 0 }

/-- R142. -/
def coldRotation : RotationUnit := { a := coldRibbon, b := coldRibbon, gather := none }

/-- R154. -/
def coldExposure : ExposureTable := { entries := [], snapshot := none }

/-- R168. -/
def coldMessages : MessageQueue := { queue := [], onAir := none, lastGone := 0 }

/-- R175. -/
def coldAlert : AlertUnit :=
  { state := .quiet, latch := false, debounce := none, raised := none, standing := none,
    colour := Config.coldAlertColour, chosen := none }

/-- R179. -/
def coldBrightness : BrightnessGovernor :=
  { requested := 8, thermal := 4, pendingThermal := none, state := .normal, warm := none, cool := none, effective := 8 }

end Sys2Proof.Machine
end

