-- ==== Sys2Proof/Machine/State.lean ====
section
/-! DEFINITION. The state of the part, the reasons a step can stop, and the state after reset. -/

namespace Sys2Proof.Machine

/-- Everything the spec gives the part, the frame memory behind it, the receiver cards before it, and the queue of
commands that wait. -/
structure State where
  /-- The levels last seen on the input pins. -/
  pins : Pins
  /-- R29: the Transaction Path is in bypass, from the assertion of RESET to the end of initialisation. -/
  bypass : Bool
  /-- R29: timebase events still to come before initialisation completes; none while they are not counted. -/
  initCount : Option Nat
  /-- R45: the strap levels sampled at the end of initialisation. -/
  segment : BitVec 4
  /-- Frame memory: the bytes that differ from what an unlisted byte reads as, in rising address order. -/
  mem : List Host.Cell
  path : TransactionPath
  /-- R44: the arbiter's turn pointer. -/
  turn : Fin 4
  /-- The line granted and not yet arrived; the M-port is free while there is none. -/
  port : Option Flight
  decoder : CueDecoder
  status : StatusWriter
  sweep : SweepEngine
  receivers : ReceiverCards
  clock : ClockUnit
  figures : FigureRenderer
  replay : ReplayEngine
  rotation : RotationUnit
  exposure : ExposureTable
  messages : MessageQueue
  alert : AlertUnit
  brightness : BrightnessGovernor
  /-- The commands that wait, first in, first out. -/
  pending : List Instr
  deriving DecidableEq, Repr

/-- Reasons for a fault: none. No command of this part ends in a fault, since the spec gives every command an effect
in every state; the part's own refusals are result codes in State (R48). -/
inductive Fault where
  deriving DecidableEq, Repr

/-- Reasons for a refusal. -/
inductive Refusal where
  /-- A command that has no meaning in this model yet, raised by `exec` and nowhere else; safe, since the run stops.
  No arm raises it. -/
  | notModelled (mnemonic : String)
  deriving DecidableEq, Repr

/-- The part at the assertion of RESET from power-on (R29, log 1): every unit at its cold values, in bypass, with
nothing in memory, in the queues or on the bus. The levels of the other pins are log 3's. -/
def State.reset : State :=
  { pins := { reset := true, venue := false, heat := false, linkReady := true }
    bypass := true
    initCount := none
    segment := 0
    mem := []
    path := { queue := [], offered := [], headAnswered := false, reply := none, watch := [], houses := [] }
    turn := 0
    port := none
    decoder := coldDecoder
    status := coldStatus
    sweep := coldSweep
    receivers := coldReceivers
    clock := coldClockUnit
    figures := coldFigures
    replay := coldReplay
    rotation := coldRotation
    exposure := coldExposure
    messages := coldMessages
    alert := coldAlert
    brightness := coldBrightness
    pending := [] }

end Sys2Proof.Machine
end

