-- ==== Sys2Proof/Machine/Flags.lean ====
section
/-! DEFINITION. The sticky flags, the attention mask and the attention latches (R58 to R61). -/

namespace Sys2Proof.Machine

/-- The 19 sticky flags, in bit order (03 section 3.11). -/
inductive Flag where
  | clockSnap
  | consoleLost
  | clockExpired
  | clipEnded
  | chaseTimeout
  | rotationCommitted
  | rotationRefused
  | messageEvicted
  | messageDropped
  | alertOnAir
  | alertCleared
  | thermalHold
  | thermalRelease
  | zoneUnderrun
  | houseStale
  | linkDown
  | lateWrite
  | cueRefused
  | longCueDone
  deriving DecidableEq, Repr

/-- Bit numbers of 03 section 3.11. -/
def flagBit : Flag → Nat
  | .clockSnap => 0
  | .consoleLost => 1
  | .clockExpired => 2
  | .clipEnded => 3
  | .chaseTimeout => 4
  | .rotationCommitted => 5
  | .rotationRefused => 6
  | .messageEvicted => 7
  | .messageDropped => 8
  | .alertOnAir => 9
  | .alertCleared => 10
  | .thermalHold => 11
  | .thermalRelease => 12
  | .zoneUnderrun => 13
  | .houseStale => 14
  | .linkDown => 15
  | .lateWrite => 16
  | .cueRefused => 17
  | .longCueDone => 18

/-- A flag as a mask of one bit. -/
def flagMask (f : Flag) : BitVec 19 := 1#19 <<< flagBit f

/-- R58, R61: the flag is set; if it was clear, that is a rise, and the rise sets its latch where its mask bit is set. -/
def raise (f : Flag) (s : State) : State :=
  { s with
    status.flags := s.status.flags ||| flagMask f
    decoder.latches := s.decoder.latches ||| (flagMask f &&& ~~~s.status.flags &&& s.decoder.mask) }

/-- Raise a flag where `c` holds. -/
def raiseIf (c : Bool) (f : Flag) (s : State) : State := if c then raise f s else s

/-- The flag stands. -/
def flagUp (f : Flag) (s : State) : Bool := s.status.flags.getLsbD (flagBit f)

/-- R61: the attention line is asserted while at least one latch is set. -/
def attention (s : State) : Bool := s.decoder.latches != 0

/-- R59: the flags named in the mask and their latches are cleared. -/
def clearFlags (m : BitVec 19) (s : State) : State :=
  { s with
    status.flags := s.status.flags &&& ~~~m
    decoder.latches := s.decoder.latches &&& ~~~m }

/-- R60: the new mask replaces the old one, and the latch of every flag whose bit is 0 in it is cleared. -/
def replaceMask (m : BitVec 19) (s : State) : State :=
  { s with
    decoder.mask := m
    decoder.latches := s.decoder.latches &&& m }

/-- R55: every sticky flag clear, mask 0, every latch clear. -/
def restartFlags (s : State) : State :=
  { s with
    status.flags := 0
    decoder.mask := 0
    decoder.latches := 0 }

/-- R59, R60: a 32-bit mask operand with any bit from 19 to 31 set is out of range. -/
def flagMaskOk (m : Word) : Bool := m.toNat < 2 ^ 19

end Sys2Proof.Machine
end

