-- ==== Sys2Proof/Machine/Ops.lean ====
section
/-! DEFINITION. The shared operations: frame memory, the long lane and the short-cue result, zone epochs, and lines in flight. -/

namespace Sys2Proof.Machine

/-! ### Frame memory -/

/-- What an unlisted address reads as (log 2). -/
def unlisted : Byte := Config.powerOnByte

/-- The byte at an address. -/
def memRead : List Host.Cell → Nat → Byte
  | [], _ => unlisted
  | (k, v) :: m, a => if k = a then v else memRead m a

/-- Write one byte, keeping the canonical form: rising addresses, nothing listed that reads as unlisted. -/
def memWrite : List Host.Cell → Nat → Byte → List Host.Cell
  | [], a, b => if b = unlisted then [] else [(a, b)]
  | (k, v) :: m, a, b =>
    if a < k then (if b = unlisted then (k, v) :: m else (a, b) :: (k, v) :: m)
    else if a = k then (if b = unlisted then m else (a, b) :: m)
    else (k, v) :: memWrite m a b

/-- The canonical form of memory. -/
abbrev Memory.wf (m : List Host.Cell) : Prop :=
  m.Pairwise (fun p q => p.1 < q.1) ∧ ∀ c ∈ m, c.2 ≠ unlisted

/-- The first `n` bytes from `a` as the low bytes of a line. -/
def memBytes (m : List Host.Cell) (a : Nat) : Nat → Line
  | 0 => 0
  | n + 1 => place (memBytes m a n) n (memRead m (a + n))

/-- The line at byte address `a`, as memory holds it (R27). -/
def memLine (m : List Host.Cell) (a : Nat) : Line := memBytes m a 64

/-- Write the enabled ones of the first `n` bytes of a line (R27). -/
def memWriteBytes (m : List Host.Cell) (a : Nat) (data : Line) (mask : Mask) : Nat → List Host.Cell
  | 0 => m
  | n + 1 =>
    let m' := memWriteBytes m a data mask n
    if mask.getLsbD n then memWrite m' (a + n) (byteAt data n) else m'

/-- R27: enabled bytes replace memory, disabled bytes leave it as it was. -/
def writeLine (a : Nat) (data : Line) (mask : Mask) (s : State) : State :=
  { s with mem := memWriteBytes s.mem a data mask 64 }

/-- A write of the part's own: all 64 bytes. -/
def writeWhole (a : Nat) (data : Line) (s : State) : State := writeLine a data fullMask s

/-- R45: the aperture base of the sampled straps. -/
def apertureBase (s : State) : Nat := s.segment.toNat * 0x40000000 + 0x40000000 - Config.apertureBytes

/-- Line `n` of the aperture. -/
def apertureLine (n : Nat) (s : State) : Nat := apertureBase s + 64 * n

/-! ### Results -/

/-- The values of R48's table. -/
def resultCode : Result → Nat
  | .none => 0
  | .done => 1
  | .busy => 2
  | .wrongState => 3
  | .range => 4
  | .geometry => 5
  | .tableFull => 6
  | .queueFull => 7
  | .onAir => 8
  | .consoleOwns => 9
  | .lineActive => 10
  | .stagedPending => 11
  | .noZone => 12
  | .cancelled => 13
  | .unknownCue => 14

/-- R48, R53: a result that raises CUE_REFUSED. -/
def refuses (r : Result) : Bool := r != .done && r != .cancelled

/-- R48: the last-short-result record is replaced, and CUE_REFUSED is raised for a refusal. -/
def settleShort (tag : Half) (code : Byte) (r : Result) (detail : Nat) (s : State) : State :=
  raiseIf (refuses r) .cueRefused
    { s with decoder.last := { tag := tag, code := code, result := r, detail := detail } }

/-! ### The long lane -/

/-- R49: the lane is occupied. -/
def laneOccupied (s : State) : Bool := s.decoder.lane.isSome

/-- The lane is occupied and not yet settled. -/
def laneUnsettled (s : State) : Bool :=
  match s.decoder.lane with
  | some l => l.final.isNone
  | none => false

def lanePhase (s : State) : Option LanePhase := s.decoder.lane.map (·.phase)

/-- R49: acceptance onto the idle lane, in the cue's first phase (R50). -/
def acceptLong (cue : LongCue) (tag : Half) (phase : LanePhase) (s : State) : State :=
  let lane : Lane := { cue := cue, tag := tag, phase := phase, records := 0, toggle := false, final := none }
  { s with decoder.lane := some lane }

def setPhase (p : LanePhase) (s : State) : State :=
  { s with decoder.lane := s.decoder.lane.map (fun l => { l with phase := p }) }

/-- R50: the owner sets the count of records processed. -/
def setRecords (n : Nat) (s : State) : State :=
  { s with decoder.lane := s.decoder.lane.map (fun l => { l with records := n }) }

/-- R52: a lane with no final record moves to WRITING with its final record fixed; a settled one stays as it is. -/
def settleLane (r : Result) (detail : Nat) (l : Lane) : Lane :=
  if l.final.isSome then l else { l with phase := .writing, final := some { result := r, detail := detail } }

/-- R52. -/
def settleLong (r : Result) (detail : Nat) (s : State) : State :=
  { s with decoder.lane := s.decoder.lane.map (settleLane r detail) }

/-- R50, R54: what the owners hold for a long cue in flight, other than a snapshot, is discarded. -/
def discardWork (s : State) : State :=
  { s with
    sweep.load := none
    figures.load := none
    replay.arm := none
    rotation.gather := none }

/-! ### Lines in flight -/

/-- A flight of the sweep fetch, not of a record fetch. -/
def sweepOrigin : FlightOrigin → Bool
  | .slot _ => true
  | .alertSlot => true
  | _ => false

/-- R17, R44: a sweep fetch line in flight completes and its data are dropped. -/
def dropSweep (s : State) : State :=
  { s with port := s.port.map (fun f => if sweepOrigin f.origin then { f with dropped := true } else f) }

/-- R50: a record line in flight completes and its data are dropped. -/
def dropRecord (s : State) : State :=
  { s with port := s.port.map (fun f => if sweepOrigin f.origin then f else { f with dropped := true }) }

/-- A line arrives for requesters `mine`: the M-port is free again, and the data go to `use` unless they are dropped.
With no such line in flight nothing arrives (log 8). -/
def arrival (mine : FlightOrigin → Bool) (use : Line → State → State) (s : State) : State :=
  match s.port with
  | some f =>
    if mine f.origin then
      if f.dropped then { s with port := none } else use f.data { s with port := none }
    else s
  | none => s

/-! ### Zones -/

/-- R9: the content epoch of every enabled zone that `p` picks increases by 1, wrapping. -/
def bumpZone (p : ZoneRec → Bool) (z : Zone) : Zone :=
  if z.cfg.enabled && p z.cfg then { z with epoch := z.epoch + 1 } else z

/-- R9. -/
def bumpZones (p : ZoneRec → Bool) (s : State) : State :=
  { s with sweep.zones := s.sweep.zones.map (bumpZone p) }

/-- R10: every zone of the layout becomes STALE. -/
def allStale (s : State) : State :=
  { s with sweep.zones := s.sweep.zones.map (fun z => { z with receiver := .stale }) }

def isReplay (z : ZoneRec) : Bool := z.role == .replay

def isMessage (z : ZoneRec) : Bool := z.role == .message

def showsRibbon (r : RibbonId) (z : ZoneRec) : Bool := z.role == .sponsor r

def isFigure (z : ZoneRec) : Bool :=
  match z.role with
  | .figure _ => true
  | _ => false

/-- The zone record with an ID, of the current layout. -/
def findZone (id : Nat) (s : State) : Option ZoneRec :=
  (s.sweep.zones.find? (fun z => z.cfg.id == id)).map (·.cfg)

/-- The REPLAY zone of the current layout, enabled or not (a layout has at most one, R4). -/
def replayZone (s : State) : Option ZoneRec :=
  (s.sweep.zones.find? (fun z => isReplay z.cfg)).map (·.cfg)

/-- The MESSAGE zone of the current layout, enabled or not (a layout has at most one, R4). -/
def messageZone (s : State) : Option ZoneRec :=
  (s.sweep.zones.find? (fun z => isMessage z.cfg)).map (·.cfg)

/-- The enabled zones of the current layout, in ascending zone ID order (R12, R35). -/
def enabledZones (s : State) : List Zone :=
  (List.range Config.zoneIds).filterMap
    (fun id => s.sweep.zones.find? (fun z => z.cfg.id == id && z.cfg.enabled))

/-- Two rectangles share at least one pixel (01 section 1.2). -/
def intersects (a b : ZoneRec) : Bool :=
  a.x < b.x + b.w && b.x < a.x + a.w && a.y < b.y + b.h && b.y < a.y + a.h

/-! ### Levels read across units -/

/-- R76: RUNNING while the game clock runs. -/
def clockPhase (s : State) : ClockPhase := if s.clock.game.running then .running else .stopped

def alertOnAir (s : State) : Bool := s.alert.state == .onAir

/-- The ribbon of a code. -/
def ribbonOf (r : RibbonId) (s : State) : Ribbon :=
  match r with
  | .a => s.rotation.a
  | .b => s.rotation.b

def setRibbon (r : RibbonId) (x : Ribbon) (s : State) : State :=
  match r with
  | .a => { s with rotation.a := x }
  | .b => { s with rotation.b := x }

/-- Ribbon codes: 0 is A, 1 is B. -/
def ribbonId (b : Byte) : Option RibbonId :=
  if b = 0 then some .a else if b = 1 then some .b else none

/-- Commands of the units act only out of bypass: before the end of initialisation no cue is handed off, no line is
sampled and no boundary comes (R1, R29, R84, R175, R179). -/
def outOfBypass (f : State → State) (s : State) : State := if s.bypass then s else f s

end Sys2Proof.Machine
end

