-- ==== Sys2Proof/Machine/Content.lean ====
section
/-! DEFINITION. What a zone shows: activity, content identity, fetch runs and pixels (R12, R14, R16, R94, R161, R162), and the watch list derived from it (R35, R36). -/

namespace Sys2Proof.Machine

/-! ### Glyphs -/

/-- Glyph numbers of 05 section 5.1. -/
def glyphNumber : Glyph → Nat
  | .digit d => d.val
  | .colon => 10
  | .dot => 11
  | .blank => 12
  | .letterO => 13
  | .letterT => 14
  | .dash => 15

def glyphAddr (g : GlyphSet) (x : Glyph) : Nat := g.addrs.getD (glyphNumber x) 0

/-- Bytes of one glyph raster. -/
def cellBytes (g : GlyphSet) : Nat := rasterBytes g.cellWidth g.cellHeight

/-- Cell counts of 05 section 5.2. -/
def cellCount : Figure → Nat
  | .gameClock => 5
  | .secondaryClock => 3
  | .homeScore => 3
  | .guestScore => 3
  | .period => 2
  | .homeAux => 2
  | .guestAux => 2

def figureString (t : FigureStrings) : Figure → List Glyph
  | .gameClock => t.game
  | .secondaryClock => t.secondary
  | .homeScore => t.home
  | .guestScore => t.guest
  | .period => t.period
  | .homeAux => t.homeAux
  | .guestAux => t.guestAux

/-! ### Sources -/

/-- 06 section 6.1: where the frame at the clip's index of its angle begins. -/
def clipSource (c : Clip) : Nat := c.bases.getD c.angle 0 + c.index * c.stride

/-- R125: what a ribbon's zones show, none while they are inactive. -/
def ribbonContent (r : Ribbon) : Option Content :=
  match r.state, r.committed with
  | .on, some l | .stopping, some l =>
    match r.entry with
    | .slot i =>
      match l.slots[i]? with
      | some { content := .sponsor id duty raster, .. } => some (.sponsorSlot i id duty raster)
      | _ => some (.houseMark l.house)
    | .house => some (.houseMark l.house)
    | .none => none
  | _, _ => none

/-- R161: the crawl offset, 0 for a STILL. -/
def crawlOffset : Showing → Nat
  | .crawl o => o
  | _ => 0

/-- The buffer on air. -/
def House.shown (h : House) : Nat :=
  match h.onAir with
  | .a => h.bufA
  | .b => h.bufB

def findHouse (zone : Nat) (s : State) : Option House := s.path.houses.find? (fun h => h.zone == zone)

/-- R12, REPLAY row, with R114 and R118. -/
def clipActive (c : Clip) : Bool :=
  !(c.state == .ended && c.endedDark) && (!c.growing || (c.index : Int) ≤ c.mark)

/-- R14: what a zone whose source has content for the frame shows; none for an inactive zone (R12). -/
def zoneContent (s : State) (z : ZoneRec) : Option Content :=
  match z.role with
  | .replay =>
    match s.replay.current with
    | some c => if clipActive c then some (.clipFrame c.id c.angle c.index (clipSource c)) else none
    | none => none
  | .sponsor r => ribbonContent (ribbonOf r s)
  | .figure f => s.figures.glyphs.map (fun _ => .figureString (figureString s.figures.strings f))
  | .message =>
    s.messages.onAir.map (fun o => .message o.msg.id o.msg.sponsor o.msg.addr (crawlOffset o.showing))
  | .house _ _ _ =>
    match findHouse z.id s with
    | some h => if h.stale then none else some (.houseBuffer h.shown)
    | none => none

/-- R12. -/
def zoneActive (s : State) (z : ZoneRec) : Bool := (zoneContent s z).isSome

/-- R14: the planned content identity, DARK for an inactive zone. -/
def zoneIdent (s : State) (z : ZoneRec) : Ident :=
  match zoneContent s z with
  | some c => .shown z.layer z.role c
  | none => .dark

/-! ### Fetch runs and pixels -/

/-- R161, R162: how a message lies in a zone of width `w`; no raster column is shown at offset 0, nor at one that has
passed the raster. -/
def messageShape (m : Message) (showing : Showing) (w : Nat) : Shape :=
  match m.mode with
  | .still _ => .window 0 (min m.width w - 1) 0
  | .crawl _ =>
    let o := crawlOffset showing
    if o = 0 ∨ m.width + w ≤ o then .blank
    else .window (o - w) (min m.width o - 1) (w - o)

/-- The shape of what a zone shows. -/
def zoneShape (s : State) (z : ZoneRec) : Shape :=
  match z.role with
  | .figure f =>
    match s.figures.glyphs with
    | some g => .cells (cellCount f) g.cellWidth g.cellHeight
    | none => .blank
  | .message =>
    match s.messages.onAir with
    | some o => messageShape o.msg o.showing z.w
    | none => .blank
  | _ => .whole

/-- A zone-sized raster is one run (R16). -/
def rasterRun (a : Nat) (w h : Nat) : List Run := [{ addr := a, lines := rasterLines w h }]

/-- R94: one run for each cell, in cell order. -/
def glyphRuns (g : GlyphSet) (cells : List Glyph) : List Run :=
  cells.map (fun x => { addr := glyphAddr g x, lines := rasterLines g.cellWidth g.cellHeight })

/-- R162: one run for each raster row, in row order. -/
def messageRuns (m : Message) (shape : Shape) (h : Nat) : List Run :=
  match shape with
  | .window first last _ =>
    (List.range h).map (fun y =>
      { addr := m.addr + y * m.width * 4 + (first / 16) * 64, lines := last / 16 - first / 16 + 1 })
  | _ => []

/-- R16: the runs of an active zone, from its planned identity. -/
def zoneRuns (s : State) (z : ZoneRec) : List Run :=
  match zoneContent s z with
  | none => []
  | some (.clipFrame _ _ _ a) => rasterRun a z.w z.h
  | some (.sponsorSlot _ _ _ a) => rasterRun a z.w z.h
  | some (.houseMark a) => rasterRun a z.w z.h
  | some (.houseBuffer a) => rasterRun a z.w z.h
  | some (.figureString cells) =>
    match s.figures.glyphs with
    | some g => glyphRuns g cells
    | none => []
  | some (.message _ _ _ _) =>
    match s.messages.onAir with
    | some o => messageRuns o.msg (zoneShape s z) z.h
    | none => []

/-- A fetch record with no empty run (R16). -/
def startFetch (runs : List Run) : Fetch := { runs := runs.filter (fun r => 0 < r.lines), got := [] }

/-- The fetch is complete: no line remains. -/
def Fetch.complete (f : Fetch) : Bool := f.runs.isEmpty

/-- The address of the next line of a fetch. -/
def Fetch.next (f : Fetch) : Option Nat := f.runs.head?.map (·.addr)

/-- R16: an arrival advances the next address and reduces the lines remaining, moving to the next run when a run is done. -/
def Fetch.take (f : Fetch) (l : Line) : Fetch :=
  match f.runs with
  | [] => f
  | r :: rest =>
    { runs := if r.lines ≤ 1 then rest else { addr := r.addr + 64, lines := r.lines - 1 } :: rest
      got := f.got ++ [l] }

/-- The pixels of `n` lines from the `k`-th on. -/
def pixelsOf (got : List Line) (k n : Nat) : List Pixel := ((got.drop k).take n).flatMap linePixels

/-- A row of a zone: pixels from zone column `start`, with backdrop on both sides. -/
def rowOf (z : ZoneRec) (start : Nat) (px : List Pixel) : List Pixel :=
  List.replicate start z.backdrop ++ px ++ List.replicate (z.w - start - px.length) z.backdrop

/-- R16, R94, R162: the zone's pixels, row after row, from the lines of its fetch. -/
def zonePixels (z : ZoneRec) (shape : Shape) (got : List Line) : List Pixel :=
  match shape with
  | .whole => got.flatMap linePixels
  | .cells count cw ch =>
    (List.range z.h).flatMap (fun y =>
      rowOf z 0 ((List.range count).flatMap (fun k => pixelsOf got (k * rasterLines cw ch + y * (cw / 16)) (cw / 16))))
  | .window first last start =>
    let perRow := last / 16 - first / 16 + 1
    (List.range z.h).flatMap (fun y =>
      rowOf z start (((pixelsOf got (y * perRow) perRow).drop (first % 16)).take (last - first + 1)))
  | .blank => List.replicate (z.w * z.h) z.backdrop

/-! ### The watch list (R35, R36) -/

/-- R35, FIGURE row: from the lowest to the end of the highest glyph raster the string uses. -/
def glyphRange (g : GlyphSet) (cells : List Glyph) : Option (Nat × Nat) :=
  match cells.map (glyphAddr g) with
  | [] => none
  | a :: rest =>
    let lo := rest.foldl min a
    let hi := rest.foldl max a
    some (lo, hi + cellBytes g - lo)

/-- R36: one entry from the start of the lower buffer to the end of the higher. -/
def housePair (id bufA bufB size : Nat) : WatchEntry :=
  let lo := min bufA bufB
  { start := lo, len := max bufA bufB + size - lo, zone := some id, kind := .housePair }

/-- R35: the entries of one enabled zone; `merged` says whether R36 merges its two buffers. -/
def watchOf (s : State) (merged : Bool) (z : ZoneRec) : List WatchEntry :=
  let whole (kind : WatchKind) (a : Nat) : WatchEntry :=
    { start := a, len := rasterBytes z.w z.h, zone := some z.id, kind := kind }
  match z.role with
  | .replay =>
    match s.replay.current with
    | some c => [whole .clipFrame (clipSource c)]
    | none => []
  | .sponsor r =>
    match ribbonContent (ribbonOf r s) with
    | some (.sponsorSlot _ _ _ a) => [whole .creative a]
    | some (.houseMark a) => [whole .creative a]
    | _ => []
  | .figure f =>
    match s.figures.glyphs with
    | some g =>
      match glyphRange g (figureString s.figures.strings f) with
      | some (a, n) => [{ start := a, len := n, zone := some z.id, kind := .glyph }]
      | none => []
    | none => []
  | .message =>
    match s.messages.onAir with
    | some o =>
      [{ start := o.msg.addr, len := rasterBytes o.msg.width z.h, zone := some z.id, kind := .messageRaster }]
    | none => []
  | .house a b _ =>
    if merged then [housePair z.id a b (rasterBytes z.w z.h)] else [whole .houseBuffer a, whole .houseBuffer b]

/-- R35: the ALERT_RASTER entry, while the alert is ON_AIR and a raster is chosen. -/
def watchAlert (s : State) : List WatchEntry :=
  match alertOnAir s, s.alert.chosen, s.sweep.header with
  | true, some a, some h => [{ start := a, len := rasterBytes h.width h.height, zone := none, kind := .alertRaster }]
  | _, _, _ => []

/-- R35 with the HOUSE zones of `merged` merged. -/
def watchWith (s : State) (merged : List Nat) : List WatchEntry :=
  (enabledZones s).flatMap (fun z => watchOf s (merged.contains z.cfg.id) z.cfg) ++ watchAlert s

def isHouse (z : ZoneRec) : Bool :=
  match z.role with
  | .house _ _ _ => true
  | _ => false

/-- R36: zones are merged one at a time until the list holds 40 entries or fewer; `ids` are those still unmerged. -/
def fitWatch (s : State) : List Nat → List Nat → List WatchEntry
  | [], merged => watchWith s merged
  | i :: ids, merged =>
    if (watchWith s merged).length ≤ Config.watchCapacity then watchWith s merged else fitWatch s ids (i :: merged)

/-- R35, R36: the watch list of a state, merging from the HOUSE zone with the highest zone ID down. -/
def deriveWatch (s : State) : List WatchEntry :=
  fitWatch s (((enabledZones s).filter (fun z => isHouse z.cfg)).map (·.cfg.id)).reverse []

/-- R37. -/
def rebuildWatch (s : State) : State := { s with path.watch := deriveWatch s }

end Sys2Proof.Machine
end

