-- ==== Sys2Proof/Machine/Exposure.lean ====
section
/-! DEFINITION. The Exposure Table (08): entry requests, slot reports and the snapshot image. -/

namespace Sys2Proof.Machine

/-! ### Entries (R143, R144) -/

def newEntry (sponsor : Nat) : ExposureEntry :=
  { sponsor := sponsor, scheduled := 0, credited := 0, unshown := 0, occluded := 0, dimmed := 0, moment := 0,
    frozen := false }

def hasEntry (sponsor : Nat) (t : List ExposureEntry) : Bool := t.any (fun e => e.sponsor == sponsor)

/-- R143: entries stand in ascending order of sponsor ID. -/
def insertEntry (e : ExposureEntry) : List ExposureEntry → List ExposureEntry
  | [] => [e]
  | x :: t => if e.sponsor < x.sponsor then e :: x :: t else x :: insertEntry e t

/-- R144: the table after an entry request, or none where it is refused TABLE_FULL. -/
def requestEntry (sponsor : Nat) (t : List ExposureEntry) : Option (List ExposureEntry) :=
  if hasEntry sponsor t then some t
  else if t.length < Config.entryCapacity then some (insertEntry (newEntry sponsor) t)
  else none

/-! ### Slot reports (R24, R145 to R148) -/

/-- A slot report (R24). -/
structure SlotReport where
  zone : Nat
  role : Role
  disposition : Disposition
  visible : Bool
  duty : Nat
  ident : Ident
  deriving DecidableEq, Repr

/-- How one scheduled unit is settled. -/
inductive UnitSettlement where
  | credited
  | unshown
  | occluded
  | dimmed
  deriving DecidableEq, Repr

/-- R145: the first test that applies. -/
def settleUnit (d : Disposition) (visible : Bool) (duty minDuty : Nat) : UnitSettlement :=
  if d = .unsent ∨ d = .dark ∨ d = .stalled then .unshown
  else if !visible then .occluded
  else if duty < minDuty then .dimmed
  else .credited

/-- R145, R148: one scheduled unit and its settlement; the entry freezes when scheduled reaches its largest value, and a
frozen entry takes no change. -/
def scheduleUnit (u : UnitSettlement) (e : ExposureEntry) : ExposureEntry :=
  if e.frozen then e
  else
    { e with
      scheduled := e.scheduled + 1
      credited := if u = .credited then e.credited + 1 else e.credited
      unshown := if u = .unshown then e.unshown + 1 else e.unshown
      occluded := if u = .occluded then e.occluded + 1 else e.occluded
      dimmed := if u = .dimmed then e.dimmed + 1 else e.dimmed
      frozen := Config.countMax ≤ e.scheduled + 1 }

/-- R147: a moment credit, saturating, outside the scheduled balance. -/
def creditMoment (e : ExposureEntry) : ExposureEntry :=
  if e.frozen then e else { e with moment := saturate Config.countMax e.moment }

/-- Change the entry of one sponsor. -/
def onEntry (sponsor : Nat) (f : ExposureEntry → ExposureEntry) (t : List ExposureEntry) : List ExposureEntry :=
  t.map (fun e => if e.sponsor = sponsor then f e else e)

/-- R145 to R147: what one report does to the table. -/
def takeReport (r : SlotReport) (t : List ExposureEntry) : List ExposureEntry :=
  match r.role, r.ident with
  | .sponsor _, .shown _ _ (.sponsorSlot _ sponsor minDuty _) =>
    onEntry sponsor (scheduleUnit (settleUnit r.disposition r.visible r.duty minDuty)) t
  | .message, .shown _ _ (.message _ sponsor _ _) =>
    if sponsor ≠ 0 ∧ (r.disposition = .fresh ∨ r.disposition = .held) ∧ r.visible then
      onEntry sponsor creditMoment t
    else t
  | _, _ => t

def reportSlot (r : SlotReport) (s : State) : State :=
  { s with exposure.entries := takeReport r s.exposure.entries }

/-! ### Snapshot (R150 to R153) -/

/-- R151: the sponsors a list names. -/
def listSponsors (l : SlotList) : List Nat :=
  l.slots.filterMap (fun x =>
    match x.content with
    | .sponsor id _ _ => some id
    | .skip => none)

def ribbonSponsors (r : Ribbon) : List Nat :=
  (r.committed.map listSponsors).getD [] ++ (r.staged.map (fun x => listSponsors x.list)).getD []

/-- R151: the sponsors that a purge keeps. -/
def referenced (s : State) : List Nat :=
  ribbonSponsors s.rotation.a ++ ribbonSponsors s.rotation.b
    ++ (s.rotation.gather.map (fun g => listSponsors g.list)).getD []
    ++ s.messages.queue.map (·.sponsor) ++ (s.messages.onAir.map (fun o => [o.msg.sponsor])).getD []

/-- R151, step 2. -/
def zeroEntry (e : ExposureEntry) : ExposureEntry := newEntry e.sponsor

/-- R151: the table after zeroing and purging as flagged. -/
def zeroAndPurge (zero purge : Bool) (keep : List Nat) (t : List ExposureEntry) : List ExposureEntry :=
  let t := if zero then t.map zeroEntry else t
  if purge then t.filter (fun e => keep.contains e.sponsor) else t

/-- Entry lines of an image of `n` entries (R150). -/
def entryLines (n : Nat) : Nat := (n + 1) / 2

/-- R152: the header, the entry lines, the header again. -/
def snapshotLines (n : Nat) : List SnapshotLine :=
  .header .inProgress :: ((List.range (entryLines n)).map SnapshotLine.entries ++ [.header .complete])

def snapshotStateCode : SnapshotState → Nat
  | .inProgress => 1
  | .complete => 2
  | .cancelled => 3

/-- 08 section 8.6, header line. -/
def snapshotHeader (p : Snapshot) (state : SnapshotState) : Line :=
  let l := placeNat (0 : Line) 0 8 (snapshotStateCode state)
  let l := placeNat l 1 8 (flagNat p.zero + 2 * flagNat p.purge)
  let l := place (place l 2 p.tag) 4 p.number
  placeNat l 8 8 p.image.length

/-- 08 section 8.6, one entry at offset `off` of its line. -/
def placeEntry (l : Line) (off : Nat) (e : ExposureEntry) : Line :=
  let l := placeNat l off 8 e.sponsor
  let l := placeNat l (off + 1) 8 (flagNat e.frozen)
  let l := placeNat (placeNat l (off + 8) 32 e.scheduled) (off + 12) 32 e.credited
  let l := placeNat (placeNat l (off + 16) 32 e.unshown) (off + 20) 32 e.occluded
  placeNat (placeNat l (off + 24) 32 e.dimmed) (off + 28) 32 e.moment

/-- Entry line `n`: two entries in image order, the second half zeros where there is none (R152). -/
def snapshotEntries (p : Snapshot) (n : Nat) : Line :=
  let first := match p.image[2 * n]? with
    | some e => placeEntry 0 0 e
    | none => 0
  match p.image[2 * n + 1]? with
  | some e => placeEntry first 32 e
  | none => first

/-- Where a snapshot line goes (R152). -/
def snapshotAddr (p : Snapshot) : SnapshotLine → Nat
  | .header _ => p.dest
  | .entries n => p.dest + 64 + 64 * n

def snapshotData (p : Snapshot) : SnapshotLine → Line
  | .header state => snapshotHeader p state
  | .entries n => snapshotEntries p n

/-- Entries that entry line `n` carries. -/
def entriesCarried (p : Snapshot) (n : Nat) : Nat := min 2 (p.image.length - 2 * n)

/-- R152: what follows from the landing of a snapshot line, with the rest of the lines still to write. -/
def snapshotLanded (p : Snapshot) (line : SnapshotLine) (rest : List SnapshotLine) (s : State) : State :=
  match line with
  | .entries n =>
    let p' := { p with lines := rest, written := p.written + entriesCarried p n }
    setRecords p'.written { s with exposure.snapshot := some p' }
  | .header .complete =>
    settleLong .done p.image.length { s with exposure.snapshot := some { p with lines := rest } }
  | .header _ => { s with exposure.snapshot := some { p with lines := rest } }

/-- R152: a snapshot line lands at its grant. -/
def writeSnapshotLine (p : Snapshot) (line : SnapshotLine) (rest : List SnapshotLine) (s : State) : State :=
  snapshotLanded p line rest (writeWhole (snapshotAddr p line) (snapshotData p line) s)

/-- R153: entry lines and the COMPLETE header not yet granted are withdrawn, and the header is rewritten CANCELLED. -/
def cancelledLines (lines : List SnapshotLine) : List SnapshotLine :=
  lines.filter (fun l => l == .header .inProgress) ++ [.header .cancelled]

/-- R153: the snapshot's end by CANCEL or RESTART. -/
def cancelSnapshot (p : Snapshot) (s : State) : State :=
  settleLong .cancelled p.written { s with exposure.snapshot := some { p with lines := cancelledLines p.lines } }

end Sys2Proof.Machine
end

