-- ==== Sys2Proof/Machine/Messages.lean ====
section
/-! DEFINITION. The Message Queue (09): posting, queue order, going on air, showings, preemption and withdrawal. -/

namespace Sys2Proof.Machine

/-! ### The record (R155) -/

/-- R155: the field checks. A priority-3, sponsor or duration field is judged by the number it carries. -/
def messageOk (m : MessageOperand) : Bool :=
  m.id != 0
    && m.priority.toNat ≤ 3
    && m.sponsor.toNat ≤ 250
    && (match m.mode.toNat with
        | 0 => 25 ≤ m.duration.toNat && m.duration.toNat ≤ 6000
        | 1 => 1 ≤ m.speed.toNat && m.speed.toNat ≤ 16 && m.duration == 0
        | _ => false)
    && sizeOk 16 16384 m.width.toNat
    && sizeOk 16 4096 m.height.toNat
    && 1 ≤ m.repeats.toNat && m.repeats.toNat ≤ 4
    && lineAligned m.addr.toNat
    && fits m.addr.toNat (rasterBytes m.width.toNat m.height.toNat)

/-- The record of a checked operand, its repeats remaining loaded from the repeats field. -/
def messageRecord (m : MessageOperand) : Message :=
  { id := m.id.toNat, priority := m.priority.toNat, sponsor := m.sponsor.toNat
    mode := if m.mode = 0 then .still m.duration.toNat else .crawl m.speed.toNat
    width := m.width.toNat, height := m.height.toNat, repeats := m.repeats.toNat, addr := m.addr.toNat
    remaining := m.repeats.toNat }

/-! ### Queue order (R157, R158) -/

/-- R157: at the tail of its class. -/
def insertTail (m : Message) : List Message → List Message
  | [] => [m]
  | x :: q => if m.priority ≤ x.priority then x :: insertTail m q else m :: x :: q

/-- R163: at the head of its class. -/
def insertHead (m : Message) : List Message → List Message
  | [] => [m]
  | x :: q => if m.priority < x.priority then x :: insertHead m q else m :: x :: q

/-- R157: a post whose ID is queued keeps its place where the priority is unchanged, else it joins the tail of its new class. -/
def replaceQueued (m : Message) (q : List Message) : List Message :=
  if q.any (fun x => x.id == m.id && x.priority == m.priority) then
    q.map (fun x => if x.id = m.id then m else x)
  else insertTail m (q.filter (fun x => x.id != m.id))

def queued (id : Nat) (q : List Message) : Bool := q.any (fun x => x.id == id)

/-- R158: the queue that a joining record leaves, and the record evicted. -/
def evict (q : List Message) : List Message × Option Message :=
  if Config.messageCapacity < q.length then (q.dropLast, q.getLast?) else (q, none)

/-- R158: take a queue that a record has joined. -/
def joinQueue (q : List Message) (s : State) : State :=
  let (kept, gone) := evict q
  match gone with
  | some m => raise .messageEvicted { s with messages.queue := kept, messages.lastGone := m.id }
  | none => { s with messages.queue := kept }

/-! ### Going on air (R159) -/

/-- R159: the heads of the wrong height that are dropped, and the head that matches with the queue it leaves. -/
def chooseHead (h : Nat) : List Message → List Message × Option (Message × List Message)
  | [] => ([], none)
  | m :: q =>
    if m.height = h then ([], some (m, q))
    else
      let (dropped, found) := chooseHead h q
      (m :: dropped, found)

/-- R159: a dropped head raises MESSAGE_DROPPED and becomes the last evicted or dropped message. -/
def dropHeads (dropped : List Message) (s : State) : State :=
  match dropped.getLast? with
  | some m => raise .messageDropped { s with messages.lastGone := m.id }
  | none => s

/-- R159: the choice, where no record is on air, the layout has a MESSAGE zone, which is `zone`, and the alert is not
ON_AIR. -/
def putOnAirIn (zone : Option ZoneRec) (s : State) : State :=
  match s.messages.onAir, zone, alertOnAir s with
  | none, some z, false =>
    let (dropped, found) := chooseHead z.h s.messages.queue
    match found with
    | some (m, q) =>
      dropHeads dropped
        { s with messages.queue := q, messages.onAir := some { msg := m, showing := .notStarted } }
    | none => dropHeads dropped { s with messages.queue := [] }
  | _, _, _ => s

/-- R161: an event that changed the on-air record bumps the MESSAGE zone's epoch once; the watch list is rebuilt (R37). -/
def airChanged (s : State) : State := rebuildWatch (bumpZones isMessage s)

/-- The choice of R159 at the end of an event, for a MESSAGE zone; `left` says that a record left the air at it. -/
def settleAirIn (zone : Option ZoneRec) (left : Bool) (s : State) : State :=
  let s' := putOnAirIn zone s
  if left || (s.messages.onAir.isNone && s'.messages.onAir.isSome) then airChanged s' else s'

/-- The choice of R159 for the MESSAGE zone of the current layout. -/
def settleAir (left : Bool) (s : State) : State := settleAirIn (messageZone s) left s

/-- R163, R165, R166: the on-air record returns to the head of its class, its next showing whole. -/
def returnToQueue (s : State) : State :=
  match s.messages.onAir with
  | some o => joinQueue (insertHead o.msg s.messages.queue) { s with messages.onAir := none }
  | none => s

/-! ### Posting (R156, R163) -/

/-- What a post came to. -/
structure PostOutcome where
  state : State
  result : Result
  detail : Nat

/-- R163: priority 3 against a record of priority below 3 on air. -/
def preempts (m : Message) (s : State) : Bool :=
  match s.messages.onAir with
  | some o => m.priority == 3 && o.msg.priority < 3
  | none => false

def onAirId (s : State) : Option Nat := s.messages.onAir.map (·.msg.id)

/-- R156, step 3. -/
def postOverflows (m : Message) (s : State) : Bool :=
  !queued m.id s.messages.queue && Config.messageCapacity ≤ s.messages.queue.length
    && s.messages.queue.all (fun x => m.priority ≤ x.priority) && !preempts m s

/-- R157, R163: where a post that passed every step goes. -/
def placePost (m : Message) (s : State) : State :=
  if preempts m s then
    let rest := s.messages.queue.filter (fun x => x.id != m.id)
    let s' := returnToQueue { s with messages.queue := rest }
    airChanged { s' with messages.onAir := some { msg := m, showing := .notStarted } }
  else if queued m.id s.messages.queue then
    settleAir false { s with messages.queue := replaceQueued m s.messages.queue }
  else settleAir false (joinQueue (insertTail m s.messages.queue) s)

/-- The record evicted by a placement: the queue overflows only where the ID is not queued. -/
def postEvicts (m : Message) (s : State) : Option Message :=
  if queued m.id s.messages.queue then none
  else if preempts m s then
    match s.messages.onAir with
    | some o => (evict (insertHead o.msg s.messages.queue)).2
    | none => none
  else (evict (insertTail m s.messages.queue)).2

/-- R156: the MESSAGE zone's height differs from the raster's. -/
def heightMismatch (m : Message) (s : State) : Option Nat :=
  match messageZone s with
  | some z => if z.h = m.height then none else some z.id
  | none => none

/-- R156 after the field checks: GEOMETRY, ON_AIR, QUEUE_FULL, TABLE_FULL, or DONE and the placement. -/
def post (m : Message) (s : State) : PostOutcome :=
  match heightMismatch m s with
  | some id => { state := s, result := .geometry, detail := id }
  | none =>
    if onAirId s = some m.id then { state := s, result := .onAir, detail := 0 }
    else if postOverflows m s then { state := s, result := .queueFull, detail := 0 }
    else
      match (if m.sponsor = 0 then some s.exposure.entries else requestEntry m.sponsor s.exposure.entries) with
      | none => { state := s, result := .tableFull, detail := 0 }
      | some t =>
        { state := placePost m { s with exposure.entries := t }
          result := .done
          detail := ((postEvicts m s).map (·.id)).getD 0 }

/-! ### Withdrawal (R164) -/

/-- R164. -/
def withdraw (id : Nat) (s : State) : PostOutcome :=
  if id = 0 then { state := s, result := .range, detail := 0 }
  else if onAirId s = some id then
    { state := settleAir true { s with messages.onAir := none }, result := .done, detail := 1 }
  else if queued id s.messages.queue then
    { state := { s with messages.queue := s.messages.queue.filter (fun x => x.id != id) }
      result := .done
      detail := 0 }
  else { state := s, result := .range, detail := 0 }

/-! ### Boundary work (R160) -/

/-- R160: a record starts. -/
def startShowing (m : Message) : Showing :=
  match m.mode with
  | .still d => .still d
  | .crawl _ => .crawl 0

/-- R160: an on-air record that has not started starts. -/
def startOnAir (s : State) : State :=
  match s.messages.onAir with
  | some { msg := m, showing := .notStarted } =>
    { s with messages.onAir := some { msg := m, showing := startShowing m } }
  | _ => s

/-- R160, R166: the MESSAGE zone that a boundary leaves, that of the pending layout where one is to be applied at it. So
the order of the application and the Message Queue's work does not change which record ends on air, but for the corner of a
full queue that log 31 names. -/
def boundaryZone (s : State) : Option ZoneRec :=
  match s.sweep.load with
  | some { pending := some l, .. } => l.zones.find? isMessage
  | _ => messageZone s

/-- R160: a showing ends: a repeat is spent, the record returns to the tail of its class or is discarded, and the head
goes on air. -/
def endShowing (m : Message) (s : State) : State :=
  let s := { s with messages.onAir := none }
  let s :=
    if m.remaining ≤ 1 then s
    else joinQueue (insertTail { m with remaining := m.remaining - 1 } s.messages.queue) s
  settleAirIn (boundaryZone s) true s

/-- R160: the width of the MESSAGE zone, read at the boundary: of the zone that the boundary leaves, or of the zone it
takes away (log 31). -/
def messageWidth (s : State) : Nat := (((boundaryZone s) <|> (messageZone s)).map (·.w)).getD 0

/-- R160: one boundary of a started record. -/
def stepShowing (o : OnAir) (s : State) : State :=
  match o.showing with
  | .notStarted => startOnAir s
  | .still n =>
    if n ≤ 1 then endShowing o.msg s
    else { s with messages.onAir := some { msg := o.msg, showing := .still (n - 1) } }
  | .crawl offset =>
    let speed := match o.msg.mode with
      | .crawl v => v
      | .still _ => 0
    let next := offset + speed
    let s := bumpZones isMessage { s with messages.onAir := some { msg := o.msg, showing := .crawl next } }
    if o.msg.width + messageWidth s ≤ next then endShowing o.msg s else s

/-- R160: the Message Queue's work at a sweep boundary. -/
def messageWork (s : State) : State :=
  match s.messages.onAir with
  | some o => stepShowing o s
  | none => s

/-! ### Layouts (R166) -/

/-- R166: what a layout's application does, from the old MESSAGE zone to the new one, once the new zones stand. -/
def messageRelayout (old new : Option ZoneRec) (s : State) : State :=
  match old, new with
  | _, none => if s.messages.onAir.isSome then airChanged (returnToQueue s) else s
  | none, some _ => settleAir false s
  | some o, some n =>
    if o.h = n.h then s
    else settleAir s.messages.onAir.isSome (returnToQueue s)

/-- R165: the alert's entry to ON_AIR. -/
def alertReturnsMessage (s : State) : State :=
  if s.messages.onAir.isSome then airChanged (returnToQueue s) else s

end Sys2Proof.Machine
end

