-- ==== Sys2Proof/Machine/Figures.lean ====
section
/-! DEFINITION. The Figure Renderer (05): glyph strings, score fields, the celebration and the glyph set record. -/

namespace Sys2Proof.Machine

/-! ### Strings (R91, R92) -/

def digit (n : Nat) : Glyph := .digit (Fin.ofNat 10 n)

/-- A number below 10,000 in decimal without leading zeros; 0 is "0". -/
def decimal (n : Nat) : List Glyph :=
  if n < 10 then [digit n]
  else if n < 100 then [digit (n / 10), digit n]
  else if n < 1000 then [digit (n / 100), digit (n / 10), digit n]
  else [digit (n / 1000), digit (n / 100), digit (n / 10), digit n]

/-- Characters in the rightmost of `n` cells, blanks to their left. -/
def rightAlign (n : Nat) (g : List Glyph) : List Glyph := List.replicate (n - g.length) .blank ++ g

def scoreString (n : Nat) : List Glyph := rightAlign 3 (decimal n)

/-- A glyph set in use with both O and T. -/
def hasOT (g : Option GlyphSet) : Bool :=
  match g with
  | some x => x.hasO && x.hasT
  | none => false

def hasDash (g : Option GlyphSet) : Bool :=
  match g with
  | some x => x.hasDash
  | none => false

/-- R92, the two PERIOD rows. -/
def periodString (g : Option GlyphSet) (period : Nat) : List Glyph :=
  if 5 ≤ period ∧ hasOT g then [.letterO, .letterT] else rightAlign 2 (decimal period)

/-- R92, the two aux rows. -/
def auxString (g : Option GlyphSet) (v : Nat) : List Glyph :=
  if v = 0 ∧ hasDash g then [.blank, .dash] else rightAlign 2 (decimal v)

/-- The seven strings of the values the Renderer holds; the clock strings are those the Clock Unit hands on. -/
def renderStrings (f : FigureRenderer) (game secondary : List Glyph) : FigureStrings :=
  { game := game, secondary := secondary
    home := scoreString f.home, guest := scoreString f.guest
    period := periodString f.glyphs f.period
    homeAux := auxString f.glyphs f.homeAux, guestAux := auxString f.glyphs f.guestAux }

/-- R93: the enabled FIGURE zones whose figure's string differs are bumped once, and a change is reported (R37). -/
def showsChanged (old new : FigureStrings) (z : ZoneRec) : Bool :=
  match z.role with
  | .figure f => figureString old f != figureString new f
  | _ => false

/-- R91 to R93: recompute the strings at an event. -/
def refreshStrings (s : State) : State :=
  let old := s.figures.strings
  let new := renderStrings s.figures s.clock.gameString s.clock.secondaryString
  let s := bumpZones (showsChanged old new) { s with figures.strings := new }
  if old = new then s else rebuildWatch s

/-! ### Score fields and the celebration (R95 to R98) -/

/-- R65, R96. -/
def clampScore (v : Nat) : Nat := min v Config.scoreMax

def clampAux (v : Nat) : Nat := min v Config.auxMax

/-- R98: the celebration post; any result but DONE raises MESSAGE_DROPPED and names the record. -/
def celebrate (m : Message) (s : State) : State :=
  let p := post m s
  if p.result = .done then p.state
  else raise .messageDropped { p.state with messages.lastGone := m.id }

/-- R95: write the four fields, recompute their strings, and post the celebration on a home score increase. -/
def writeScores (p : ScorePayload) (s : State) : State :=
  let held := s.figures.home
  let home := clampScore p.home.toNat
  let s := refreshStrings
    { s with
      figures.home := home
      figures.guest := clampScore p.guest.toNat
      figures.homeAux := clampAux p.homeAux.toNat
      figures.guestAux := clampAux p.guestAux.toNat }
  match s.figures.celebration with
  | some m => if held < home then celebrate m s else s
  | none => s

/-! ### The glyph set record (R86 to R90) -/

/-- R87: the header checks. -/
def glyphHeaderOk (l : Line) : Bool :=
  sizeOk 16 256 (halfNat l 0) && sizeOk 16 512 (halfNat l 2) && byteNat l 4 < 8

/-- The glyph addresses of lines 1 and 2. -/
def glyphAddrs (l1 l2 : Line) : List Nat :=
  (List.range 8).map (fun k => quadNat l1 (8 * k)) ++ (List.range 8).map (fun k => quadNat l2 (8 * k))

/-- Glyph `g` is in a set of this spare mask: glyphs 0 to 12 always, 13 to 15 by their spare bits. -/
def glyphPresent (spare : Byte) (g : Nat) : Bool := g < 13 || spare.getLsbD (g - 13)

/-- The set that a record describes; the address of an absent spare glyph is not read. -/
def glyphSetOf (l0 l1 l2 : Line) : GlyphSet :=
  let spare := byteAt l0 4
  { cellWidth := halfNat l0 0, cellHeight := halfNat l0 2
    hasO := spare.getLsbD 0, hasT := spare.getLsbD 1, hasDash := spare.getLsbD 2
    addrs := (glyphAddrs l1 l2).mapIdx (fun g a => if glyphPresent spare g then a else 0) }

/-- R87: the lowest glyph whose address fails. -/
def badGlyph (l0 l1 l2 : Line) : Option Nat :=
  let bytes := rasterBytes (halfNat l0 0) (halfNat l0 2)
  (List.range 16).find? (fun g =>
    let a := (glyphAddrs l1 l2).getD g 0
    glyphPresent (byteAt l0 4) g && !(lineAligned a && fits a bytes))

/-- R88: an enabled FIGURE zone that a cell size does not fit. -/
def figureFits (cw ch : Nat) (z : ZoneRec) : Bool :=
  match z.role with
  | .figure f => cellCount f * cw ≤ z.w && z.h == ch
  | _ => true

/-- R88: the lowest zone ID that does not fit. -/
def misfitZone (g : GlyphSet) (s : State) : Option Nat :=
  ((enabledZones s).find? (fun z => !figureFits g.cellWidth g.cellHeight z.cfg)).map (·.cfg.id)

/-- Glyphs of a set (R89). -/
def glyphCount (g : GlyphSet) : Nat := 13 + flagNat g.hasO + flagNat g.hasT + flagNat g.hasDash

/-- R89: the set replaces the one in use; strings recomputed, every enabled FIGURE zone bumped once, watch list rebuilt. -/
def replaceGlyphs (g : GlyphSet) (s : State) : State :=
  let f := { s.figures with glyphs := some g }
  let strings := renderStrings f s.clock.gameString s.clock.secondaryString
  rebuildWatch (bumpZones isFigure { s with figures := { f with strings := strings } })

/-- R90: a GLYPH LOAD that ends without a new set. -/
def refuseGlyphs (r : Result) (detail : Nat) (s : State) : State :=
  settleLong r detail { s with figures.load := none }

/-- R87 to R89, at the arrival of line 2. -/
def judgeGlyphs (l0 l1 l2 : Line) (s : State) : State :=
  match badGlyph l0 l1 l2 with
  | some g => refuseGlyphs .range (1 + g) s
  | none =>
    let set := glyphSetOf l0 l1 l2
    match misfitZone set s with
    | some id => refuseGlyphs .geometry id s
    | none => settleLong .done (glyphCount set) (replaceGlyphs set { s with figures.load := none })

/-- R86: a line of the record arrives. -/
def glyphLine (l : Line) (s : State) : State :=
  match s.figures.load with
  | none => s
  | some load =>
    let lines := load.lines ++ [l]
    let s := setRecords lines.length { s with figures.load := some { load with lines := lines } }
    match lines with
    | [l0] => if glyphHeaderOk l0 then s else refuseGlyphs .range 0 s
    | [l0, l1, l2] => judgeGlyphs l0 l1 l2 s
    | _ => s

/-- GLYPH_LINE_ARRIVAL. -/
def glyphArrival (s : State) : State := arrival (fun o => o == .glyph) glyphLine s

/-- R86: the fetch that an accepted GLYPH LOAD starts, or its immediate refusal. -/
def startGlyphs (addr : Nat) (s : State) : State :=
  if lineAligned addr && fits addr 192 then { s with figures.load := some { addr := addr, lines := [] } }
  else settleLong .range 0 s

/-- R97. -/
def setCelebration (enable : Byte) (m : MessageOperand) (s : State) : PostOutcome :=
  if enable = 0 then { state := { s with figures.celebration := none }, result := .done, detail := 0 }
  else if enable = 1 ∧ messageOk m then
    { state := { s with figures.celebration := some (messageRecord m) }, result := .done, detail := 0 }
  else { state := s, result := .range, detail := 0 }

end Sys2Proof.Machine
end

