-- ==== Sys2Proof/Machine/Clock.lean ====
section
/-! DEFINITION. The Clock Unit (04): the timing line receiver, the console state, beacon discipline, counting and display strings. -/

namespace Sys2Proof.Machine

/-! ### Display strings (R77 to R80) -/

/-- Division rounded up. -/
def ceilDiv (a b : Nat) : Nat := (a + b - 1) / b

/-- Seconds, a dot and tenths, of a count of tenths. -/
def tenthsText (t : Nat) : List Glyph := decimal (t / 10) ++ [.dot, digit t]

/-- Minutes, a colon and two digits of seconds. -/
def minutesText (sec : Nat) : List Glyph := decimal (sec / 60) ++ [.colon, digit (sec % 60 / 10), digit (sec % 60)]

/-- R77, R78. -/
def gameText (tenths : Bool) (c : Clock) : List Glyph :=
  rightAlign 5
    (match c.direction with
    | .down =>
      if tenths ∧ ceilDiv c.value 100 ≤ 599 then tenthsText (ceilDiv c.value 100)
      else minutesText (ceilDiv c.value 1000)
    | .up =>
      if tenths ∧ c.value < 60000 then tenthsText (c.value / 100)
      else minutesText (c.value / 1000))

/-- R79. -/
def secondaryText (tenths : Bool) (c : Clock) : List Glyph :=
  rightAlign 3
    (match c.direction with
    | .down =>
      if tenths ∧ ceilDiv c.value 100 ≤ 49 then tenthsText (ceilDiv c.value 100)
      else decimal (ceilDiv c.value 1000)
    | .up =>
      if tenths ∧ c.value < 5000 then tenthsText (c.value / 100)
      else decimal (c.value / 1000))

/-- R80, R91: the display strings are recomputed, and what changed is handed to the Figure Renderer with the period. -/
def handStrings (s : State) : State :=
  refreshStrings
    { s with
      clock.gameString := gameText s.clock.tenths s.clock.game
      clock.secondaryString := secondaryText s.clock.tenths s.clock.secondary
      figures.period := s.clock.period }

/-! ### Counting (R74, R75) -/

/-- The step of an event and the remainder after it; `ahead` is the step that works off a positive remainder. -/
def slewStep (c : Clock) (p : Nat) (ahead behind : Nat) : Nat × Int :=
  if p = 0 ∧ 0 < c.slew then (ahead, c.slew - 1)
  else if p = 0 ∧ c.slew < 0 then (behind, c.slew + 1)
  else (1, c.slew)

/-- A clock that has expired, or has been stopped, at `v`. -/
def stopAt (v : Nat) (c : Clock) : Clock := { c with value := v, running := false, slew := 0, slewPhase := 0 }

/-- R74, R75: one timebase event of a clock, and whether it expires at it. -/
def stepClock (ceiling : Nat) (c : Clock) : Clock × Bool :=
  if !c.running then (c, false)
  else
    let p := (c.slewPhase + 1) % 10
    match c.direction with
    | .down =>
      let (step, r) := slewStep c p 0 2
      if c.value ≤ step then (stopAt 0 c, true)
      else ({ c with value := c.value - step, slew := r, slewPhase := p }, false)
    | .up =>
      let (step, r) := slewStep c p 2 0
      if ceiling ≤ c.value + step then (stopAt ceiling c, true)
      else ({ c with value := c.value + step, slew := r, slewPhase := p }, false)

def clockOf (k : ClockId) (s : State) : Clock :=
  match k with
  | .game => s.clock.game
  | .secondary => s.clock.secondary

def setClock (k : ClockId) (c : Clock) (s : State) : State :=
  match k with
  | .game => { s with clock.game := c }
  | .secondary => { s with clock.secondary := c }

def clockCeiling : ClockId → Nat
  | .game => Config.gameCeiling
  | .secondary => Config.secondaryCeiling

/-- R74, R75: both clocks take a timebase event; an expiry raises CLOCK_EXPIRED. -/
def stepClocks (s : State) : State :=
  let (g, ge) := stepClock Config.gameCeiling s.clock.game
  let (c, ce) := stepClock Config.secondaryCeiling s.clock.secondary
  handStrings (raiseIf (ge || ce) .clockExpired { s with clock.game := g, clock.secondary := c })

/-- CLOCK_EXPIRY: the timebase event of one clock at which it expires; no effect on a clock that this event does not
bring to its limit (log 9). -/
def expireClock (k : ClockId) (s : State) : State :=
  let (c, expired) := stepClock (clockCeiling k) (clockOf k s)
  if expired then handStrings (raise .clockExpired (setClock k c s)) else s

/-! ### Beacons (R64 to R72) -/

/-- R65: 0 is taken as 1, above 15 as 15. -/
def clampPeriod (v : Nat) : Nat := if v = 0 then 1 else min v Config.periodMax

/-- R70: |e| is 250 or more. -/
def largeError (c : Clock) (value : Nat) : Bool := (250 : Int) ≤ |(value : Int) - c.value|

/-- R70: the snap test, `found` being the console state as it stood when the beacon was taken. -/
def snaps (found : ConsoleState) (value : Nat) (running : Bool) (dir : Direction) (c : Clock) : Bool :=
  found == .absent || found == .freeRun || running != c.running || !c.running || dir != c.direction || largeError c value

/-- R71: CLOCK_SNAP is raised for a large error or a change of running. -/
def snapFlagged (value : Nat) (running : Bool) (c : Clock) : Bool := largeError c value || running != c.running

/-- R71, R72: the clock after a beacon. -/
def discipline (found : ConsoleState) (value : Nat) (running : Bool) (dir : Direction) (c : Clock) : Clock :=
  if snaps found value running dir c then
    { value := value, running := running, direction := dir, slew := 0, slewPhase := 0 }
  else { c with slew := (value : Int) - c.value }

/-- The direction of a code: 0 DOWN, 1 UP. -/
def directionOf (b : Byte) : Direction := if b = 0 then .down else .up

/-- R66: a BEACON taken in a state other than HOUSE. -/
def disciplineClocks (p : BeaconPayload) (s : State) : State :=
  let found := s.clock.console
  let dir := directionOf p.direction
  let gv := min p.gameValue.toNat Config.gameCeiling
  let sv := min p.secondaryValue.toNat Config.secondaryCeiling
  let gr := p.gameRunning == 1
  let sr := p.secondaryRunning == 1
  let flagged :=
    (snaps found gv gr dir s.clock.game && snapFlagged gv gr s.clock.game)
      || (snaps found sv sr dir s.clock.secondary && snapFlagged sv sr s.clock.secondary)
  handStrings (raiseIf flagged .clockSnap
    { s with
      clock.period := clampPeriod p.period.toNat
      clock.game := discipline found gv gr dir s.clock.game
      clock.secondary := discipline found sv sr dir s.clock.secondary
      clock.console := .locked
      clock.watchdog := some Config.watchdogTime })

/-- R64: whether the payload of a BEACON is taken. -/
def beaconValid (p : BeaconPayload) : Bool := p.gameRunning ≤ 1 && p.direction ≤ 1 && p.secondaryRunning ≤ 1

/-- R64, R66: the arrival of a BEACON. -/
def takeBeacon (p : BeaconPayload) (s : State) : State :=
  if !beaconValid p || s.clock.console == .house then s else disciplineClocks p s

/-! ### The timing line receiver (R63, R64) -/

/-- A frame dropped, or done with: HUNT, no gap timer. -/
def huntReceiver : LineReceiver := coldReceiver

/-- Payload bytes a frame of a kind carries. -/
def payloadLength : ConsoleFrame → Nat
  | .beacon => 12
  | .score => 6

/-- Kind codes of 04 section 4.1. -/
def kindCode : ConsoleFrame → Nat
  | .beacon => 1
  | .score => 2

/-- The check: the low 8 bits of the sum of the kind, length and payload bytes. -/
def frameCheck (k : ConsoleFrame) (bytes : List Byte) : Byte :=
  BitVec.ofNat 8 (kindCode k + payloadLength k + (bytes.map (·.toNat)).sum)

/-- A little-endian number from bytes. -/
def leNat : List Byte → Nat
  | [] => 0
  | b :: t => b.toNat + 256 * leNat t

def byteOf (bytes : List Byte) (i : Nat) : Byte := bytes.getD i 0

def fieldOf (bytes : List Byte) (i n : Nat) : Nat := leNat ((bytes.drop i).take n)

/-- BEACON payload, 04 section 4.1. -/
def beaconOf (b : List Byte) : BeaconPayload :=
  { gameValue := BitVec.ofNat 32 (fieldOf b 0 4), gameRunning := byteOf b 4, direction := byteOf b 5
    secondaryValue := BitVec.ofNat 32 (fieldOf b 6 4), secondaryRunning := byteOf b 10, period := byteOf b 11 }

/-- SCORE payload, 04 section 4.1. -/
def scoreOf (b : List Byte) : ScorePayload :=
  { home := BitVec.ofNat 16 (fieldOf b 0 2), guest := BitVec.ofNat 16 (fieldOf b 2 2)
    homeAux := byteOf b 4, guestAux := byteOf b 5 }

/-- What a byte does to the receiver, and the frame it completes. -/
structure ByteOutcome where
  receiver : LineReceiver
  frame : Option (ConsoleFrame × List Byte)
  deriving DecidableEq, Repr

/-- The receiver goes on with its gap timer loaded. -/
def goOn (r : LineReceiver) (state : AssemblyState) : ByteOutcome :=
  { receiver := { r with state := state, gap := some Config.gapTime }, frame := none }

def dropFrame : ByteOutcome := { receiver := huntReceiver, frame := none }

/-- R63: the assembly table, for a byte whose stop bit is high. -/
def assemble (b : Byte) (r : LineReceiver) : ByteOutcome :=
  match r.state with
  | .hunt => if b = 0x7E then goOn r .kind else dropFrame
  | .kind =>
    if b = 0x01 then goOn { r with kind := .beacon } .length
    else if b = 0x02 then goOn { r with kind := .score } .length
    else dropFrame
  | .length =>
    if b.toNat = payloadLength r.kind then goOn { r with bytes := [] } .payload else dropFrame
  | .payload =>
    let bytes := r.bytes ++ [b]
    goOn { r with bytes := bytes } (if bytes.length < payloadLength r.kind then .payload else .check)
  | .check => goOn { r with check := b } .ending
  | .ending =>
    if b = 0x7F ∧ r.check = frameCheck r.kind r.bytes then
      { receiver := huntReceiver, frame := some (r.kind, r.bytes) }
    else dropFrame

/-- R64: a frame taken at its end byte is one arrival of its kind. -/
def takeFrame (k : ConsoleFrame) (bytes : List Byte) (s : State) : State :=
  match k with
  | .beacon => takeBeacon (beaconOf bytes) s
  | .score => writeScores (scoreOf bytes) s

/-- R63: a byte of the timing line at its stop bit. -/
def takeByte (b : Byte) (framingError : Bool) (s : State) : State :=
  let o := if framingError then dropFrame else assemble b s.clock.receiver
  let s := { s with clock.receiver := o.receiver }
  match o.frame with
  | some (k, bytes) => takeFrame k bytes s
  | none => s

/-! ### Millisecond timers of the unit (R63, R67) -/

/-- R63: a timebase event of the gap timer. -/
def stepGap (s : State) : State :=
  match s.clock.receiver.gap with
  | some n =>
    if n ≤ 1 then { s with clock.receiver := huntReceiver } else { s with clock.receiver.gap := some (n - 1) }
  | none => s

/-- GAP_TIMER_EXPIRY: its last timebase event (log 9). -/
def expireGap (s : State) : State :=
  match s.clock.receiver.gap with
  | some n => if n ≤ 1 then stepGap s else s
  | none => s

/-- R67: a timebase event of the watchdog. -/
def stepWatchdog (s : State) : State :=
  match s.clock.watchdog with
  | some n =>
    if n ≤ 1 then raise .consoleLost { s with clock.console := .freeRun, clock.watchdog := none }
    else { s with clock.watchdog := some (n - 1) }
  | none => s

/-- BEACON_WATCHDOG_EXPIRY: its last timebase event (log 9). -/
def expireWatchdog (s : State) : State :=
  match s.clock.watchdog with
  | some n => if n ≤ 1 then stepWatchdog s else s
  | none => s

/-! ### House control (R81 to R83) -/

/-- R81: the code checks of CLOCK SET. -/
def clockSetOk (o : ClockSetOperand) : Bool :=
  o.direction ≤ 1 && o.gameRunning ≤ 1 && o.tenths ≤ 1 && o.secondaryRunning ≤ 1 && o.source ≤ 1

/-- R68, R81. -/
def setClocks (o : ClockSetOperand) (s : State) : State :=
  let dir := directionOf o.direction
  handStrings
    { s with
      clock.game :=
        { value := min o.gameValue.toNat Config.gameCeiling, running := o.gameRunning == 1, direction := dir,
          slew := 0, slewPhase := 0 }
      clock.secondary :=
        { value := min o.secondaryValue.toNat Config.secondaryCeiling, running := o.secondaryRunning == 1,
          direction := dir, slew := 0, slewPhase := 0 }
      clock.tenths := o.tenths == 1
      clock.period := clampPeriod o.period.toNat
      clock.console := if o.source = 1 then .house else .absent
      clock.watchdog := none }

/-- Clock codes of CLOCK RUN and CLOCK STOP. -/
def clockIdOf (b : Byte) : Option ClockId :=
  if b = 0 then some .game else if b = 1 then some .secondary else none

/-- R82, R83: make a clock run, or stop, under house control. -/
def houseControl (run : Bool) (b : Byte) (s : State) : PostOutcome :=
  match clockIdOf b with
  | none => { state := s, result := .range, detail := 0 }
  | some k =>
    if s.clock.console ≠ .house then { state := s, result := .consoleOwns, detail := 0 }
    else if (clockOf k s).running = run then { state := s, result := .done, detail := 0 }
    else
      { state := setClock k { clockOf k s with running := run, slew := 0, slewPhase := 0 } s
        result := .done, detail := 0 }

/-- R85: the warm values; the receiver is kept. -/
def restartClock (s : State) : State := { s with clock := { coldClockUnit with receiver := s.clock.receiver } }

end Sys2Proof.Machine
end

