-- ==== Sys2Proof/Machine/Replay.lean ====
section
/-! DEFINITION. The Replay Engine (06): the clip descriptor, placement, the clip cues, cadence, growing clips and the chase snoop. -/

namespace Sys2Proof.Machine

/-! ### Reports of the engine (R9, R37) -/

/-- A change of the current clip's frame index, angle or identity: the REPLAY zone is bumped once and the watch list rebuilt. -/
def clipChanged (s : State) : State := rebuildWatch (bumpZones isReplay s)

/-- R41: the frame size is the REPLAY zone's w × h × 4, enabled or not. -/
def zoneBytes (z : ZoneRec) : Nat := rasterBytes z.w z.h

/-! ### The descriptor (R101 to R106) -/

/-- R102. -/
def clipHeaderOk (l : Line) : Bool :=
  let growing := byteNat l 4
  halfNat l 0 != 0
    && 1 ≤ byteNat l 2 && byteNat l 2 ≤ 8
    && byteNat l 3 ≤ 3 && growing ≤ 1
    && wordNat l 8 % 64 == 0
    && halfNat l 12 != 0
    && halfNat l 14 ≤ halfNat l 16 && halfNat l 16 < halfNat l 12
    && (growing == 0 || (halfNat l 18 ≤ halfNat l 12 && byteNat l 2 ≤ 1 && byteNat l 3 != 3))

/-- R102, R103: the result that the header gives at its arrival, none where line 1 is fetched. -/
def judgeHeader (l : Line) (s : State) : Option Result :=
  if !clipHeaderOk l then some .range
  else
    match replayZone s with
    | none => some .noZone
    | some z => if wordNat l 8 < zoneBytes z then some .geometry else none

/-- The last frame of an angle, at a frame size, ends at or below the end of memory (R4, R104). -/
def lastFrameFits (base frames stride size : Nat) : Bool := fits (base + (frames - 1) * stride) size

/-- The base addresses of line 1. -/
def clipBases (l0 l1 : Line) : List Nat := (List.range (byteNat l0 2)).map (fun k => quadNat l1 (8 * k))

/-- R104: the lowest angle that fails, at the frame size of the REPLAY zone as it stands. -/
def badAngle (l0 l1 : Line) (size : Nat) : Option Nat :=
  (List.range (byteNat l0 2)).find? (fun k =>
    let a := (clipBases l0 l1).getD k 0
    !(lineAligned a && lastFrameFits a (halfNat l0 12) (wordNat l0 8) size))

/-- End behaviour codes of 06 section 6.2. -/
def behaviourOf (c : Nat) : EndBehaviour :=
  match c with
  | 0 => .haltDark
  | 1 => .haltHold
  | 2 => .loop
  | _ => .angleSweep

/-- R105: the record a descriptor starts as. DESIGN CHOICE (log 34): a clip that is not growing holds the mark −1 and an
empty window; nothing reads them. -/
def clipOf (l0 l1 : Line) : Clip :=
  let growing := byteNat l0 4 == 1
  { state := .armed, endedDark := false, id := halfNat l0 0, bases := clipBases l0 l1, stride := wordNat l0 8
    frames := halfNat l0 12, inPoint := halfNat l0 14, outPoint := halfNat l0 16
    behaviour := behaviourOf (byteNat l0 3), growing := growing
    index := halfNat l0 14, angle := 0, pendingAngle := none, rate := 256, pendingRate := none, acc := 0
    mark := if growing then (halfNat l0 18 : Int) - 1 else -1
    window := 0, chase := none, heldByAlert := false }

/-- R105: placement, with the detail that says where. -/
def placeClip (c : Clip) (s : State) : State :=
  match s.replay.current with
  | none => settleLong .done 1 (clipChanged { s with replay.current := some c, replay.arm := none })
  | some _ => settleLong .done 2 { s with replay.onDeck := some c, replay.arm := none }

/-- R106. -/
def refuseClip (r : Result) (detail : Nat) (s : State) : State :=
  settleLong r detail { s with replay.arm := none }

/-- R104, R105, at the arrival of line 1. -/
def judgeClip (l0 l1 : Line) (s : State) : State :=
  match replayZone s with
  | none => refuseClip .noZone 0 s
  | some z =>
    match badAngle l0 l1 (zoneBytes z) with
    | some k => refuseClip .range (1 + k) s
    | none => placeClip (clipOf l0 l1) s

/-- R101: a line of the descriptor arrives. -/
def clipLine (l : Line) (s : State) : State :=
  match s.replay.arm with
  | none => s
  | some { addr := a, header := none } =>
    let s := setRecords 1 { s with replay.arm := some { addr := a, header := some l } }
    match judgeHeader l s with
    | some r => refuseClip r 0 s
    | none => s
  | some { addr := _, header := some l0 } => judgeClip l0 l (setRecords 2 s)

/-- CLIP_DESCRIPTOR_LINE_ARRIVAL. -/
def clipArrival (s : State) : State := arrival (fun o => o == .clip) clipLine s

/-- R101: the fetch that an accepted CLIP ARM starts, or its immediate refusal. -/
def startClipArm (addr : Nat) (s : State) : State :=
  if lineAligned addr && fits addr 128 then { s with replay.arm := some { addr := addr, header := none } }
  else settleLong .range 0 s

/-! ### Clip cues (R107 to R111) -/

/-- R107. -/
def clipTake (s : State) : PostOutcome :=
  if s.replay.onDeck.isNone then { state := s, result := .wrongState, detail := 0 }
  else { state := { s with replay.take := true }, result := .done, detail := 0 }

/-- R108. -/
def clipDrop (s : State) : PostOutcome :=
  { state := if s.replay.current.isSome then rebuildWatch { s with replay.current := none } else s
    result := .done, detail := 0 }

/-- R109, R111: rates run from 1 to 512. -/
def rateOk (r : Half) : Bool := r != 0 && r.toNat ≤ 512

/-- R109, step 1: from ENDED the clip starts at its in-point on angle 0, with no pending angle. -/
def rewind (c : Clip) : Clip :=
  if c.state = .ended then { c with index := c.inPoint, angle := 0, pendingAngle := none } else c

/-- R109: the clip that a CLIP PLAY leaves. -/
def playClip (rate : Nat) (waits : Bool) (c : Clip) : Clip :=
  { rewind c with
    rate := rate, pendingRate := none, acc := 0, heldByAlert := false, endedDark := false
    state := if waits then .guarded else .playing }

/-- The frame index or the angle differs. -/
def moved (a b : Clip) : Bool := a.index != b.index || a.angle != b.angle

/-- R110: detail 1 where the held-by-alert mark was set. -/
def heldDetail (c : Clip) : Nat := flagNat c.heldByAlert

/-- R109. -/
def clipPlay (rate : Half) (guardFlag : Byte) (s : State) : PostOutcome :=
  if !rateOk rate || guardFlag.toNat > 1 then { state := s, result := .range, detail := 0 }
  else
    match s.replay.current with
    | none => { state := s, result := .wrongState, detail := 0 }
    | some c =>
      if c.state = .guarded ∨ c.state = .playing then { state := s, result := .wrongState, detail := 0 }
      else if alertOnAir s then { state := s, result := .wrongState, detail := 1 }
      else
        let c' := playClip rate.toNat (guardFlag == 1 && clockPhase s == .running) c
        let s' := { s with replay.current := some c' }
        { state := if moved c c' then clipChanged s' else s', result := .done, detail := heldDetail c }

/-- R110. -/
def clipHold (s : State) : PostOutcome :=
  match s.replay.current with
  | some c =>
    if c.state = .playing then
      { state := { s with replay.current := some { c with state := .held, chase := none } }
        result := .done, detail := 0 }
    else if c.state = .guarded then
      { state := { s with replay.current := some { c with state := .armed } }, result := .done, detail := 0 }
    else { state := s, result := .wrongState, detail := 0 }
  | none => { state := s, result := .wrongState, detail := 0 }

/-- R110. -/
def clipResume (s : State) : PostOutcome :=
  match s.replay.current with
  | some c =>
    if c.state = .held then
      if alertOnAir s then { state := s, result := .wrongState, detail := 1 }
      else
        { state := { s with replay.current := some { c with state := .playing, heldByAlert := false } }
          result := .done, detail := heldDetail c }
    else { state := s, result := .wrongState, detail := 0 }
  | none => { state := s, result := .wrongState, detail := 0 }

/-- R111. -/
def clipRate (rate : Half) (s : State) : PostOutcome :=
  if !rateOk rate then { state := s, result := .range, detail := 0 }
  else
    match s.replay.current with
    | none => { state := s, result := .wrongState, detail := 0 }
    | some c =>
      { state := { s with replay.current := some { c with pendingRate := some rate.toNat } }
        result := .done, detail := 0 }

/-- R111: the state before the angle. -/
def clipAngle (angle : Byte) (s : State) : PostOutcome :=
  match s.replay.current with
  | none => { state := s, result := .wrongState, detail := 0 }
  | some c =>
    if c.bases.length ≤ angle.toNat then { state := s, result := .range, detail := 0 }
    else
      { state := { s with replay.current := some { c with pendingAngle := some angle.toNat } }
        result := .done, detail := 0 }

/-! ### Cadence (R111 to R113, R117) -/

/-- R113: the outcome of a target above the out-point; the second part says whether the clip has ended. -/
def endClip (target : Nat) (c : Clip) : Clip × Bool :=
  let loopIndex := c.inPoint + (target - c.outPoint - 1) % (c.outPoint - c.inPoint + 1)
  match c.behaviour with
  | .haltHold => ({ c with index := c.outPoint, state := .ended, endedDark := false }, true)
  | .haltDark => ({ c with index := c.outPoint, state := .ended, endedDark := true }, true)
  | .loop => ({ c with index := loopIndex }, false)
  | .angleSweep =>
    if c.angle + 1 < c.bases.length then ({ c with index := loopIndex, angle := c.angle + 1 }, false)
    else ({ c with index := c.outPoint, state := .ended, endedDark := false }, true)

/-- R112, steps 3 to 6, for a clip that does not grow. -/
def stepFixed (target : Nat) (c : Clip) : Clip × Bool :=
  if target ≤ c.outPoint then ({ c with index := target }, false) else endClip target c

/-- R117: max(in-point, written mark). -/
def capIndex (c : Clip) : Nat := max c.inPoint c.mark.toNat

/-- R117: the four rows. -/
def stepGrowing (target adv : Nat) (c : Clip) : Clip × Bool :=
  if c.mark < (target : Int) ∧ c.mark < (c.outPoint : Int) then
    ({ c with index := capIndex c, acc := 0, chase := some (c.chase.getD Config.chaseTime) }, false)
  else if target ≤ c.outPoint then
    if adv = 0 then (c, false) else ({ c with index := target, chase := none }, false)
  else endClip target { c with chase := none }

/-- R112: the cadence step of a PLAYING clip, and whether it ended. -/
def cadence (c : Clip) : Clip × Bool :=
  let a := c.acc + c.rate
  let adv := a / 256
  let c := { c with acc := a % 256 }
  if c.growing then stepGrowing (c.index + adv) adv c else stepFixed (c.index + adv) c

/-- R111, part 2: pending values are applied. -/
def applyPending (c : Clip) : Clip :=
  { c with
    rate := c.pendingRate.getD c.rate, pendingRate := none
    angle := c.pendingAngle.getD c.angle, pendingAngle := none }

/-- R111, part 3: a GUARDED clip that reads STOPPED becomes PLAYING. -/
def releaseGuard (p : ClockPhase) (c : Clip) : Clip :=
  if c.state = .guarded ∧ p = .stopped then { c with state := .playing } else c

/-- R111, parts 2 and 3. -/
def readyClip (p : ClockPhase) (c : Clip) : Clip := releaseGuard p (applyPending c)

/-- R111, part 4: a PLAYING clip takes its cadence step; the second part says whether the clip has ended. -/
def stepPlaying (c : Clip) : Clip × Bool := if c.state = .playing then cadence c else (c, false)

/-- R107: a take pending is consumed. -/
def consumeTake (s : State) : State :=
  if s.replay.take then
    match s.replay.onDeck with
    | some c =>
      clipChanged { s with replay.current := some c, replay.onDeck := none, replay.take := false }
    | none => { s with replay.take := false }
  else s

/-- R111: the Replay Engine's work at a sweep boundary. The zone is bumped once where the pending angle changed the angle
or the step changed the index or the angle (R112), also where the two changes undo each other. DEDUCED (log 35): a step
that ends the clip raises CLIP_ENDED (R113), also where a layout applied later at that boundary empties it (R121). -/
def replayWork (s : State) : State :=
  let s := consumeTake s
  match s.replay.current with
  | none => s
  | some c =>
    let ready := readyClip (clockPhase s) c
    let (next, ended) := stepPlaying ready
    let s := raiseIf ended .clipEnded { s with replay.current := some next }
    if moved c ready || moved ready next then clipChanged s else s

/-! ### Alerts, layouts and the chase timer (R116, R118, R119, R121) -/

/-- R119: the clip at the alert's entry. -/
def alertHold (c : Clip) : Clip :=
  if c.state = .playing ∨ c.state = .guarded then { c with state := .held, chase := none, heldByAlert := true } else c

/-- R119. -/
def alertHoldsClip (s : State) : State := { s with replay.current := s.replay.current.map alertHold }

/-- R121: a layout without a REPLAY zone empties both clips. -/
def replayRelayout (hasZone : Bool) (s : State) : State :=
  if hasZone then s else { s with replay.current := none, replay.onDeck := none, replay.take := false }

/-- R118. -/
def timeOutClip (c : Clip) : Clip := { c with state := .ended, endedDark := false, acc := 0, chase := none }

/-- R116, R118: a timebase event of the chase timer. -/
def stepChase (s : State) : State :=
  match s.replay.current with
  | some c =>
    match c.chase with
    | some n =>
      if n ≤ 1 then
        raise .clipEnded (raise .chaseTimeout { s with replay.current := some (timeOutClip c) })
      else { s with replay.current := some { c with chase := some (n - 1) } }
    | none => s
  | none => s

/-- CHASE_TIMEOUT: the chase timer's last timebase event (log 9). -/
def expireChase (s : State) : State :=
  match s.replay.current with
  | some { chase := some n, .. } => if n ≤ 1 then stepChase s else s
  | _ => s

/-! ### The chase snoop (R41, R42, R115) -/

/-- R41: the frame of a growing clip whose last line is at byte address `a`. -/
def frameEndingAt (a size : Nat) (c : Clip) : Option Nat :=
  let base := c.bases.getD 0 0
  let off := a + 64 - (base + size)
  if c.growing ∧ base + size ≤ a + 64 ∧ off % c.stride = 0 ∧ off / c.stride < c.frames then some (off / c.stride)
  else none

/-- R42: the mark advances over the run of set flags that begins at mark + 1; `n` bounds the run. -/
def advanceMark : Nat → Int → BitVec 64 → Int × BitVec 64
  | 0, m, w => (m, w)
  | n + 1, m, w => if w.getLsbD 0 then advanceMark n (m + 1) (w >>> 1) else (m, w)

/-- R41, R42: the clip after the write of the last line of frame `f`. -/
def recordFrame (f : Nat) (c : Clip) : Clip :=
  let k := (f : Int) - c.mark - 1
  if 0 ≤ k ∧ k < Config.chaseFrames then
    let (m, w) := advanceMark Config.chaseFrames c.mark (c.window ||| (1#64 <<< k.toNat))
    { c with mark := m, window := w }
  else c

/-- R41: the snoop on one clip. -/
def snoopClip (a size : Nat) (c : Clip) : Clip :=
  match frameEndingAt a size c with
  | some f => recordFrame f c
  | none => c

/-- R115: a mark advance reloads the chase timer of a clip in chase wait. -/
def reportMark (old new : Clip) : Clip :=
  if old.mark < new.mark ∧ new.chase.isSome then { new with chase := some Config.chaseTime } else new

/-- R41, R115: the chase snoop of a write to the line at `a`, as forwarded, on both clips. -/
def chaseSnoop (a : Nat) (s : State) : State :=
  match replayZone s with
  | none => s
  | some z =>
    let snoop (c : Clip) : Clip := snoopClip a (zoneBytes z) c
    { s with
      replay.current := s.replay.current.map (fun c => reportMark c (snoop c))
      replay.onDeck := s.replay.onDeck.map snoop }

end Sys2Proof.Machine
end

