-- ==== Sys2Proof/Machine/Alerts.lean ====
section
/-! DEFINITION. The Alert Unit and the Brightness Governor (10). -/

namespace Sys2Proof.Machine

/-! ### The effective duty (R178) -/

/-- The cabinet limits the board. -/
def thermalLimit (x : ThermalState) : Bool := x == .hold || x == .cooling

/-- R178. -/
def dutyOf (b : BrightnessGovernor) (onAir : Bool) : Nat :=
  if thermalLimit b.state then min b.requested b.thermal
  else if onAir then Config.alertDuty else b.requested

/-- R178: the effective duty is recomputed. -/
def recomputeDuty (s : State) : State :=
  { s with brightness.effective := dutyOf s.brightness (alertOnAir s) }

/-! ### BRIGHTNESS SET and the heat line (R176, R177) -/

def dutyOk (b : Byte) : Bool := 1 ≤ b.toNat && b.toNat ≤ 8

/-- R176: the thermal duty and the pending thermal duty that a new value leaves. -/
def takeThermal (v : Nat) (b : BrightnessGovernor) : BrightnessGovernor :=
  if thermalLimit b.state ∧ b.thermal < v then { b with pendingThermal := some v }
  else { b with thermal := v, pendingThermal := none }

/-- R176. -/
def brightnessSet (requested thermal : Byte) (s : State) : PostOutcome :=
  if !dutyOk requested || !dutyOk thermal then { state := s, result := .range, detail := 0 }
  else
    { state := recomputeDuty
        { s with brightness := takeThermal thermal.toNat { s.brightness with requested := requested.toNat } }
      result := .done, detail := 0 }

/-- R177: the heat line found asserted. -/
def heatAsserted (b : BrightnessGovernor) : BrightnessGovernor :=
  match b.state with
  | .normal => { b with state := .warming, warm := some Config.warmTime }
  | .cooling => { b with state := .hold, cool := none }
  | _ => b

/-- R177: the heat line found deasserted. -/
def heatDeasserted (b : BrightnessGovernor) : BrightnessGovernor :=
  match b.state with
  | .warming => { b with state := .normal, warm := none }
  | .hold => { b with state := .cooling, cool := some Config.coolTime }
  | _ => b

/-- R177: what the line found at a level does. -/
def heatFound (asserted : Bool) (b : BrightnessGovernor) : BrightnessGovernor :=
  if asserted then heatAsserted b else heatDeasserted b

/-- The heat line changes to a level, and is found at it. -/
def heatLine (asserted : Bool) (s : State) : State :=
  recomputeDuty { s with pins.heat := asserted, brightness := heatFound asserted s.brightness }

/-- R177: the warm timer reaches 0. -/
def enterHold (s : State) : State :=
  recomputeDuty (raise .thermalHold { s with brightness.state := .hold, brightness.warm := none })

/-- R177: the cool timer reaches 0, and a pending thermal duty replaces the thermal duty. -/
def releaseHeat (s : State) : State :=
  let b := s.brightness
  recomputeDuty (raise .thermalRelease
    { s with brightness :=
        { b with state := .normal, cool := none, thermal := b.pendingThermal.getD b.thermal, pendingThermal := none } })

/-- R177: the warm timer at a timebase event that finds the line asserted. -/
def stepWarm (s : State) : State :=
  match s.brightness.state, s.brightness.warm, s.pins.heat with
  | .warming, some n, true => if n ≤ 1 then enterHold s else { s with brightness.warm := some (n - 1) }
  | _, _, _ => s

/-- R177: the cool timer at a timebase event that finds the line deasserted. -/
def stepCool (s : State) : State :=
  match s.brightness.state, s.brightness.cool, s.pins.heat with
  | .cooling, some n, false => if n ≤ 1 then releaseHeat s else { s with brightness.cool := some (n - 1) }
  | _, _, _ => s

/-- R177: a timebase event watches the line: a level that the state has not followed is found first, else a timer counts. -/
def stepHeat (s : State) : State :=
  if heatFound s.pins.heat s.brightness ≠ s.brightness then heatLine s.pins.heat s else stepCool (stepWarm s)

/-- WARM_TIMER_EXPIRY: the warm timer's last timebase event (log 9). -/
def expireWarm (s : State) : State :=
  match s.brightness.warm with
  | some n => if n ≤ 1 then stepWarm s else s
  | none => s

/-- COOL_TIMER_EXPIRY: the cool timer's last timebase event (log 9). -/
def expireCool (s : State) : State :=
  match s.brightness.cool with
  | some n => if n ≤ 1 then stepCool s else s
  | none => s

/-- R179: the warm values, the thermal state re-derived from the heat line. -/
def restartBrightness (s : State) : State :=
  let state : ThermalState := if s.pins.heat then .hold else .normal
  let b : BrightnessGovernor := { coldBrightness with state := state }
  { s with brightness := { b with effective := dutyOf b false } }

/-! ### Alert states (R172, R173) -/

/-- R172: the entry to ON_AIR, with its flag and its reports. -/
def alertEntry (s : State) : State :=
  rebuildWatch (recomputeDuty (alertReturnsMessage (alertHoldsClip
    (raise .alertOnAir { s with alert.state := .onAir }))))

/-- R172, R173: a source appears. -/
def alertSource (s : State) : State :=
  match s.alert.state with
  | .quiet => { s with alert.state := .engaging }
  | .engaging => s
  | .onAir => s
  | .releasing => alertEntry s

/-- R172, R173: the Alert Unit's work at a sweep boundary. -/
def alertWork (s : State) : State :=
  match s.alert.state with
  | .engaging => alertEntry s
  | .releasing => raise .alertCleared { s with alert.state := .quiet }
  | .quiet => s
  | .onAir => s

/-- R173: the change from ON_AIR to RELEASING. -/
def releaseAlert (s : State) : State :=
  rebuildWatch (settleAir false (recomputeDuty
    { s with alert.state := .releasing, alert.latch := false, alert.raised := none, alert.chosen := none }))

/-- R173. -/
def alertClear (s : State) : PostOutcome :=
  match s.alert.state with
  | .quiet => { state := s, result := .wrongState, detail := 0 }
  | .engaging =>
    if s.pins.venue then { state := s, result := .lineActive, detail := 0 }
    else
      { state := { s with alert.state := .quiet, alert.latch := false, alert.raised := none }
        result := .done, detail := 0 }
  | .onAir =>
    if s.pins.venue then { state := s, result := .lineActive, detail := 0 }
    else { state := releaseAlert s, result := .done, detail := 0 }
  | .releasing =>
    if s.pins.venue then { state := s, result := .lineActive, detail := 0 }
    else { state := s, result := .done, detail := 0 }

/-! ### Sources (R169 to R171) -/

/-- R169: the latch is set, and the line alert acts on the alert state. -/
def setLatch (s : State) : State := alertSource { s with alert.latch := true, alert.debounce := none }

/-- R169: the venue alert line found asserted: in RELEASING the latch is set at once, else the debounce timer is loaded. -/
def venueFoundAsserted (s : State) : State :=
  if s.alert.latch then s
  else if s.alert.state = .releasing then setLatch s
  else if s.alert.debounce.isSome then s
  else { s with alert.debounce := some Config.debounceTime }

/-- The venue alert line changes to asserted, and is found so. -/
def venueAsserts (s : State) : State := venueFoundAsserted { s with pins.venue := true }

/-- R169: the line found deasserted stops the timer. -/
def venueDeasserts (s : State) : State := { s with pins.venue := false, alert.debounce := none }

/-- R169: a timebase event of the debounce timer. -/
def stepDebounce (s : State) : State :=
  if s.pins.venue ∧ !s.alert.latch then
    match s.alert.debounce with
    | some n => if n ≤ 1 then setLatch s else { s with alert.debounce := some (n - 1) }
    | none => venueFoundAsserted s
  else s

/-- DEBOUNCE_EXPIRY: the debounce timer's last timebase event (log 9). -/
def expireDebounce (s : State) : State :=
  match s.alert.debounce with
  | some n => if n ≤ 1 then stepDebounce s else s
  | none => s

/-- R170. -/
def alertRaise (addr : Nat) (s : State) : PostOutcome :=
  if !lineAligned addr then { state := s, result := .range, detail := 0 }
  else
    match s.sweep.header with
    | none => { state := s, result := .geometry, detail := 0 }
    | some h =>
      if !fits addr (rasterBytes h.width h.height) then { state := s, result := .range, detail := 0 }
      else
        let raised : RaisedAlert := { raster := addr, width := h.width, height := h.height }
        { state := alertSource { s with alert.raised := some raised }, result := .done, detail := 0 }

/-- R171. -/
def alertStandingSet (present : Byte) (addr : Nat) (colour : Pixel) (s : State) : PostOutcome :=
  if present = 0 then
    { state := { s with alert.standing := none, alert.colour := colour }, result := .done, detail := 0 }
  else if present = 1 ∧ lineAligned addr then
    { state := { s with alert.standing := some addr, alert.colour := colour }, result := .done, detail := 0 }
  else { state := s, result := .range, detail := 0 }

/-! ### The alert raster (R174) -/

/-- R174: what the slot shows at a screen header; none is solid fill. -/
def alertRaster (a : AlertUnit) (h : ScreenHeader) : Option Nat :=
  if a.latch then
    match a.standing with
    | some r => if fits r (rasterBytes h.width h.height) then some r else none
    | none => none
  else
    match a.raised with
    | some r => if r.width = h.width ∧ r.height = h.height then some r.raster else none
    | none => none

/-- R174: the choice at a boundary that starts an alert frame. -/
def chooseRaster (h : ScreenHeader) (s : State) : State :=
  rebuildWatch { s with alert.chosen := alertRaster s.alert h }

/-- R175: the warm values; the line is sampled at the RESTART event. -/
def restartAlert (s : State) : State :=
  let kept := s.alert
  { s with alert :=
      { coldAlert with
        standing := kept.standing, colour := kept.colour
        debounce := if s.pins.venue then some Config.debounceTime else none } }

end Sys2Proof.Machine
end

