-- ==== Sys2Proof/Machine/Ribbons.lean ====
section
/-! DEFINITION. The Rotation Unit (07): ribbon states, dwell and advance, ROTATION AMEND gathering, staging and commit. -/

namespace Sys2Proof.Machine

/-! ### The search (R130, R131) -/

/-- R130: the phase set admits the clock phase. -/
def admits (x : PhaseSet) (p : ClockPhase) : Bool :=
  match x, p with
  | .any, _ => true
  | .running, .running => true
  | .stopped, .stopped => true
  | _, _ => false

def eligible (l : SlotList) (p : ClockPhase) (i : Nat) : Bool :=
  match l.slots[i]? with
  | some x => admits x.phases p
  | none => false

def lastIndex (l : SlotList) : Nat := l.slots.length - 1

def dwellOf (l : SlotList) (i : Nat) : Nat :=
  match l.slots[i]? with
  | some x => x.dwell
  | none => 0

/-- R130: the order in which an advance examines the slots. -/
def searchOrder (n start : Nat) : List Nat := (List.range n).map (fun k => (start + 1 + k) % n)

/-- The slots that a search examines, up to the first eligible one. -/
def examined (l : SlotList) (p : ClockPhase) : List Nat → List Nat
  | [] => []
  | i :: rest => if eligible l p i then [i] else i :: examined l p rest

/-- R130: the first eligible slot of an order becomes current, or HOUSE with dwell 250; `fallback` is the search position
under HOUSE. -/
def enterFirst (l : SlotList) (p : ClockPhase) (order : List Nat) (fallback : Nat) (r : Ribbon) : Ribbon :=
  match order.find? (eligible l p) with
  | some i => { r with entry := .slot i, dwell := dwellOf l i, search := i }
  | none => { r with entry := .house, dwell := Config.houseDwell, search := fallback }

/-- R128, step 2, and R139: the entry chosen as at a start, every slot examined from slot 0 onward. -/
def enterFromStart (l : SlotList) (p : ClockPhase) (r : Ribbon) : Ribbon :=
  enterFirst l p (List.range l.slots.length) (lastIndex l) r

/-- R131, judged on the list committed when the advance is taken. -/
def cycleBoundary (l : SlotList) (p : ClockPhase) (r : Ribbon) : Bool :=
  r.entry == .house || (examined l p (searchOrder l.slots.length r.search)).contains 0

/-! ### Handing a change on (R133, R139) -/

/-- What a ribbon's work came to: the ribbon, whether a list was committed, and whether the change is handed on. -/
structure RibbonOutcome where
  ribbon : Ribbon
  committed : Bool
  bumped : Bool
  deriving DecidableEq, Repr

/-- R133: at a start, an advance or a turn to OFF the bump follows a different entry. -/
def entryOutcome (old new : Ribbon) : RibbonOutcome :=
  { ribbon := new, committed := false, bumped := old.entry != new.entry }

/-- R139: a commit always bumps. -/
def commitOutcome (new : Ribbon) : RibbonOutcome := { ribbon := new, committed := true, bumped := true }

/-- R133, R139: take the outcome, with the flag, the epochs and the watch list. -/
def handRibbon (id : RibbonId) (o : RibbonOutcome) (s : State) : State :=
  let s := raiseIf o.committed .rotationCommitted (setRibbon id o.ribbon s)
  if o.bumped then rebuildWatch (bumpZones (showsRibbon id) s) else s

/-! ### Commit (R139) -/

/-- R139: the staged list replaces the committed list. -/
def commitList (x : StagedList) (r : Ribbon) : Ribbon := { r with committed := some x.list, staged := none }

/-- R139, OFF row: the entry stays none and the search position becomes the last slot index of the new list. -/
def commitOff (r : Ribbon) : RibbonOutcome :=
  match r.staged with
  | some x => commitOutcome { commitList x r with search := lastIndex x.list }
  | none => { ribbon := r, committed := false, bumped := false }

/-! ### Boundary work (R128 to R132) -/

/-- R128. -/
def startRibbon (p : ClockPhase) (r : Ribbon) : RibbonOutcome :=
  match r.staged, r.committed with
  | some x, _ => commitOutcome (enterFromStart x.list p { commitList x r with state := .on })
  | none, some l => entryOutcome r (enterFromStart l p { r with state := .on })
  | none, none => { ribbon := r, committed := false, bumped := false }

/-- R139: a staged list is committed at this advance. -/
def commitsNow (l : SlotList) (p : ClockPhase) (r : Ribbon) (x : StagedList) : Bool :=
  x.point == .atSlot || cycleBoundary l p r

/-- R130, R139: an advance. -/
def advanceRibbon (p : ClockPhase) (r : Ribbon) : RibbonOutcome :=
  match r.committed with
  | none => { ribbon := r, committed := false, bumped := false }
  | some l =>
    let searched := entryOutcome r (enterFirst l p (searchOrder l.slots.length r.search) r.search r)
    match r.staged with
    | some x => if commitsNow l p r x then commitOutcome (enterFromStart x.list p (commitList x r)) else searched
    | none => searched

/-- R132: a STOPPING ribbon whose dwell has run out turns OFF, committing any staged list. -/
def turnOff (r : Ribbon) : RibbonOutcome :=
  let last := match r.committed with
    | some l => lastIndex l
    | none => 0
  let o := { r with state := .off, entry := .none, dwell := 0, search := last }
  match r.staged with
  | some _ => commitOff o
  | none => entryOutcome r o

/-- R129: one boundary of a ribbon. -/
def ribbonBoundary (p : ClockPhase) (r : Ribbon) : RibbonOutcome :=
  let counted := { r with dwell := r.dwell - 1 }
  match r.state with
  | .off => { ribbon := r, committed := false, bumped := false }
  | .starting => startRibbon p r
  | .on =>
    if r.dwell ≤ 1 then advanceRibbon p counted else { ribbon := counted, committed := false, bumped := false }
  | .stopping =>
    if r.dwell ≤ 1 then turnOff counted else { ribbon := counted, committed := false, bumped := false }

/-- One ribbon's work. -/
def ribbonWork (id : RibbonId) (s : State) : State := handRibbon id (ribbonBoundary (clockPhase s) (ribbonOf id s)) s

/-- R129, R141: the Rotation Unit's work at a boundary, none while the alert state is ON_AIR. -/
def rotationWork (s : State) : State := if alertOnAir s then s else ribbonWork .b (ribbonWork .a s)

/-! ### RIBBON ENABLE, RIBBON DISABLE and staged CANCEL (R126, R127, R140) -/

/-- R126. -/
def ribbonEnable (b : Byte) (s : State) : PostOutcome :=
  match ribbonId b with
  | none => { state := s, result := .range, detail := 0 }
  | some id =>
    let r := ribbonOf id s
    match r.state with
    | .off =>
      if r.committed.isNone then { state := s, result := .wrongState, detail := 0 }
      else { state := setRibbon id { r with state := .starting } s, result := .done, detail := 0 }
    | .starting => { state := s, result := .done, detail := 0 }
    | .on => { state := s, result := .done, detail := 0 }
    | .stopping => { state := setRibbon id { r with state := .on } s, result := .done, detail := 0 }

/-- R127: a STARTING ribbon turns OFF, and a staged list is committed at the same event. -/
def ribbonDisable (b : Byte) (s : State) : PostOutcome :=
  match ribbonId b with
  | none => { state := s, result := .range, detail := 0 }
  | some id =>
    let r := ribbonOf id s
    match r.state with
    | .off => { state := s, result := .done, detail := 0 }
    | .stopping => { state := s, result := .done, detail := 0 }
    | .starting =>
      { state := handRibbon id (commitOff { r with state := .off }) s, result := .done, detail := 0 }
    | .on => { state := setRibbon id { r with state := .stopping } s, result := .done, detail := 0 }

/-- R140. -/
def cancelStaged (id : RibbonId) (s : State) : PostOutcome :=
  let r := ribbonOf id s
  if r.staged.isNone then { state := s, result := .wrongState, detail := 0 }
  else { state := setRibbon id { r with staged := none } s, result := .done, detail := 0 }

/-! ### ROTATION AMEND (R134 to R138) -/

/-- R134, step 1, and R136: the record count and the slot records' place. -/
def recordsOk (op : AmendOperand) : Bool :=
  1 ≤ op.count.toNat && op.count.toNat ≤ Config.listCapacity
    && lineAligned op.slots.toNat && fits op.slots.toNat (16 * op.count.toNat)

/-- R134, step 1. -/
def amendHeaderOk (op : AmendOperand) : Bool :=
  op.ribbon.toNat ≤ 1 && op.mode.toNat ≤ 1 && op.commitPoint.toNat ≤ 1
    && recordsOk op
    && sizeOk 16 8192 op.width.toNat && sizeOk 16 4096 op.height.toNat
    && lineAligned op.house.toNat && fits op.house.toNat (rasterBytes op.width.toNat op.height.toNat)

/-- R134: the pending list starts empty under REPLACE, as a copy of the committed list under APPEND. -/
def pendingStart (op : AmendOperand) (r : Ribbon) : List SlotRec :=
  if op.mode = 1 then (r.committed.map (·.slots)).getD [] else []

/-- R138: an amend that ends without staging; ROTATION_REFUSED is raised where it was refused. -/
def refuseAmend (r : Result) (detail : Nat) (s : State) : State :=
  raise .rotationRefused (settleLong r detail { s with rotation.gather := none })

/-- R134: the amend that takes the idle lane. -/
def startAmend (op : AmendOperand) (s : State) : State :=
  if !amendHeaderOk op then refuseAmend .range 0 s
  else
    match ribbonId op.ribbon with
    | none => refuseAmend .range 0 s
    | some id =>
      let r := ribbonOf id s
      let slots := pendingStart op r
      if r.staged.isSome then refuseAmend .stagedPending 0 s
      else if Config.listCapacity < slots.length + op.count.toNat then refuseAmend .range 0 s
      else
        let list : SlotList :=
          { slots := slots, house := op.house.toNat, w := op.width.toNat, h := op.height.toNat }
        let point : CommitPoint := if op.commitPoint = 1 then .atCycle else .atSlot
        let gather : Gather :=
          { ribbon := id, list := list, point := point, next := op.slots.toNat, left := op.count.toNat, timer := none }
        setRecords slots.length { s with rotation.gather := some gather }

/-- R136: an amend joins the gathering; its hand-off result and its effect. -/
def joinAmend (op : AmendOperand) (g : Gather) (s : State) : PostOutcome :=
  if !recordsOk op then { state := s, result := .range, detail := 0 }
  else if Config.listCapacity < g.list.slots.length + op.count.toNat then
    { state := refuseAmend .range 0 s, result := .range, detail := 0 }
  else
    let g' : Gather := { g with next := op.slots.toNat, left := op.count.toNat, timer := none }
    { state := setPhase .fetching { s with rotation.gather := some g' }, result := .done, detail := 0 }

/-- R135: record `k` of a line, or none where it fails. `w` and `h` are the creative size. -/
def slotRecOf (l : Line) (k w h : Nat) : Option SlotRec :=
  let o := 16 * k
  let dwell := halfNat l (o + 4)
  let phases : Option PhaseSet :=
    match byteNat l (o + 2) with
    | 0 => some .running
    | 1 => some .stopped
    | 2 => some .any
    | _ => none
  let content : Option SlotContent :=
    match byteNat l (o + 3) with
    | 0 =>
      let id := byteNat l o
      let duty := byteNat l (o + 1)
      let a := quadNat l (o + 8)
      if 1 ≤ id ∧ id ≤ 250 ∧ 1 ≤ duty ∧ duty ≤ 8 ∧ lineAligned a ∧ fits a (rasterBytes w h) then
        some (.sponsor id duty a)
      else none
    | 1 => some .skip
    | _ => none
  match phases, content with
  | some p, some c => if 25 ≤ dwell ∧ dwell ≤ 6000 then some { content := c, phases := p, dwell := dwell } else none
  | _, _ => none

/-- R135: the entry request that a joining record makes. -/
def requestFor (x : SlotRec) (t : List ExposureEntry) : Option (List ExposureEntry) :=
  match x.content with
  | .sponsor id _ _ => requestEntry id t
  | .skip => some t

/-- R135: a record that passed joins the tail of the pending list. -/
def joinRecord (x : SlotRec) (g : Gather) (s : State) : State :=
  let g' : Gather := { g with list := { g.list with slots := g.list.slots ++ [x] }, left := g.left - 1 }
  setRecords g'.list.slots.length { s with rotation.gather := some g' }

/-- R135: the records of a line from the `k`-th on, in record order; `n` of them are still to take. -/
def takeRecords (l : Line) : Nat → Nat → State → State
  | 0, _, s => s
  | n + 1, k, s =>
    match s.rotation.gather with
    | none => s
    | some g =>
      let position := g.list.slots.length
      match slotRecOf l k g.list.w g.list.h with
      | none => refuseAmend .range (1 + position) s
      | some x =>
        match requestFor x s.exposure.entries with
        | none => refuseAmend .tableFull (1 + position) s
        | some t => takeRecords l n (k + 1) (joinRecord x g { s with exposure.entries := t })

/-- R135: after the last record the phase becomes GATHERING with the timer loaded. -/
def afterRecords (s : State) : State :=
  match s.rotation.gather with
  | some g =>
    if g.left = 0 then
      setPhase .gathering { s with rotation.gather := some { g with timer := some Config.gatherTime } }
    else { s with rotation.gather := some { g with next := g.next + 64 } }
  | none => s

/-- R135: a line of slot records arrives. -/
def slotRecordLine (l : Line) (s : State) : State :=
  match s.rotation.gather with
  | some g => afterRecords (takeRecords l (min 4 g.left) 0 s)
  | none => s

/-- SLOT_RECORD_LINE_ARRIVAL. -/
def slotRecordArrival (s : State) : State := arrival (fun o => o == .slotRecords) slotRecordLine s

/-- R137: a SPONSOR zone bound to the ribbon, enabled or not, that the list's creative size does not fit. -/
def sizeMismatch (id : RibbonId) (l : SlotList) (z : ZoneRec) : Bool :=
  showsRibbon id z && (z.w != l.w || z.h != l.h)

/-- R137: the lowest such zone ID. -/
def mismatchedZone (id : RibbonId) (l : SlotList) (s : State) : Option Nat :=
  (List.range Config.zoneIds).find?
    (fun i => s.sweep.zones.any (fun z => z.cfg.id == i && sizeMismatch id l z.cfg))

/-- R137, R139: staging, and the commit at once on an OFF ribbon. -/
def stage (g : Gather) (s : State) : State :=
  let r := { ribbonOf g.ribbon s with staged := some { list := g.list, point := g.point } }
  let s := { s with rotation.gather := none }
  let s := if r.state = .off then handRibbon g.ribbon (commitOff r) s else setRibbon g.ribbon r s
  settleLong .done g.list.slots.length s

/-- R137: the judgement at the gather timer's end. -/
def judgeGather (g : Gather) (s : State) : State :=
  match mismatchedZone g.ribbon g.list s with
  | some id => refuseAmend .geometry id s
  | none => stage g s

/-- R136, R137: a timebase event of the gather timer. -/
def stepGather (s : State) : State :=
  match s.rotation.gather with
  | some g =>
    match g.timer with
    | some n =>
      if n ≤ 1 then judgeGather g s else { s with rotation.gather := some { g with timer := some (n - 1) } }
    | none => s
  | none => s

/-- GATHER_TIMER_EXPIRY: the gather timer's last timebase event (log 9). -/
def expireGather (s : State) : State :=
  match s.rotation.gather with
  | some { timer := some n, .. } => if n ≤ 1 then stepGather s else s
  | _ => s

end Sys2Proof.Machine
end

