-- ==== Sys2Proof/Machine/Layouts.lean ====
section
/-! DEFINITION. LAYOUT LOAD (01 sections 1.2 to 1.4): fetching, field checks, geometry checks, the pending layout and its application. -/

namespace Sys2Proof.Machine

/-! ### Reading records (01 section 1.2) -/

def figureOfCode : Nat → Option Figure
  | 0 => some .gameClock
  | 1 => some .secondaryClock
  | 2 => some .homeScore
  | 3 => some .guestScore
  | 4 => some .period
  | 5 => some .homeAux
  | 6 => some .guestAux
  | _ => none

/-- The role of a zone record; byte 16 and bytes 24 to 41 are read only for the roles that use them. -/
def roleOf (l : Line) : Option Role :=
  match byteNat l 1 with
  | 0 => some .replay
  | 1 => (ribbonId (byteAt l 16)).map Role.sponsor
  | 2 => (figureOfCode (byteNat l 16)).map Role.figure
  | 3 => some .message
  | 4 => some (.house (quadNat l 24) (quadNat l 32) (halfNat l 40))
  | _ => none

def zoneRecOf (role : Role) (l : Line) : ZoneRec :=
  { id := byteNat l 0, role := role, layer := byteNat l 2, enabled := byteNat l 3 == 1
    x := halfNat l 4, y := halfNat l 6, w := halfNat l 8, h := halfNat l 10, backdrop := wordAt l 12 }

def headerOf (l : Line) : ScreenHeader :=
  { width := halfNat l 0, height := halfNat l 2, rate := byteNat l 4, backdrop := wordAt l 8 }

/-! ### Field checks (R3) -/

/-- R3, screen header. -/
def headerOk (l : Line) : Bool :=
  sizeOk 256 8192 (halfNat l 0) && sizeOk 64 4096 (halfNat l 2) && (byteNat l 4 == 50 || byteNat l 4 == 60)

/-- R3, HOUSE zone: its two buffers and its idle timeout. -/
def houseOk (l : Line) (a b idle : Nat) : Bool :=
  let bytes := rasterBytes (halfNat l 8) (halfNat l 10)
  lineAligned a && lineAligned b && fits a bytes && fits b bytes && idle ≤ 600

/-- R3, one zone record, but for the duplicate ID. -/
def zoneFieldsOk (l : Line) : Bool :=
  byteNat l 0 < Config.zoneIds && byteNat l 2 ≤ 7 && byteNat l 3 ≤ 1
    && halfNat l 4 % 16 == 0 && halfNat l 6 % 16 == 0
    && sizeOk 1 65535 (halfNat l 8) && sizeOk 1 65535 (halfNat l 10)
    && (match roleOf l with
        | none => false
        | some (.house a b idle) => houseOk l a b idle
        | some _ => true)

/-- R3: the lowest record index at which a field check fails; `k` is the index of the first line, `ids` are the zone IDs of earlier records. -/
def badField : Nat → List Nat → List Line → Option Nat
  | _, _, [] => none
  | k, ids, l :: rest =>
    if zoneFieldsOk l && !ids.contains (byteNat l 0) then badField (k + 1) (byteNat l 0 :: ids) rest else some k

/-- The zone records of lines that passed R3. -/
def zoneRecs (lines : List Line) : List ZoneRec := lines.filterMap (fun l => (roleOf l).map (fun r => zoneRecOf r l))

/-! ### Geometry checks (R4) -/

/-- R4: the REPLAY zone against a clip: the stride, and the last frame of every angle. -/
def clipFitsZone (z : ZoneRec) (c : Clip) : Bool :=
  zoneBytes z ≤ c.stride && c.bases.all (fun a => lastFrameFits a c.frames c.stride (zoneBytes z))

/-- R4: the creative sizes of a ribbon's lists. -/
def ribbonFitsZone (z : ZoneRec) (r : Ribbon) : Bool :=
  (match r.committed with
    | some l => l.w == z.w && l.h == z.h
    | none => true)
  && (match r.staged with
    | some x => x.list.w == z.w && x.list.h == z.h
    | none => true)

/-- The two buffers of a HOUSE zone as ranges. -/
def houseRanges (z : ZoneRec) : List (Nat × Nat) :=
  match z.role with
  | .house a b _ => [(a, zoneBytes z), (b, zoneBytes z)]
  | _ => []

/-- R4: no range of the one list overlaps a range of the other. -/
def rangesClear (xs ys : List (Nat × Nat)) : Bool :=
  xs.all (fun p => ys.all (fun q => !rangesOverlap p.1 p.2 q.1 q.2))

/-- R4: a zone record by itself, against the screen and against the other units. -/
def zoneFits (hd : ScreenHeader) (s : State) (z : ZoneRec) : Bool :=
  z.x + z.w ≤ hd.width && z.y + z.h ≤ hd.height
    && (match z.role with
        | .replay =>
          (s.replay.current.toList ++ s.replay.onDeck.toList).all (clipFitsZone z)
        | .sponsor r => ribbonFitsZone z (ribbonOf r s)
        | .figure _ =>
          match s.figures.glyphs with
          | some g => !z.enabled || figureFits g.cellWidth g.cellHeight z
          | none => true
        | .message => true
        | .house a b _ =>
          !rangesOverlap a (zoneBytes z) b (zoneBytes z)
            && rangesClear (houseRanges z) [(apertureBase s, Config.apertureBytes)])

/-- R4: a zone record against an earlier one. -/
def pairFits (earlier z : ZoneRec) : Bool :=
  !(earlier.enabled && z.enabled && earlier.layer == z.layer && intersects earlier z)
    && !(isReplay earlier && isReplay z) && !(isMessage earlier && isMessage z)
    && (match earlier.role, z.role with
        | .sponsor r, .sponsor r' => r != r' || (earlier.w == z.w && earlier.h == z.h)
        | .house _ _ _, .house _ _ _ => rangesClear (houseRanges earlier) (houseRanges z)
        | _, _ => true)

/-- R4: the lowest record index at which a check fails, a pair failing at the later record. -/
def badGeometry (hd : ScreenHeader) (s : State) : Nat → List ZoneRec → List ZoneRec → Option Nat
  | _, _, [] => none
  | k, earlier, z :: rest =>
    if zoneFits hd s z && earlier.all (fun e => pairFits e z) then badGeometry hd s (k + 1) (z :: earlier) rest
    else some k

/-! ### Fetching (R2, R5, R6) -/

/-- R5. -/
def refuseLayout (r : Result) (detail : Nat) (s : State) : State :=
  settleLong r detail { s with sweep.load := none }

/-- R2: the fetch that an accepted LAYOUT LOAD starts, or its immediate refusal. -/
def startLayout (addr : Nat) (s : State) : State :=
  if lineAligned addr then
    { s with sweep.load := some { addr := addr, lines := [], count := 0, pending := none } }
  else settleLong .range 0 s

/-- R2: the zone count of the header, and the place of the record's last line. -/
def zoneCountOk (addr n : Nat) : Bool := 1 ≤ n && n ≤ Config.zoneIds && addr + 64 * n < Config.memoryBytes

/-- R3, R4, R6: the checks made when line n has arrived. -/
def judgeLayout (load : LayoutLoad) (hd : Line) (records : List Line) (s : State) : State :=
  if !headerOk hd then refuseLayout .range 0 s
  else
    match badField 1 [] records with
    | some k => refuseLayout .range k s
    | none =>
      let layout : Layout := { header := headerOf hd, zones := zoneRecs records }
      match badGeometry layout.header s 1 [] layout.zones with
      | some k => refuseLayout .geometry k s
      | none =>
        setRecords load.count (setPhase .waiting { s with sweep.load := some { load with pending := some layout } })

/-- R2: a line of the record arrives. -/
def layoutLine (l : Line) (s : State) : State :=
  match s.sweep.load with
  | none => s
  | some load =>
    let load := { load with lines := load.lines ++ [l] }
    let s := setRecords load.lines.length { s with sweep.load := some load }
    match load.lines with
    | [hd] =>
      if zoneCountOk load.addr (byteNat hd 5) then
        { s with sweep.load := some { load with count := byteNat hd 5 } }
      else refuseLayout .range 0 s
    | hd :: records => if records.length = load.count then judgeLayout load hd records s else s
    | [] => s

/-- LAYOUT_LINE_ARRIVAL. -/
def layoutArrival (s : State) : State := arrival (fun o => o == .layout) layoutLine s

/-! ### Application (R7, R8) -/

/-- R7: the same ID, rectangle and role, enabled in both; role fields do not matter. -/
def sameRole (a b : Role) : Bool :=
  match a, b with
  | .replay, .replay => true
  | .sponsor _, .sponsor _ => true
  | .figure _, .figure _ => true
  | .message, .message => true
  | .house _ _ _, .house _ _ _ => true
  | _, _ => false

/-- R7: the old zone that a zone of the new layout keeps its state from. -/
def keptZone (s : State) (hd : ScreenHeader) (z : ZoneRec) : Option Zone :=
  if s.sweep.header = some hd then
    s.sweep.zones.find? (fun o =>
      o.cfg.id == z.id && o.cfg.x == z.x && o.cfg.y == z.y && o.cfg.w == z.w && o.cfg.h == z.h
        && sameRole o.cfg.role z.role && o.cfg.enabled && z.enabled)
  else none

/-- R7. -/
def applyZone (s : State) (hd : ScreenHeader) (z : ZoneRec) : Zone :=
  match keptZone s hd z with
  | some o => { o with cfg := z }
  | none => { cfg := z, epoch := 0, receiver := .stale, lastEpoch := 0, lastIdent := none, underruns := 0 }

/-- R39: an enabled HOUSE zone's idle timeout in milliseconds, 0 where it has no timer. -/
def idleTimeout (z : ZoneRec) (idle : Nat) : Nat := if z.enabled then idle * 100 else 0

/-- R39: the timer as loaded. -/
def loadedTimer (timeout : Nat) : Option Nat := if timeout = 0 then none else some timeout

/-- R8: a HOUSE zone starts STEADY, its timer loaded, not SOURCE_STALE, with the on-air buffer of a kept zone, else A. -/
def applyHouse (s : State) (hd : ScreenHeader) (z : ZoneRec) : Option House :=
  match z.role with
  | .house a b idle =>
    let onAir := match keptZone s hd z, findHouse z.id s with
      | some _, some h => h.onAir
      | _, _ => .a
    some
      { zone := z.id, bufA := a, bufB := b, size := zoneBytes z, onAir := onAir, flip := .steady
        timeout := idleTimeout z idle, idle := loadedTimer (idleTimeout z idle), stale := false }
  | _ => none

/-- R7, R8: the zone table and the redirect entries of a layout. -/
def installZones (l : Layout) (s : State) : State :=
  { s with
    sweep.header := some l.header
    sweep.zones := l.zones.map (applyZone s l.header)
    sweep.load := none
    path.houses := l.zones.filterMap (applyHouse s l.header) }

/-- R7, R8, R121, R166: the application of a layout at its boundary. -/
def installLayout (l : Layout) (s : State) : State :=
  let oldMessage := messageZone s
  let s := installZones l s
  let s := replayRelayout (l.zones.any isReplay) s
  let s := messageRelayout oldMessage (messageZone s) s
  settleLong .done l.zones.length (rebuildWatch s)

/-- R6: a pending layout is applied at the next sweep boundary. -/
def applyLayout (s : State) : State :=
  match s.sweep.load with
  | some { pending := some l, .. } => installLayout l s
  | _ => s

end Sys2Proof.Machine
end

