-- ==== Sys2Proof/Machine/Status.lean ====
section
/-! DEFINITION. The Status Writer (R56, R57): the status block image and its lines; and the progress line's two contents (R51, R52). -/

namespace Sys2Proof.Machine

/-! ### Codes of the status block (03 section 3.11) -/

def alertCode : AlertState → Nat
  | .quiet => 0
  | .engaging => 1
  | .onAir => 2
  | .releasing => 3

def thermalCode : ThermalState → Nat
  | .normal => 0
  | .warming => 1
  | .hold => 2
  | .cooling => 3

def consoleCode : ConsoleState → Nat
  | .absent => 0
  | .locked => 1
  | .freeRun => 2
  | .house => 3

/-- 0 is EMPTY. -/
def clipCode : Option Clip → Nat
  | none => 0
  | some c =>
    match c.state with
    | .armed => 1
    | .guarded => 2
    | .playing => 3
    | .held => 4
    | .ended => 5

def ribbonCode : RibbonState → Nat
  | .off => 0
  | .starting => 1
  | .on => 2
  | .stopping => 3

/-- 07, section 7.1: the slot index, or 255 for HOUSE or none. -/
def entryCode : RibbonEntry → Nat
  | .slot i => i
  | .house => 255
  | .none => 255

/-- R122: a number of a clip, 0 when it is EMPTY. -/
def clipNumber (f : Clip → Nat) (c : Option Clip) : Nat :=
  match c with
  | some x => f x
  | none => 0

/-- R56: the underrun count of a zone ID, 0 for an ID that the current layout lacks. -/
def underrunOf (s : State) (id : Nat) : Nat :=
  match s.sweep.zones.find? (fun z => z.cfg.id == id) with
  | some z => z.underruns
  | none => 0

/-! ### The image (R56) -/

abbrev Image := BitVec 3072

/-- Offsets 0 to 19, and 320 to 323. -/
def imageHead (s : State) (l : Image) : Image :=
  let l := place l 0 s.sweep.number
  let l := placeNat (placeNat l 4 8 (alertCode s.alert.state)) 5 8 (thermalCode s.brightness.state)
  let l := placeNat (placeNat l 6 8 s.brightness.effective) 7 8 (consoleCode s.clock.console)
  let l := placeNat (placeNat l 8 32 s.clock.game.value) 12 8 (flagNat s.clock.game.running)
  let l := placeNat l 13 8 s.clock.period
  let l := placeNat (placeNat l 14 16 s.figures.home) 16 16 s.figures.guest
  let l := placeNat (placeNat l 18 8 s.figures.homeAux) 19 8 s.figures.guestAux
  place l 320 s.sweep.number

/-- Offsets 20 to 27. -/
def imageReplay (s : State) (l : Image) : Image :=
  let l := placeNat (placeNat l 20 8 (clipCode s.replay.current)) 21 8 (clipNumber (·.angle) s.replay.current)
  let l := placeNat (placeNat l 22 16 (clipNumber (·.id) s.replay.current)) 24 16 (clipNumber (·.index) s.replay.current)
  placeNat l 26 16 (clipNumber (·.id) s.replay.onDeck)

/-- Three bytes of a ribbon from an offset on. -/
def imageRibbon (off : Nat) (r : Ribbon) (l : Image) : Image :=
  let l := placeNat (placeNat l off 8 (ribbonCode r.state)) (off + 1) 8 (entryCode r.entry)
  placeNat l (off + 2) 8 (flagNat r.staged.isSome)

/-- Offsets 34 to 39. -/
def imageMessages (s : State) (l : Image) : Image :=
  let onAir := match s.messages.onAir with
    | some o => o.msg.id
    | none => 0
  placeNat (placeNat (placeNat l 34 16 onAir) 36 8 s.messages.queue.length) 38 16 s.messages.lastGone

/-- Offsets 40 to 55. -/
def imageFlags (s : State) (l : Image) : Image :=
  let l := place (place l 40 s.status.flags) 44 s.decoder.latches
  let last := s.decoder.last
  placeNat (placeNat (place (place l 48 last.tag) 50 last.code) 51 8 (resultCode last.result)) 52 32 last.detail

/-- Offsets 64 to 111. -/
def imageUnderruns (s : State) (l : Image) : Image :=
  (List.range Config.zoneIds).foldl (fun l z => placeNat l (64 + 2 * z) 16 (underrunOf s z)) l

/-- R56: the image of a state. -/
def statusImage (s : State) : Image :=
  imageUnderruns s (imageFlags s (imageMessages s
    (imageRibbon 31 s.rotation.b (imageRibbon 28 s.rotation.a (imageReplay s (imageHead s 0))))))

/-- R57: line `n` of the aperture, from 2 to 7, of an image. -/
def statusLine (i : Image) (n : Nat) : StatusLine :=
  { number := n, data := field i (64 * (n - 2)) 512 }

/-- R57: the six lines of an image, in aperture order. -/
def statusLines (i : Image) : List StatusLine := (List.range 6).map (fun k => statusLine i (k + 2))

/-- R56, R57: the capture; lines of an earlier image not yet written stay before the new ones. -/
def capture (s : State) : State :=
  let i := statusImage s
  { s with
    status.image := some i
    status.lines := s.status.lines ++ statusLines i
    status.captureDue := false }

/-- A capture that was held back is made now (log 7). -/
def captureIfDue (s : State) : State := if s.status.captureDue then capture s else s

/-! ### The progress line (R51, R52) -/

def phaseCode : LanePhase → Nat
  | .fetching => 1
  | .waiting => 2
  | .gathering => 3
  | .writing => 4

/-- Cue codes of the long cues (03 section 3.11). -/
def longCode : LongCue → Byte
  | .layoutLoad => 0x01
  | .glyphLoad => 0x02
  | .clipArm => 0x03
  | .rotationAmend => 0x04
  | .exposureSnapshot => 0x05

/-- R51: the progress word of an unsettled lane, with the toggle as it stands. -/
def progressWord (l : Lane) : Line :=
  let x := placeNat (placeNat (0 : Line) 0 8 (2 * flagNat l.toggle)) 1 8 (phaseCode l.phase)
  placeNat (place (place x 2 (longCode l.cue)) 4 l.tag) 8 32 l.records

/-- R52: the final record of a settled lane. -/
def finalLine (l : Lane) (r : FinalRecord) : Line :=
  let x := place (placeNat (0 : Line) 0 8 (1 + 2 * flagNat l.toggle)) 2 (longCode l.cue)
  placeNat (place (placeNat x 3 8 (resultCode r.result)) 4 l.tag) 8 32 r.detail

end Sys2Proof.Machine
end

