-- ==== Sys2Proof/Machine/Transactions.lean ====
section
/-! DEFINITION. The Transaction Path (02): the forwarding queue, forwarding at the grant, house buffer pairs, watch matching, idle timers and the answer to a progress line read. -/

namespace Sys2Proof.Machine

/-! ### The forwarding queue (R26, R28) -/

/-- The line is line `n` of the aperture. -/
def isApertureLine (n : Nat) (line : LineNo) (s : State) : Bool := lineAddr line == apertureLine n s

/-- R28, R51: a read of the progress line that the Cue Decoder answers as the lane stands. -/
def decoderAnswers (t : Transaction) (s : State) : Bool :=
  match t with
  | .read line => !s.bypass && isApertureLine 1 line s && laneOccupied s
  | .write _ _ _ => false

/-- R28: whether the Cue Decoder answers is decided when the entry reaches the head. -/
def decideHead (s : State) : State :=
  { s with path.headAnswered :=
      match s.path.queue.head? with
      | some t => decoderAnswers t s
      | none => false }

/-- R26: a transaction is accepted at the tail of the queue, or its acceptance is withheld while the queue holds 32. -/
def offer (t : Transaction) (s : State) : State :=
  if s.path.queue.length < Config.queueCapacity then
    let s' := { s with path.queue := s.path.queue ++ [t] }
    if s.path.queue.isEmpty then decideHead s' else s'
  else { s with path.offered := s.path.offered ++ [t] }

/-- R26: the head leaves the queue, and a waiting transaction is accepted. -/
def leaveQueue (s : State) : State :=
  decideHead
    { s with
      path.queue := s.path.queue.tail ++ s.path.offered.take 1
      path.offered := s.path.offered.drop 1 }

/-- The head is a read that the Cue Decoder still answers. -/
def headAnswered (s : State) : Bool := s.path.headAnswered && laneOccupied s

/-- 02 section 2.7: the controller waits while the head needs the M-port. -/
def controllerWaits (s : State) : Bool := !s.path.queue.isEmpty && !headAnswered s

/-- R51: the lane after an answered read; the toggle is inverted while there is no final record. -/
def answerLane (l : Lane) : Lane := if l.final.isSome then l else { l with toggle := !l.toggle }

/-- R51: what an answered read returns. -/
def answerLine (l : Lane) : Line :=
  match l.final with
  | some r => finalLine l r
  | none => progressWord (answerLane l)

/-- PROGRESS_LINE_READ (R28, R51): the read at the head is answered and leaves the queue. -/
def progressRead (s : State) : State :=
  match s.path.queue, s.decoder.lane with
  | .read line :: _, some l =>
    if headAnswered s then
      leaveQueue
        { s with
          decoder.lane := some (answerLane l)
          path.reply := some { line := line, data := answerLine l } }
    else s
  | _, _ => s

/-! ### House buffer pairs (R31 to R34) -/

/-- R31: byte address `a` lies in the host view of a HOUSE zone. -/
def inHostView (a : Nat) (h : House) : Bool := h.bufA ≤ a && a < h.bufA + h.size

/-- The HOUSE zone whose host view holds `a`; buffers do not overlap (R4), so there is at most one. -/
def hostOf (a : Nat) (s : State) : Option House := s.path.houses.find? (inHostView a)

/-- The buffer off air. -/
def House.offAir (h : House) : Nat :=
  match h.onAir with
  | .a => h.bufB
  | .b => h.bufA

/-- R31: where a transaction to the line at `a` is forwarded, out of bypass. -/
def redirect (a : Nat) (s : State) : Nat :=
  match hostOf a s with
  | some h => h.offAir + (a - h.bufA)
  | none => a

/-- R27, R29: the address as forwarded. -/
def forwardAddr (a : Nat) (s : State) : Nat := if s.bypass then a else redirect a s

def flipBuffer : Buffer → Buffer
  | .a => .b
  | .b => .a

/-- R33: the exchange of a pending flip. -/
def exchangeHouse (h : House) : House :=
  match h.flip with
  | .flipPending => { h with onAir := flipBuffer h.onAir, flip := .steady }
  | .steady => h

/-- R33. -/
def exchangeFlips (s : State) : State := { s with path.houses := s.path.houses.map exchangeHouse }

/-- Change the redirect entry of one zone. -/
def onHouse (zone : Nat) (f : House → House) (s : State) : State :=
  { s with path.houses := s.path.houses.map (fun h => if h.zone = zone then f h else h) }

/-- R32. -/
def flipZone (zone : Byte) (s : State) : PostOutcome :=
  if Config.zoneIds ≤ zone.toNat then { state := s, result := .range, detail := 0 }
  else
    match findHouse zone.toNat s with
    | none => { state := s, result := .noZone, detail := 0 }
    | some h =>
      match h.flip with
      | .flipPending => { state := s, result := .wrongState, detail := 0 }
      | .steady =>
        { state := onHouse zone.toNat (fun h => { h with flip := .flipPending }) s, result := .done, detail := 0 }

/-! ### The idle timer (R39, R40) -/

/-- R39, R40: a host-view write reloads the timer and ends staleness. -/
def feedHouse (h : House) : House :=
  { h with idle := if h.timeout = 0 then none else some h.timeout, stale := false }

/-- R39: a timebase event of a HOUSE zone's idle timer; a timer at 0 stays there. -/
def idleStep (h : House) : House :=
  match h.idle with
  | some (n + 1) => if n = 0 then { h with idle := some 0, stale := true } else { h with idle := some n }
  | _ => h

/-- R39: the timebase event at which the timer reaches 0. -/
def idleExpires (h : House) : Bool := h.idle == some 1

/-- R39: a timebase event of every idle timer. -/
def stepIdle (s : State) : State :=
  raiseIf (s.path.houses.any idleExpires) .houseStale { s with path.houses := s.path.houses.map idleStep }

/-- IDLE_TIMER_EXPIRY: the last timebase event of one zone's timer (log 9). -/
def expireIdle (zone : Nat) (s : State) : State :=
  match findHouse zone s with
  | some h => if idleExpires h then raise .houseStale (onHouse zone idleStep s) else s
  | none => s

/-! ### The watch match (R38, R40) -/

/-- An enabled byte of the line at `a` lies in a watch list entry. -/
def overlaps (a : Nat) (mask : Mask) (e : WatchEntry) : Bool :=
  (List.range 64).any (fun i => mask.getLsbD i && e.start ≤ a + i && a + i < e.start + e.len)

/-- R38: the zones with at least one entry overlapping a write to the line at `a`, as forwarded. -/
def matchedZones (a : Nat) (mask : Mask) (s : State) : List Nat :=
  s.path.watch.filterMap (fun e => if overlaps a mask e then e.zone else none)

/-- R38, R40: each zone concerned is bumped once; `woken` is the HOUSE zone whose staleness the write ends. -/
def watchMatch (a : Nat) (mask : Mask) (woken : Option Nat) (s : State) : State :=
  let zones := woken.toList ++ matchedZones a mask s
  bumpZones (fun z => zones.contains z.id) s

/-! ### Forwarding (R27) -/

/-- R34: a write to the line at `a` is a late write. R34 asks for no enabled byte (log 14). -/
def isLateWrite (a : Nat) (s : State) : Bool := (hostOf a s).any (fun h => h.flip == .flipPending)

/-- R39, R40: a write with an enabled byte inside a host view, and the zone it wakes. -/
def hostWrite (h : House) (s : State) : State × Option Nat :=
  (onHouse h.zone feedHouse s, if h.stale then some h.zone else none)

/-- The host view's part in a write at `a`, as the controller addressed it. -/
def hostEffects (a : Nat) (s : State) : State × Option Nat :=
  match hostOf a s with
  | some h => hostWrite h s
  | none => (s, none)

/-- R27: the checks of a write with at least one enabled byte, out of bypass; `a` is its own address, `target` the
address as forwarded. -/
def writeChecks (a target : Nat) (mask : Mask) (s : State) : State :=
  let (s, woken) := hostEffects a s
  chaseSnoop target (watchMatch target mask woken s)

/-- R27, R29: a write lands at its address as forwarded, and out of bypass its checks follow: the late write's of every
write, the others of a write with an enabled byte. -/
def forwardWrite (line : LineNo) (data : Line) (mask : Mask) (s : State) : State :=
  let a := lineAddr line
  let target := forwardAddr a s
  let s := writeLine target data mask s
  if s.bypass then s
  else
    let s := raiseIf (isLateWrite a s) .lateWrite s
    if mask == 0 then s else writeChecks a target mask s

/-- R27: a read returns the line as memory holds it at the grant. -/
def forwardRead (line : LineNo) (s : State) : State :=
  { s with path.reply := some { line := line, data := memLine s.mem (forwardAddr (lineAddr line) s) } }

end Sys2Proof.Machine
end

