-- ==== Sys2Proof/Machine/Cues.lean ====
section
/-! DEFINITION. The Cue Decoder (03): taking a cue, short results, the long lane, CANCEL and RESTART, and what each cue does at its hand-off. -/

namespace Sys2Proof.Machine

/-! ### Dispatch (R47 to R49) -/

/-- A cue with no effect and a result. -/
def refusal (r : Result) (s : State) : PostOutcome := { state := s, result := r, detail := 0 }

/-- R48: a short cue takes its effect and is settled at its dispatch. -/
def shortCue (tag : Half) (code : Byte) (owner : State → PostOutcome) (s : State) : State :=
  let o := owner s
  settleShort tag code o.result o.detail o.state

/-- R47: a short cue with an address operand; `checked` says that the owner reads it in the cue's case. -/
def withAddress (checked : Bool) (a : Quad) (owner : State → PostOutcome) (s : State) : PostOutcome :=
  if checked && !addressOk a then refusal .range s else owner s

/-- R47, R49, R50: a long cue that does not join a gathering. -/
def longCue (cue : LongCue) (tag : Half) (phase : LanePhase) (addrs : List Quad) (owner : State → State) (s : State) :
    State :=
  if laneOccupied s then settleShort tag (longCode cue) .busy 0 s
  else
    let s := acceptLong cue tag phase s
    if addrs.all addressOk then owner s else settleLong .range 0 s

/-! ### Long cues -/

/-- R2. -/
def cueLayoutLoad (tag : Half) (addr : Quad) (s : State) : State :=
  longCue .layoutLoad tag .fetching [addr] (startLayout addr.toNat) s

/-- R86. -/
def cueGlyphLoad (tag : Half) (addr : Quad) (s : State) : State :=
  longCue .glyphLoad tag .fetching [addr] (startGlyphs addr.toNat) s

/-- R101. -/
def cueClipArm (tag : Half) (addr : Quad) (s : State) : State :=
  longCue .clipArm tag .fetching [addr] (startClipArm addr.toNat) s

/-- R49: the gathering that a ROTATION AMEND for a ribbon joins. -/
def gathering (op : AmendOperand) (s : State) : Option Gather :=
  match s.decoder.lane, s.rotation.gather with
  | some l, some g =>
    if l.cue = .rotationAmend ∧ l.phase = .gathering ∧ ribbonId op.ribbon = some g.ribbon then some g else none
  | _, _ => none

/-- R49, R134, R136. The house creative address of a joining amend is not read (R47). -/
def cueRotationAmend (tag : Half) (op : AmendOperand) (s : State) : State :=
  match gathering op s with
  | some g => shortCue tag (longCode .rotationAmend) (withAddress true op.slots (joinAmend op g)) s
  | none => longCue .rotationAmend tag .fetching [op.house, op.slots] (startAmend op) s

/-- R150: the destination of an image of `n` entries. -/
def snapshotPlaceOk (dest n : Nat) (s : State) : Bool :=
  lineAligned dest && dest + 64 * entryLines n < Config.memoryBytes
    && !rangesOverlap dest (64 * (1 + entryLines n)) (apertureBase s) 512

/-- R151. -/
def takeSnapshot (tag : Half) (zero purge : Bool) (dest : Nat) (s : State) : State :=
  let t := s.exposure.entries
  let image : Snapshot :=
    { image := t, number := s.sweep.number, tag := tag, zero := zero, purge := purge, dest := dest
      lines := snapshotLines t.length, written := 0 }
  { s with exposure := { entries := zeroAndPurge zero purge (referenced s) t, snapshot := some image } }

/-- R150, R151. -/
def startSnapshot (tag : Half) (zero purge : Byte) (dest : Nat) (s : State) : State :=
  if !(zero.toNat ≤ 1 && purge.toNat ≤ 1 && snapshotPlaceOk dest s.exposure.entries.length s) then
    settleLong .range 0 s
  else if zero = 1 ∧ alertOnAir s then settleLong .wrongState 0 s
  else takeSnapshot tag (zero == 1) (purge == 1) dest s

def cueExposureSnapshot (tag : Half) (zero purge : Byte) (dest : Quad) (s : State) : State :=
  longCue .exposureSnapshot tag .writing [dest] (startSnapshot tag zero purge dest.toNat) s

/-! ### Short cues -/

def cueFlip (tag : Half) (zone : Byte) (s : State) : State := shortCue tag 0x10 (flipZone zone) s

def cueClipTake (tag : Half) (s : State) : State := shortCue tag 0x20 clipTake s

def cueClipPlay (tag rate : Half) (guardFlag : Byte) (s : State) : State :=
  shortCue tag 0x21 (clipPlay rate guardFlag) s

def cueClipHold (tag : Half) (s : State) : State := shortCue tag 0x22 clipHold s

def cueClipResume (tag : Half) (s : State) : State := shortCue tag 0x23 clipResume s

def cueClipRate (tag rate : Half) (s : State) : State := shortCue tag 0x24 (clipRate rate) s

def cueClipAngle (tag : Half) (angle : Byte) (s : State) : State := shortCue tag 0x25 (clipAngle angle) s

def cueClipDrop (tag : Half) (s : State) : State := shortCue tag 0x26 clipDrop s

def cueRibbonEnable (tag : Half) (ribbon : Byte) (s : State) : State := shortCue tag 0x30 (ribbonEnable ribbon) s

def cueRibbonDisable (tag : Half) (ribbon : Byte) (s : State) : State := shortCue tag 0x31 (ribbonDisable ribbon) s

/-- R155, R156: the field checks, then the post. -/
def postOperand (m : MessageOperand) (s : State) : PostOutcome :=
  if messageOk m then post (messageRecord m) s else refusal .range s

def cueMessagePost (tag : Half) (m : MessageOperand) (s : State) : State :=
  shortCue tag 0x40 (withAddress true m.addr (postOperand m)) s

def cueMessageWithdraw (tag id : Half) (s : State) : State := shortCue tag 0x41 (withdraw id.toNat) s

def cueCelebrationSet (tag : Half) (enable : Byte) (m : MessageOperand) (s : State) : State :=
  shortCue tag 0x42 (withAddress (enable != 0) m.addr (setCelebration enable m)) s

def cueAlertStandingSet (tag : Half) (present : Byte) (addr : Quad) (colour : Pixel) (s : State) : State :=
  shortCue tag 0x50 (withAddress (present != 0) addr (alertStandingSet present addr.toNat colour)) s

def cueAlertRaise (tag : Half) (addr : Quad) (s : State) : State :=
  shortCue tag 0x51 (withAddress true addr (alertRaise addr.toNat)) s

def cueAlertClear (tag : Half) (s : State) : State := shortCue tag 0x52 alertClear s

def cueBrightnessSet (tag : Half) (requested thermal : Byte) (s : State) : State :=
  shortCue tag 0x60 (brightnessSet requested thermal) s

/-- R81. -/
def clockSet (op : ClockSetOperand) (s : State) : PostOutcome :=
  if clockSetOk op then { state := setClocks op s, result := .done, detail := 0 } else refusal .range s

def cueClockSet (tag : Half) (op : ClockSetOperand) (s : State) : State := shortCue tag 0x70 (clockSet op) s

def cueClockRun (tag : Half) (clock : Byte) (s : State) : State := shortCue tag 0x71 (houseControl true clock) s

def cueClockStop (tag : Half) (clock : Byte) (s : State) : State := shortCue tag 0x72 (houseControl false clock) s

/-- R96. -/
def scoreSet (op : ScorePayload) (s : State) : PostOutcome :=
  { state := writeScores op s, result := .done, detail := 0 }

def cueScoreSet (tag : Half) (op : ScorePayload) (s : State) : State := shortCue tag 0x73 (scoreSet op) s

/-- R59, R60: a flag mask operand as the 19 flags. -/
def onFlags (f : BitVec 19 → State → State) (mask : Word) (s : State) : PostOutcome :=
  if flagMaskOk mask then { state := f (mask.setWidth 19) s, result := .done, detail := 0 } else refusal .range s

def cueStatusClear (tag : Half) (mask : Word) (s : State) : State := shortCue tag 0x80 (onFlags clearFlags mask) s

def cueAttentionMask (tag : Half) (mask : Word) (s : State) : State := shortCue tag 0x81 (onFlags replaceMask mask) s

/-! ### CANCEL and RESTART (R54, R55) -/

/-- R54: the owner of an unsettled cue ends it, and the cue is settled CANCELLED. -/
def endLong (s : State) : State :=
  match s.exposure.snapshot with
  | some p => cancelSnapshot p s
  | none => settleLong .cancelled 0 (dropRecord (discardWork s))

/-- R54, the three LONG rows. -/
def cancelLong (s : State) : PostOutcome :=
  if laneUnsettled s then { state := endLong s, result := .done, detail := 0 } else refusal .wrongState s

/-- R54: every value of the operand. -/
def cancel (target : Byte) (s : State) : PostOutcome :=
  match target.toNat with
  | 0 => cancelLong s
  | 1 => cancelStaged .a s
  | 2 => cancelStaged .b s
  | _ => refusal .range s

def cueCancelLong (tag : Half) (s : State) : State := shortCue tag 0x82 (cancel 0) s

def cueCancelStaged (tag : Half) (target : Byte) (s : State) : State := shortCue tag 0x82 (cancel target) s

/-- R25: the sweep number and the interval in progress go on; a frame in progress is abandoned. -/
def restartSweep (s : State) : State :=
  { s with sweep := { coldSweep with number := s.sweep.number, rate := s.sweep.rate } }

/-- R30: the watch list and the house zones go; the queue stays. -/
def restartPath (s : State) : State := { s with path.watch := [], path.houses := [] }

/-- R30, R44: a line in flight completes and its data are dropped. -/
def dropFlight (s : State) : State := { s with port := s.port.map (fun f => { f with dropped := true }) }

/-- R100: scores 0, period 1, no celebration; the glyph set is kept and the strings are recomputed. -/
def restartFigures (s : State) : State :=
  let f := { coldFigures with glyphs := s.figures.glyphs }
  { s with figures := { f with strings := renderStrings f coldGameString coldSecondaryString } }

/-- R124, R142, R168: clips, ribbons and messages take their cold values. -/
def restartContent (s : State) : State :=
  { s with
    replay := coldReplay
    rotation := coldRotation
    messages := coldMessages }

/-- R55: the warm values of every unit; the Exposure Table keeps its entries (R154). -/
def restartUnits (s : State) : State :=
  restartFlags (restartBrightness (restartAlert (restartClock
    (restartFigures (restartContent (restartSweep (restartPath (dropFlight s))))))))

/-- R55: any long cue in flight is settled first. -/
def cueRestart (tag : Half) (s : State) : State :=
  let s := if laneUnsettled s then endLong s else s
  settleShort tag 0x83 .done 0 (restartUnits s)

/-! ### Hand-off (R46) -/

/-- R47: a cue goes to its owner; a command that is no cue has no dispatch. -/
def dispatch : Instr → State → State
  | .layoutLoad tag a, s => cueLayoutLoad tag a s
  | .glyphLoad tag a, s => cueGlyphLoad tag a s
  | .clipArm tag a, s => cueClipArm tag a s
  | .rotationAmend tag op, s => cueRotationAmend tag op s
  | .exposureSnapshot tag z p d, s => cueExposureSnapshot tag z p d s
  | .flip tag z, s => cueFlip tag z s
  | .clipTake tag, s => cueClipTake tag s
  | .clipPlay tag r g, s => cueClipPlay tag r g s
  | .clipHold tag, s => cueClipHold tag s
  | .clipResume tag, s => cueClipResume tag s
  | .clipRate tag r, s => cueClipRate tag r s
  | .clipAngle tag a, s => cueClipAngle tag a s
  | .clipDrop tag, s => cueClipDrop tag s
  | .ribbonEnable tag r, s => cueRibbonEnable tag r s
  | .ribbonDisable tag r, s => cueRibbonDisable tag r s
  | .messagePost tag m, s => cueMessagePost tag m s
  | .messageWithdraw tag i, s => cueMessageWithdraw tag i s
  | .celebrationSet tag e m, s => cueCelebrationSet tag e m s
  | .alertStandingSet tag p a c, s => cueAlertStandingSet tag p a c s
  | .alertRaise tag a, s => cueAlertRaise tag a s
  | .alertClear tag, s => cueAlertClear tag s
  | .brightnessSet tag r t, s => cueBrightnessSet tag r t s
  | .clockSet tag op, s => cueClockSet tag op s
  | .clockRun tag c, s => cueClockRun tag c s
  | .clockStop tag c, s => cueClockStop tag c s
  | .scoreSet tag op, s => cueScoreSet tag op s
  | .statusClear tag m, s => cueStatusClear tag m s
  | .attentionMask tag m, s => cueAttentionMask tag m s
  | .cancelLong tag, s => cueCancelLong tag s
  | .cancelStaged tag t, s => cueCancelStaged tag t s
  | .restart tag, s => cueRestart tag s
  | .coldReset, s => s
  | .resetDeassert, s => s
  | .initialisationComplete _, s => s
  | .transactionAccepted _, s => s
  | .mportGrant, s => s
  | .progressLineRead, s => s
  | .sweepLineArrival, s => s
  | .layoutLineArrival, s => s
  | .glyphLineArrival, s => s
  | .clipDescriptorLineArrival, s => s
  | .slotRecordLineArrival, s => s
  | .sweepBoundary _ _, s => s
  | .slotDeadline, s => s
  | .linkReadyFalls, s => s
  | .linkReadyRises, s => s
  | .clockTimebaseStep, s => s
  | .clockExpiry _, s => s
  | .gapTimerExpiry, s => s
  | .beaconWatchdogExpiry, s => s
  | .beacon _, s => s
  | .scoreFrame _, s => s
  | .idleTimerExpiry _, s => s
  | .chaseTimeout, s => s
  | .gatherTimerExpiry, s => s
  | .venueAlertLineAsserted, s => s
  | .venueAlertLineDeasserted, s => s
  | .debounceExpiry, s => s
  | .heatLineAsserted, s => s
  | .heatLineDeasserted, s => s
  | .warmTimerExpiry, s => s
  | .coolTimerExpiry, s => s
  | .timingLineByte _ _, s => s

/-- R46: what the Cue Decoder makes of a write to the cue line. -/
def handOff (data : Line) (mask : Mask) (s : State) : State :=
  if mask ≠ fullMask then s
  else
    match decodeCue data with
    | .notCue => s
    | .unknown code tag => settleShort tag code .unknownCue 0 s
    | .cue i => dispatch i s

end Sys2Proof.Machine
end

