-- ==== Sys2Proof/Machine/Sweep.lean ====
section
/-! DEFINITION. The Sweep Engine's frames (01 sections 1.6 to 1.9): the frame plan, fetching against deadlines, the sweep link and slot reports. -/

namespace Sys2Proof.Machine

/-! ### The frame plan (R12 to R16) -/

/-- R13: an active zone of the plan on a higher layer hides a zone whose rectangle it intersects. -/
def hidden (plan : List ZoneRec) (active : ZoneRec → Bool) (z : ZoneRec) : Bool :=
  plan.any (fun o => active o && z.layer < o.layer && intersects o z)

/-- R15, or R21 for a frame that is not sent. -/
def settleSlot (sent : Bool) (s : State) (z : Zone) : Settlement :=
  if !sent then .unsent
  else if !zoneActive s z.cfg then .dark
  else if z.receiver = .holdsCurrent ∧ z.epoch = z.lastEpoch ∧ z.lastIdent = some (zoneIdent s z.cfg) then .held
  else .toFetch

/-- R12 to R16: one slot of the plan. -/
def planSlot (sent : Bool) (s : State) (plan : List ZoneRec) (z : Zone) : Slot :=
  let settlement := settleSlot sent s z
  { zone := z.cfg
    active := zoneActive s z.cfg
    visible := zoneActive s z.cfg && !hidden plan (zoneActive s) z.cfg
    ident := zoneIdent s z.cfg
    epoch := z.epoch
    settlement := settlement
    shape := zoneShape s z.cfg
    fetch := startFetch (if settlement = .toFetch then zoneRuns s z.cfg else [])
    closed := none }

/-- R12: one slot for each enabled zone, in ascending zone ID order. -/
def planFrame (sent : Bool) (s : State) : List Slot :=
  let zones := enabledZones s
  zones.map (planSlot sent s (zones.map (·.cfg)))

/-! ### The sweep link (R20) -/

/-- R20: what the receiver cards do with an item: FRESH and DARK replace a zone's content, HELD and STALLED keep it. A
header begins a frame of which no slot has been seen (log 33). -/
def cardsTake (c : ReceiverCards) : LinkItem → ReceiverCards
  | .header h => { c with header := some h, seen := [], alert := none }
  | .slot z _ payload =>
    let old := c.held.find? (fun x => x.zone.id == z.id)
    let content := match payload, old with
      | .keep, some x => x.content
      | p, _ => p
    { c with held := { zone := z, content := content } :: c.held.filter (fun x => x.zone.id != z.id)
             seen := c.seen ++ [z.id] }
  | .alertSlot payload => { c with alert := some payload }

/-- Send an item on the link. -/
def sendItem (i : LinkItem) (s : State) : State :=
  { s with sweep.link := s.sweep.link ++ [i], receivers := cardsTake s.receivers i }

/-- The pixel at `x`, `y` of a raster of width `w`, or of a fill; none where nothing is held. -/
def payloadPixel (p : Payload) (w x y : Nat) : Option Pixel :=
  match p with
  | .pixels r => r[y * w + x]?
  | .fill c => some c
  | .keep => none

/-- A zone covers a pixel (01 section 1.2). -/
def covers (z : ZoneRec) (x y : Nat) : Bool := z.x ≤ x && x < z.x + z.w && z.y ≤ y && y < z.y + z.h

/-- Of two held zones the one on the higher layer. -/
def upper (a : Option HeldZone) (b : HeldZone) : Option HeldZone :=
  match a with
  | some x => if x.zone.layer < b.zone.layer then some b else some x
  | none => some b

/-- R20: what the board shows at a pixel of the screen, before its light output is scaled by the header's duty: the
alert slot of an alert frame, else the zones of the frame by layer over the screen backdrop. DESIGN CHOICE (log 33): a
zone whose slot the frame has not sent, yet or at all, shows the screen backdrop, though the cards hold its content. -/
def boardPixel (c : ReceiverCards) (x y : Nat) : Option Pixel :=
  match c.header with
  | none => none
  | some h =>
    match h.kind with
    | .alert => c.alert.bind (fun p => payloadPixel p h.width x y)
    | .zones =>
      match (c.held.filter (fun z => c.seen.contains z.zone.id && covers z.zone x y)).foldl upper none with
      | some z => payloadPixel z.content z.zone.w (x - z.zone.x) (y - z.zone.y)
      | none => some h.backdrop

/-- R20: the frame header of the frame a boundary starts. -/
def frameHeader (kind : FrameKind) (h : ScreenHeader) (s : State) : FrameHeader :=
  { number := s.sweep.number, duty := s.brightness.effective, kind := kind, width := h.width, height := h.height
    backdrop := h.backdrop }

/-! ### Starting a frame (R11, R21, R23) -/

/-- R23: the alert frame, after the choice of its raster. -/
def startAlertFrame (h : ScreenHeader) (s : State) : State :=
  let s := allStale (chooseRaster h s)
  let ready := s.pins.linkReady
  let runs := match s.alert.chosen with
    | some a => rasterRun a h.width h.height
    | none => []
  let slot : AlertSlot :=
    { raster := s.alert.chosen, colour := s.alert.colour, fetch := startFetch (if ready then runs else [])
      sending := ready, closed := false }
  let s := { s with sweep.frame := .alert slot }
  if ready then sendItem (.header (frameHeader .alert h s)) s else raise .linkDown s

/-- R12 to R15, R21: the zone frame. -/
def startZoneFrame (h : ScreenHeader) (s : State) : State :=
  if s.pins.linkReady then
    sendItem (.header (frameHeader .zones h s)) { s with sweep.frame := .zones (planFrame true s) }
  else raise .linkDown (allStale { s with sweep.frame := .zones (planFrame false s) })

/-- R11: the frame that a boundary starts. -/
def startFrame (s : State) : State :=
  let s := { s with sweep.duty := s.brightness.effective, sweep.link := [], sweep.frame := .none }
  match s.sweep.header with
  | none => s
  | some h => if alertOnAir s then startAlertFrame h s else startZoneFrame h s

/-! ### Fetching (R16, R17) -/

/-- A slot whose fetch is under way or still to start. -/
def Slot.fetching (x : Slot) : Bool := x.closed.isNone && x.settlement == .toFetch && !x.fetch.complete

/-- The alert slot's fetch is under way. -/
def AlertSlot.fetching (x : AlertSlot) : Bool := !x.closed && x.sending && !x.fetch.complete

/-- R16: the one slot the engine fetches for, the first in slot order, with the address of its next line. -/
def sweepNext (s : State) : Option (FlightOrigin × Nat) :=
  match s.sweep.frame with
  | .none => none
  | .zones slots =>
    (slots.find? Slot.fetching).bind (fun x => x.fetch.next.map (fun a => (.slot x.zone.id, a)))
  | .alert slot => if slot.fetching then slot.fetch.next.map (fun a => (.alertSlot, a)) else none

/-- R16: the line of the slot being fetched arrives. -/
def takeSlotLine (l : Line) : List Slot → List Slot
  | [] => []
  | x :: rest => if x.fetching then { x with fetch := x.fetch.take l } :: rest else x :: takeSlotLine l rest

/-- R16, R23. -/
def sweepLine (l : Line) (s : State) : State :=
  match s.sweep.frame with
  | .none => s
  | .zones slots => { s with sweep.frame := .zones (takeSlotLine l slots) }
  | .alert slot => { s with sweep.frame := .alert { slot with fetch := slot.fetch.take l } }

/-- SWEEP_LINE_ARRIVAL. -/
def sweepArrival (s : State) : State := arrival sweepOrigin sweepLine s

/-! ### Closing slots (R17 to R19, R24) -/

/-- R17, R18: how a slot closes at its deadline, `holds` being that its zone is HOLDS_CURRENT. -/
def closing (x : Slot) (holds : Bool) : Disposition :=
  match x.settlement with
  | .unsent => .unsent
  | .dark => .dark
  | .held => .held
  | .toFetch => if x.fetch.complete then .fresh else if holds then .stalled else .dark

/-- R17: the slot closes with an underrun. -/
def underruns (x : Slot) : Bool := x.settlement == .toFetch && !x.fetch.complete

/-- R18, R19: the zone's record at the close of its slot. -/
def closeZone (d : Disposition) (under : Bool) (x : Slot) (z : Zone) : Zone :=
  let z := { z with underruns := if under then saturate Config.underrunMax z.underruns else z.underruns }
  match d with
  | .fresh => { z with receiver := .holdsCurrent, lastEpoch := x.epoch, lastIdent := some x.ident }
  | .held => { z with receiver := .holdsCurrent }
  | .stalled => { z with receiver := .holdsCurrent }
  | .dark => { z with receiver := .holdsCurrent, lastIdent := some .dark }
  | .unsent => { z with receiver := .stale }

/-- R20: what the slot carries. -/
def slotPayload (d : Disposition) (x : Slot) : Payload :=
  match d with
  | .fresh => .pixels (zonePixels x.zone x.shape x.fetch.got)
  | .dark => .fill x.zone.backdrop
  | _ => .keep

/-- R24: the report of a closed slot, for SPONSOR zones and the MESSAGE zone. -/
def slotReport (d : Disposition) (duty : Nat) (x : Slot) : Option SlotReport :=
  let report : SlotReport :=
    { zone := x.zone.id, role := x.zone.role, disposition := d, visible := x.visible, duty := duty, ident := x.ident }
  match x.zone.role with
  | .sponsor _ => some report
  | .message => some report
  | _ => none

/-- The zone of a slot is HOLDS_CURRENT. -/
def zoneHolds (id : Nat) (s : State) : Bool :=
  s.sweep.zones.any (fun z => z.cfg.id == id && z.receiver == .holdsCurrent)

/-- The slot at its deadline, by `SLOT_DEADLINE`, with the slots before and after it. -/
def closeSlot (before : List Slot) (x : Slot) (after : List Slot) (s : State) : State :=
  let d := closing x (zoneHolds x.zone.id s)
  let under := underruns x
  let slots := before ++ { x with closed := some d, fetch := { x.fetch with runs := [] } } :: after
  let s :=
    { s with
      sweep.frame := .zones slots
      sweep.zones := s.sweep.zones.map (fun z => if z.cfg.id = x.zone.id then closeZone d under x z else z)
      port := s.port.map (fun f => if f.origin = .slot x.zone.id then { f with dropped := true } else f) }
  let s := raiseIf under .zoneUnderrun s
  let s := if d = .unsent then s else sendItem (.slot x.zone d (slotPayload d x)) s
  match slotReport d s.sweep.duty x with
  | some r => reportSlot r s
  | none => s

/-- The slots already closed, and the first open one with the rest. -/
def openSlot : List Slot → List Slot → Option (List Slot × Slot × List Slot)
  | _, [] => none
  | before, x :: rest => if x.closed.isNone then some (before.reverse, x, rest) else openSlot (x :: before) rest

/-- R23, R174: the alert slot at its deadline: the raster if it has all arrived, else solid fill in the colour that stood
at the boundary. DEDUCED (log 32): a raster that has not all arrived raises no ZONE_UNDERRUN. -/
def closeAlert (x : AlertSlot) (s : State) : State :=
  let payload : Payload :=
    if x.raster.isSome ∧ x.fetch.complete then .pixels (x.fetch.got.flatMap linePixels) else .fill x.colour
  let s := dropSweep { s with sweep.frame := .alert { x with closed := true, fetch := { x.fetch with runs := [] } } }
  if x.sending then sendItem (.alertSlot payload) s else s

/-- SLOT_DEADLINE: the link reaches the first slot not yet closed; after the last one there is none (log 8). -/
def slotDeadline (s : State) : State :=
  match s.sweep.frame with
  | .none => s
  | .zones slots =>
    match openSlot [] slots with
    | some (before, x, after) => closeSlot before x after s
    | none => s
  | .alert slot => if slot.closed then s else closeAlert slot s

/-- Deadlines that a frame still has to come. -/
def openSlots (s : State) : Nat :=
  match s.sweep.frame with
  | .none => 0
  | .zones slots => (slots.filter (fun x => x.closed.isNone)).length
  | .alert slot => if slot.closed then 0 else 1

def closeTimes : Nat → State → State
  | 0, s => s
  | n + 1, s => closeTimes n (slotDeadline s)

/-- R1: every deadline of a frame comes before the next boundary (log 10). -/
def closeFrame (s : State) : State := closeTimes (openSlots s) s

/-! ### The link (R22) -/

/-- R22: a slot not yet closed will close UNSENT. -/
def unsendSlot (x : Slot) : Slot :=
  if x.closed.isNone then { x with settlement := .unsent, fetch := { x.fetch with runs := [] } } else x

/-- R22: what the fall of link-ready leaves of a frame. -/
def cutFrame : Frame → Frame
  | .none => .none
  | .zones slots => .zones (slots.map unsendSlot)
  | .alert x => .alert { x with sending := false, fetch := { x.fetch with runs := [] } }

def Frame.running : Frame → Bool
  | .none => false
  | _ => true

/-- R22: link-ready falls. -/
def linkFalls (s : State) : State :=
  let s := { s with pins.linkReady := false }
  if s.sweep.frame.running then
    raise .linkDown (dropSweep (allStale { s with sweep.frame := cutFrame s.sweep.frame }))
  else s

/-- R22: link-ready rises; the rest of the frame stays unsent. -/
def linkRises (s : State) : State := { s with pins.linkReady := true }

end Sys2Proof.Machine
end

