-- ==== Sys2Proof/Machine/Grant.lean ====
section
/-! DEFINITION. The Memory Arbiter (R43, R44): who waits, the turn pointer, and what each granted line does. -/

namespace Sys2Proof.Machine

/-! ### The part's own lines (R43) -/

/-- A line that the part requester presents. -/
inductive PartLine where
  | record (origin : FlightOrigin) (addr : Nat)
  | snapshot (image : Snapshot) (line : SnapshotLine) (rest : List SnapshotLine)
  | status (line : StatusLine) (rest : List StatusLine)
  | final (lane : Lane) (result : FinalRecord)
  deriving DecidableEq, Repr

/-- The record line of CLIP ARM: the header, then line 1. -/
def clipLineAddr (a : ClipArm) : Nat := if a.header.isNone then a.addr else a.addr + 64

/-- The next record line of the owner of a long cue. -/
def ownerLine (cue : LongCue) (s : State) : Option (FlightOrigin × Nat) :=
  match cue with
  | .layoutLoad => s.sweep.load.map (fun x => (.layout, x.addr + 64 * x.lines.length))
  | .glyphLoad => s.figures.load.map (fun x => (.glyph, x.addr + 64 * x.lines.length))
  | .clipArm => s.replay.arm.map (fun x => (.clip, clipLineAddr x))
  | .rotationAmend => s.rotation.gather.map (fun x => (.slotRecords, x.next))
  | .exposureSnapshot => none

/-- R50: record lines are presented while the phase is FETCHING. -/
def recordNext (s : State) : Option PartLine :=
  match s.decoder.lane with
  | some l =>
    if l.phase = .fetching then (ownerLine l.cue s).map (fun p => PartLine.record p.1 p.2) else none
  | none => none

/-- R62: the part writes its aperture only once the first image has been captured. -/
def apertureOpen (s : State) : Bool := s.status.image.isSome

/-- The line at byte address `a` lies in the aperture (R45). -/
def inAperture (a : Nat) (s : State) : Bool := apertureBase s ≤ a && a < apertureBase s + Config.apertureBytes

/-- R152, R153: the snapshot's next line, held back by R62 while it would land in the aperture (log 30). -/
def snapshotNext (s : State) : Option PartLine :=
  match s.exposure.snapshot with
  | some p =>
    match p.lines with
    | x :: rest =>
      if inAperture (snapshotAddr p x) s && !apertureOpen s then none else some (.snapshot p x rest)
    | [] => none
  | none => none

/-- R57: the next status block line. -/
def statusNext (s : State) : Option PartLine :=
  match s.status.lines with
  | x :: rest => some (.status x rest)
  | [] => none

/-- R52: the final record of a settled lane, held back by R62 (log 30). -/
def finalNext (s : State) : Option PartLine :=
  if apertureOpen s then s.decoder.lane.bind (fun l => l.final.map (fun r => PartLine.final l r)) else none

/-- R43: the first kind with a line ready. -/
def partNext (s : State) : Option PartLine :=
  recordNext s <|> snapshotNext s <|> statusNext s <|> finalNext s

/-- R53: the final record lands. -/
def landFinal (l : Lane) (r : FinalRecord) (s : State) : State :=
  let s := writeWhole (apertureLine 1 s) (finalLine l r) s
  raiseIf (refuses r.result) .cueRefused
    (raise .longCueDone { s with decoder.lane := none, exposure.snapshot := none })

/-- A line of the part is granted. -/
def grantPartLine (x : PartLine) (s : State) : State :=
  match x with
  | .record origin a => { s with port := some { origin := origin, data := memLine s.mem a, dropped := false } }
  | .snapshot p line rest => writeSnapshotLine p line rest s
  | .status line rest =>
    writeWhole (apertureLine line.number s) line.data { s with status.lines := rest }
  | .final l r => landFinal l r s

/-! ### The turn pointer (R44) -/

/-- The three requesters of 02 section 2.7. -/
inductive Requester where
  | controller
  | sweep
  | part
  deriving DecidableEq, Repr

/-- R44: positions 0 to 3. -/
def requesterAt (p : Fin 4) : Requester :=
  match p with
  | 0 => .controller
  | 1 => .sweep
  | 2 => .part
  | 3 => .sweep

/-- A requester waits while it has a line to move; in bypass only the controller does (R29). -/
def waits (r : Requester) (s : State) : Bool :=
  match r with
  | .controller => controllerWaits s
  | .sweep => !s.bypass && (sweepNext s).isSome
  | .part => !s.bypass && (partNext s).isSome

/-- R44: the positions from the pointer onward, wrapping after 3. -/
def positionsFrom (p : Fin 4) : List (Fin 4) := [p, p + 1, p + 2, p + 3]

/-- R44: the first position whose requester waits. -/
def grantedPosition (s : State) : Option (Fin 4) :=
  (positionsFrom s.turn).find? (fun p => waits (requesterAt p) s)

/-- R46: the hand-off of a write to the cue line, out of bypass. -/
def handOffWrite (line : LineNo) (data : Line) (mask : Mask) (s : State) : State :=
  if !s.bypass && isApertureLine 0 line s then handOff data mask s else s

/-- R26, R27: the head is forwarded and leaves the queue. -/
def grantController (s : State) : State :=
  match s.path.queue with
  | .read line :: _ => leaveQueue (forwardRead line s)
  | .write line data mask :: _ => leaveQueue (handOffWrite line data mask (forwardWrite line data mask s))
  | [] => s

/-- R16: the sweep's next line is granted. -/
def grantSweep (s : State) : State :=
  match sweepNext s with
  | some (origin, a) => { s with port := some { origin := origin, data := memLine s.mem a, dropped := false } }
  | none => s

def grantPart (s : State) : State :=
  match partNext s with
  | some x => grantPartLine x s
  | none => s

def grantTo (r : Requester) (s : State) : State :=
  match r with
  | .controller => grantController s
  | .sweep => grantSweep s
  | .part => grantPart s

/-- R44: the grant, with the pointer moved past the position granted. -/
def grantLine (s : State) : State :=
  match grantedPosition s with
  | some p => grantTo (requesterAt p) { s with turn := p + 1 }
  | none => s

/-- MPORT_GRANT: a grant is made when the M-port is free and a requester waits. A capture that was held back is made
first (log 7). -/
def mportGrant (s : State) : State :=
  if s.port.isSome then s else grantLine (if s.bypass then s else captureIfDue s)

end Sys2Proof.Machine
end

