-- ==== Sys2Proof/Machine/Reset.lean ====
section
/-! DEFINITION. RESET and initialisation (R29, and the cold values of every unit). -/

namespace Sys2Proof.Machine

/-- Every unit at its cold values; the forwarding queue, the turn pointer and a line in flight are left alone. -/
def coldUnits (s : State) : State :=
  { s with
    path.headAnswered := false
    path.watch := []
    path.houses := []
    decoder := coldDecoder
    status := coldStatus
    sweep := coldSweep
    clock := coldClockUnit
    figures := coldFigures
    replay := coldReplay
    rotation := coldRotation
    exposure := coldExposure
    messages := coldMessages
    alert := coldAlert
    brightness := coldBrightness }

/-- COLD_RESET: RESET is asserted. The queue keeps its entries (R26), the turn pointer goes to position 0 (R44), and a
line in flight completes with its data dropped (log 13). -/
def coldReset (s : State) : State :=
  let s := coldUnits s
  { s with
    pins.reset := true
    bypass := true
    initCount := none
    turn := 0
    port := s.port.map (fun f => { f with dropped := true }) }

/-- RESET_DEASSERT: the count of timebase events to the end of initialisation begins (R29). -/
def resetDeassert (s : State) : State :=
  if s.pins.reset then { s with pins.reset := false, initCount := some Config.initEvents } else s

/-- A timebase event of the initialisation count. -/
def stepInit (s : State) : State := { s with initCount := s.initCount.map (· - 1) }

/-- R175, R179: both lines are first sampled as initialisation completes; one found asserted is a new assertion. -/
def sampleLines (s : State) : State :=
  { s with
    alert.debounce := if s.pins.venue then some Config.debounceTime else none
    brightness := heatFound s.pins.heat s.brightness }

/-- R29, R45: initialisation completes: the straps are sampled, the units hold their cold values, and bypass ends. -/
def finishInit (straps : BitVec 4) (s : State) : State :=
  sampleLines { coldUnits s with bypass := false, initCount := none, segment := straps }

/-- INITIALISATION_COMPLETE: the tenth timebase event after RESET deasserts (log 9). -/
def initialisationComplete (straps : BitVec 4) (s : State) : State :=
  match s.initCount with
  | some n => if n ≤ 1 && s.bypass then finishInit straps s else s
  | none => s

end Sys2Proof.Machine
end

