-- ==== Sys2Proof/Machine/BusCommands.lean ====
section
/-! DEFINITION. The meanings of the reset and bus commands. -/

namespace Sys2Proof.Machine

/-- COLD_RESET (R29). -/
def execColdReset (s : State) : Host.Outcome State Fault Refusal :=
  .next (coldReset s)

/-- RESET_DEASSERT (R29). -/
def execResetDeassert (s : State) : Host.Outcome State Fault Refusal :=
  .next (resetDeassert s)

/-- INITIALISATION_COMPLETE (R29, R45). -/
def execInitialisationComplete (straps : BitVec 4) (s : State) : Host.Outcome State Fault Refusal :=
  .next (initialisationComplete straps s)

/-- TRANSACTION_ACCEPTED (R26). -/
def execTransactionAccepted (t : Transaction) (s : State) : Host.Outcome State Fault Refusal :=
  .next (offer t s)

/-- MPORT_GRANT (R44). -/
def execMportGrant (s : State) : Host.Outcome State Fault Refusal :=
  .next (mportGrant s)

/-- PROGRESS_LINE_READ (R28, R51). -/
def execProgressLineRead (s : State) : Host.Outcome State Fault Refusal :=
  .next (progressRead s)

end Sys2Proof.Machine
end

