-- ==== Sys2Proof/Machine/CueCommands.lean ====
section
/-! DEFINITION. The meanings of the cues, each as its hand-off out of bypass (log 12). -/

namespace Sys2Proof.Machine

/-- LAYOUT LOAD (R2). -/
def execLayoutLoad (tag : Half) (addr : Quad) (s : State) : Host.Outcome State Fault Refusal :=
  .next (outOfBypass (cueLayoutLoad tag addr) s)

/-- GLYPH LOAD (R86). -/
def execGlyphLoad (tag : Half) (addr : Quad) (s : State) : Host.Outcome State Fault Refusal :=
  .next (outOfBypass (cueGlyphLoad tag addr) s)

/-- CLIP ARM (R101). -/
def execClipArm (tag : Half) (addr : Quad) (s : State) : Host.Outcome State Fault Refusal :=
  .next (outOfBypass (cueClipArm tag addr) s)

/-- ROTATION AMEND (R134, R136). -/
def execRotationAmend (tag : Half) (op : AmendOperand) (s : State) : Host.Outcome State Fault Refusal :=
  .next (outOfBypass (cueRotationAmend tag op) s)

/-- EXPOSURE SNAPSHOT (R150, R151). -/
def execExposureSnapshot (tag : Half) (zero purge : Byte) (dest : Quad) (s : State) : Host.Outcome State Fault Refusal :=
  .next (outOfBypass (cueExposureSnapshot tag zero purge dest) s)

/-- FLIP (R32). -/
def execFlip (tag : Half) (zone : Byte) (s : State) : Host.Outcome State Fault Refusal :=
  .next (outOfBypass (cueFlip tag zone) s)

/-- CLIP TAKE (R107). -/
def execClipTake (tag : Half) (s : State) : Host.Outcome State Fault Refusal :=
  .next (outOfBypass (cueClipTake tag) s)

/-- CLIP PLAY (R109). -/
def execClipPlay (tag rate : Half) (guardFlag : Byte) (s : State) : Host.Outcome State Fault Refusal :=
  .next (outOfBypass (cueClipPlay tag rate guardFlag) s)

/-- CLIP HOLD (R110). -/
def execClipHold (tag : Half) (s : State) : Host.Outcome State Fault Refusal :=
  .next (outOfBypass (cueClipHold tag) s)

/-- CLIP RESUME (R110). -/
def execClipResume (tag : Half) (s : State) : Host.Outcome State Fault Refusal :=
  .next (outOfBypass (cueClipResume tag) s)

/-- CLIP RATE (R111). -/
def execClipRate (tag rate : Half) (s : State) : Host.Outcome State Fault Refusal :=
  .next (outOfBypass (cueClipRate tag rate) s)

/-- CLIP ANGLE (R111). -/
def execClipAngle (tag : Half) (angle : Byte) (s : State) : Host.Outcome State Fault Refusal :=
  .next (outOfBypass (cueClipAngle tag angle) s)

/-- CLIP DROP (R108). -/
def execClipDrop (tag : Half) (s : State) : Host.Outcome State Fault Refusal :=
  .next (outOfBypass (cueClipDrop tag) s)

/-- RIBBON ENABLE (R126). -/
def execRibbonEnable (tag : Half) (ribbon : Byte) (s : State) : Host.Outcome State Fault Refusal :=
  .next (outOfBypass (cueRibbonEnable tag ribbon) s)

/-- RIBBON DISABLE (R127). -/
def execRibbonDisable (tag : Half) (ribbon : Byte) (s : State) : Host.Outcome State Fault Refusal :=
  .next (outOfBypass (cueRibbonDisable tag ribbon) s)

/-- MESSAGE POST (R156). -/
def execMessagePost (tag : Half) (msg : MessageOperand) (s : State) : Host.Outcome State Fault Refusal :=
  .next (outOfBypass (cueMessagePost tag msg) s)

/-- MESSAGE WITHDRAW (R164). -/
def execMessageWithdraw (tag id : Half) (s : State) : Host.Outcome State Fault Refusal :=
  .next (outOfBypass (cueMessageWithdraw tag id) s)

/-- CELEBRATION SET (R97). -/
def execCelebrationSet (tag : Half) (enable : Byte) (msg : MessageOperand) (s : State) : Host.Outcome State Fault Refusal :=
  .next (outOfBypass (cueCelebrationSet tag enable msg) s)

/-- ALERT STANDING SET (R171). -/
def execAlertStandingSet (tag : Half) (present : Byte) (addr : Quad) (colour : Pixel) (s : State) : Host.Outcome State Fault Refusal :=
  .next (outOfBypass (cueAlertStandingSet tag present addr colour) s)

/-- ALERT RAISE (R170). -/
def execAlertRaise (tag : Half) (addr : Quad) (s : State) : Host.Outcome State Fault Refusal :=
  .next (outOfBypass (cueAlertRaise tag addr) s)

/-- ALERT CLEAR (R173). -/
def execAlertClear (tag : Half) (s : State) : Host.Outcome State Fault Refusal :=
  .next (outOfBypass (cueAlertClear tag) s)

/-- BRIGHTNESS SET (R176). -/
def execBrightnessSet (tag : Half) (requested thermal : Byte) (s : State) : Host.Outcome State Fault Refusal :=
  .next (outOfBypass (cueBrightnessSet tag requested thermal) s)

/-- CLOCK SET (R81). -/
def execClockSet (tag : Half) (op : ClockSetOperand) (s : State) : Host.Outcome State Fault Refusal :=
  .next (outOfBypass (cueClockSet tag op) s)

/-- CLOCK RUN (R82). -/
def execClockRun (tag : Half) (clock : Byte) (s : State) : Host.Outcome State Fault Refusal :=
  .next (outOfBypass (cueClockRun tag clock) s)

/-- CLOCK STOP (R83). -/
def execClockStop (tag : Half) (clock : Byte) (s : State) : Host.Outcome State Fault Refusal :=
  .next (outOfBypass (cueClockStop tag clock) s)

/-- SCORE SET (R96). -/
def execScoreSet (tag : Half) (op : ScorePayload) (s : State) : Host.Outcome State Fault Refusal :=
  .next (outOfBypass (cueScoreSet tag op) s)

/-- STATUS CLEAR (R59). -/
def execStatusClear (tag : Half) (mask : Word) (s : State) : Host.Outcome State Fault Refusal :=
  .next (outOfBypass (cueStatusClear tag mask) s)

/-- ATTENTION MASK (R60). -/
def execAttentionMask (tag : Half) (mask : Word) (s : State) : Host.Outcome State Fault Refusal :=
  .next (outOfBypass (cueAttentionMask tag mask) s)

/-- CANCEL with operand LONG (R54). -/
def execCancelLong (tag : Half) (s : State) : Host.Outcome State Fault Refusal :=
  .next (outOfBypass (cueCancelLong tag) s)

/-- CANCEL with any other operand (R54). -/
def execCancelStaged (tag : Half) (target : Byte) (s : State) : Host.Outcome State Fault Refusal :=
  .next (outOfBypass (cueCancelStaged tag target) s)

/-- RESTART (R55). -/
def execRestart (tag : Half) (s : State) : Host.Outcome State Fault Refusal :=
  .next (outOfBypass (cueRestart tag) s)

end Sys2Proof.Machine
end

