-- ==== Sys2Proof/WellFormed.lean ====
section
/-! DEFINITION. Which commands are well formed: the checks on operands that the row itself implies. -/

namespace Sys2Proof

/-- Every piece of boundary work exactly once, in any order. -/
def boundaryOrderOk (order : List BoundaryTask) : Bool :=
  order.length == 5 && [BoundaryTask.layout, .alert, .replay, .rotation, .message].all (order.contains ·)

/-- R64: a BEACON whose running or direction byte is above 1 is dropped, and so is no taken frame. -/
def beaconOk (p : BeaconPayload) : Bool :=
  p.gameRunning ≤ 1 && p.direction ≤ 1 && p.secondaryRunning ≤ 1

/-- A command as its row can be given. -/
def Instr.wellFormed : Instr → Bool
  | .sweepBoundary order _ => boundaryOrderOk order
  | .beacon p => beaconOk p
  | .idleTimerExpiry zone => zone < Config.zoneIds
  | .cancelStaged _ target => target != 0
  | _ => true

end Sys2Proof
end

