-- ==== Sys2Proof/Machine/Boundary.lean ====
section
/-! DEFINITION. A sweep boundary (R1, R11, R33, R56): every unit's work and the frame it starts. -/

namespace Sys2Proof.Machine

/-- One unit's work for a boundary. -/
def runTask (t : BoundaryTask) (s : State) : State :=
  match t with
  | .layout => applyLayout s
  | .alert => alertWork s
  | .replay => replayWork s
  | .rotation => rotationWork s
  | .message => messageWork s

/-- An order in which each piece of work stands once; the model's own order stands for an ill-formed operand (log 6). -/
def taskOrder (order : List BoundaryTask) : List BoundaryTask :=
  if boundaryOrderOk order then order else [.layout, .alert, .replay, .rotation, .message]

/-- R1: the sweep number increases by 1, wrapping. -/
def nextNumber (s : State) : State := { s with sweep.number := s.sweep.number + 1 }

/-- R1: the rate of the interval that the boundary begins. -/
def setRate (s : State) : State :=
  { s with sweep.rate :=
      match s.sweep.header with
      | some h => h.rate
      | none => 60 }

/-- Every unit's work for the boundary, in the order given; then the flip exchange (R33) and the start of a record that
the work put on air (R159). -/
def boundaryWork (order : List BoundaryTask) (s : State) : State :=
  startOnAir (exchangeFlips ((taskOrder order).foldl (fun s t => runTask t s) (nextNumber s)))

/-- R56: the capture, or the mark of one held back (log 7). -/
def boundaryCapture (hold : Bool) (s : State) : State :=
  if hold then { s with status.captureDue := true } else capture s

/-- SWEEP_BOUNDARY. Deadlines still to come of the frame that ends come first (R1, log 10). -/
def sweepBoundary (order : List BoundaryTask) (hold : Bool) (s : State) : State :=
  boundaryCapture hold (startFrame (setRate (boundaryWork order (closeFrame (captureIfDue s)))))

end Sys2Proof.Machine
end

