-- ==== Sys2Proof/Machine/SweepCommands.lean ====
section
/-! DEFINITION. The meanings of the line arrivals and of the sweep's events. -/

namespace Sys2Proof.Machine

/-- SWEEP_LINE_ARRIVAL (R16, R17). -/
def execSweepLineArrival (s : State) : Host.Outcome State Fault Refusal :=
  .next (sweepArrival s)

/-- LAYOUT_LINE_ARRIVAL (R2 to R6). -/
def execLayoutLineArrival (s : State) : Host.Outcome State Fault Refusal :=
  .next (layoutArrival s)

/-- GLYPH_LINE_ARRIVAL (R86 to R89). -/
def execGlyphLineArrival (s : State) : Host.Outcome State Fault Refusal :=
  .next (glyphArrival s)

/-- CLIP_DESCRIPTOR_LINE_ARRIVAL (R101 to R106). -/
def execClipDescriptorLineArrival (s : State) : Host.Outcome State Fault Refusal :=
  .next (clipArrival s)

/-- SLOT_RECORD_LINE_ARRIVAL (R135). -/
def execSlotRecordLineArrival (s : State) : Host.Outcome State Fault Refusal :=
  .next (slotRecordArrival s)

/-- SWEEP_BOUNDARY (R1, R11). -/
def execSweepBoundary (order : List BoundaryTask) (holdCapture : Bool) (s : State) : Host.Outcome State Fault Refusal :=
  .next (outOfBypass (sweepBoundary order holdCapture) s)

/-- SLOT_DEADLINE (R17). -/
def execSlotDeadline (s : State) : Host.Outcome State Fault Refusal :=
  .next (outOfBypass slotDeadline s)

/-- LINK_READY_FALLS (R22). In bypass only the level is kept. -/
def execLinkReadyFalls (s : State) : Host.Outcome State Fault Refusal :=
  .next (if s.bypass then { s with pins.linkReady := false } else linkFalls s)

/-- LINK_READY_RISES (R22). -/
def execLinkReadyRises (s : State) : Host.Outcome State Fault Refusal :=
  .next (linkRises s)

end Sys2Proof.Machine
end

