-- ==== Sys2Proof/Machine/Timebase.lean ====
section
/-! DEFINITION. A timebase event (04 section 4.4): the clocks and every millisecond timer of the part. -/

namespace Sys2Proof.Machine

/-- Every timer that counts timebase events, each at its last event expiring in the same step (log 9). The units'
work at one timebase event is independent but for the flags and the order here. -/
def timebaseUnits (s : State) : State :=
  stepHeat (stepDebounce (stepGather (stepChase (stepIdle (stepWatchdog (stepGap (stepClocks s)))))))

/-- CLOCK_TIMEBASE_STEP: out of bypass the units count; between the deassertion of RESET and the end of initialisation
only the count of R29 does. -/
def timebaseStep (s : State) : State := if s.bypass then stepInit s else timebaseUnits s

end Sys2Proof.Machine
end

