-- ==== Sys2Proof/Machine/TimerCommands.lean ====
section
/-! DEFINITION. The meanings of the timebase, timing line, venue alert line and heat line events. -/

namespace Sys2Proof.Machine

/-- CLOCK_TIMEBASE_STEP (R74 and every timer that counts timebase events). -/
def execClockTimebaseStep (s : State) : Host.Outcome State Fault Refusal :=
  .next (timebaseStep s)

/-- CLOCK_EXPIRY (R75). -/
def execClockExpiry (clock : ClockId) (s : State) : Host.Outcome State Fault Refusal :=
  .next (outOfBypass (expireClock clock) s)

/-- GAP_TIMER_EXPIRY (R63). -/
def execGapTimerExpiry (s : State) : Host.Outcome State Fault Refusal :=
  .next (outOfBypass expireGap s)

/-- BEACON_WATCHDOG_EXPIRY (R67). -/
def execBeaconWatchdogExpiry (s : State) : Host.Outcome State Fault Refusal :=
  .next (outOfBypass expireWatchdog s)

/-- BEACON (R64 to R66). -/
def execBeacon (p : BeaconPayload) (s : State) : Host.Outcome State Fault Refusal :=
  .next (outOfBypass (takeBeacon p) s)

/-- SCORE_FRAME (R95). -/
def execScoreFrame (p : ScorePayload) (s : State) : Host.Outcome State Fault Refusal :=
  .next (outOfBypass (writeScores p) s)

/-- IDLE_TIMER_EXPIRY (R39). -/
def execIdleTimerExpiry (zone : Nat) (s : State) : Host.Outcome State Fault Refusal :=
  .next (outOfBypass (expireIdle zone) s)

/-- CHASE_TIMEOUT (R118). -/
def execChaseTimeout (s : State) : Host.Outcome State Fault Refusal :=
  .next (outOfBypass expireChase s)

/-- GATHER_TIMER_EXPIRY (R137). -/
def execGatherTimerExpiry (s : State) : Host.Outcome State Fault Refusal :=
  .next (outOfBypass expireGather s)

/-- VENUE_ALERT_LINE_ASSERTED (R169). In bypass only the level is kept. -/
def execVenueAlertLineAsserted (s : State) : Host.Outcome State Fault Refusal :=
  .next (if s.bypass then { s with pins.venue := true } else venueAsserts s)

/-- VENUE_ALERT_LINE_DEASSERTED (R169). In bypass only the level is kept. -/
def execVenueAlertLineDeasserted (s : State) : Host.Outcome State Fault Refusal :=
  .next (if s.bypass then { s with pins.venue := false } else venueDeasserts s)

/-- DEBOUNCE_EXPIRY (R169). -/
def execDebounceExpiry (s : State) : Host.Outcome State Fault Refusal :=
  .next (outOfBypass expireDebounce s)

/-- HEAT_LINE_ASSERTED (R177). In bypass only the level is kept. -/
def execHeatLineAsserted (s : State) : Host.Outcome State Fault Refusal :=
  .next (if s.bypass then { s with pins.heat := true } else heatLine true s)

/-- HEAT_LINE_DEASSERTED (R177). In bypass only the level is kept. -/
def execHeatLineDeasserted (s : State) : Host.Outcome State Fault Refusal :=
  .next (if s.bypass then { s with pins.heat := false } else heatLine false s)

/-- WARM_TIMER_EXPIRY (R177). -/
def execWarmTimerExpiry (s : State) : Host.Outcome State Fault Refusal :=
  .next (outOfBypass expireWarm s)

/-- COOL_TIMER_EXPIRY (R177). -/
def execCoolTimerExpiry (s : State) : Host.Outcome State Fault Refusal :=
  .next (outOfBypass expireCool s)

/-- TIMING_LINE_BYTE (R63). -/
def execTimingLineByte (byte : Byte) (framingError : Bool) (s : State) : Host.Outcome State Fault Refusal :=
  .next (outOfBypass (takeByte byte framingError) s)

end Sys2Proof.Machine
end

