-- ==== Sys2Proof/Machine/Dispatch.lean ====
section
/-! DEFINITION. One arm per command: each command's meaning. -/

namespace Sys2Proof.Machine

def exec (i : Instr) (s : State) : Host.Outcome State Fault Refusal :=
  match i with
  | .coldReset => Sys2Proof.Machine.execColdReset s
  | .resetDeassert => Sys2Proof.Machine.execResetDeassert s
  | .initialisationComplete straps => Sys2Proof.Machine.execInitialisationComplete straps s
  | .transactionAccepted t => Sys2Proof.Machine.execTransactionAccepted t s
  | .mportGrant => Sys2Proof.Machine.execMportGrant s
  | .progressLineRead => Sys2Proof.Machine.execProgressLineRead s
  | .sweepLineArrival => Sys2Proof.Machine.execSweepLineArrival s
  | .layoutLineArrival => Sys2Proof.Machine.execLayoutLineArrival s
  | .glyphLineArrival => Sys2Proof.Machine.execGlyphLineArrival s
  | .clipDescriptorLineArrival => Sys2Proof.Machine.execClipDescriptorLineArrival s
  | .slotRecordLineArrival => Sys2Proof.Machine.execSlotRecordLineArrival s
  | .sweepBoundary order holdCapture => Sys2Proof.Machine.execSweepBoundary order holdCapture s
  | .slotDeadline => Sys2Proof.Machine.execSlotDeadline s
  | .linkReadyFalls => Sys2Proof.Machine.execLinkReadyFalls s
  | .linkReadyRises => Sys2Proof.Machine.execLinkReadyRises s
  | .clockTimebaseStep => Sys2Proof.Machine.execClockTimebaseStep s
  | .clockExpiry clock => Sys2Proof.Machine.execClockExpiry clock s
  | .gapTimerExpiry => Sys2Proof.Machine.execGapTimerExpiry s
  | .beaconWatchdogExpiry => Sys2Proof.Machine.execBeaconWatchdogExpiry s
  | .beacon payload => Sys2Proof.Machine.execBeacon payload s
  | .scoreFrame payload => Sys2Proof.Machine.execScoreFrame payload s
  | .idleTimerExpiry zone => Sys2Proof.Machine.execIdleTimerExpiry zone s
  | .chaseTimeout => Sys2Proof.Machine.execChaseTimeout s
  | .gatherTimerExpiry => Sys2Proof.Machine.execGatherTimerExpiry s
  | .venueAlertLineAsserted => Sys2Proof.Machine.execVenueAlertLineAsserted s
  | .venueAlertLineDeasserted => Sys2Proof.Machine.execVenueAlertLineDeasserted s
  | .debounceExpiry => Sys2Proof.Machine.execDebounceExpiry s
  | .heatLineAsserted => Sys2Proof.Machine.execHeatLineAsserted s
  | .heatLineDeasserted => Sys2Proof.Machine.execHeatLineDeasserted s
  | .warmTimerExpiry => Sys2Proof.Machine.execWarmTimerExpiry s
  | .coolTimerExpiry => Sys2Proof.Machine.execCoolTimerExpiry s
  | .layoutLoad tag addr => Sys2Proof.Machine.execLayoutLoad tag addr s
  | .glyphLoad tag addr => Sys2Proof.Machine.execGlyphLoad tag addr s
  | .clipArm tag addr => Sys2Proof.Machine.execClipArm tag addr s
  | .rotationAmend tag op => Sys2Proof.Machine.execRotationAmend tag op s
  | .exposureSnapshot tag zero purge dest => Sys2Proof.Machine.execExposureSnapshot tag zero purge dest s
  | .flip tag zone => Sys2Proof.Machine.execFlip tag zone s
  | .clipTake tag => Sys2Proof.Machine.execClipTake tag s
  | .clipPlay tag rate guardFlag => Sys2Proof.Machine.execClipPlay tag rate guardFlag s
  | .clipHold tag => Sys2Proof.Machine.execClipHold tag s
  | .clipResume tag => Sys2Proof.Machine.execClipResume tag s
  | .clipRate tag rate => Sys2Proof.Machine.execClipRate tag rate s
  | .clipAngle tag angle => Sys2Proof.Machine.execClipAngle tag angle s
  | .clipDrop tag => Sys2Proof.Machine.execClipDrop tag s
  | .ribbonEnable tag ribbon => Sys2Proof.Machine.execRibbonEnable tag ribbon s
  | .ribbonDisable tag ribbon => Sys2Proof.Machine.execRibbonDisable tag ribbon s
  | .messagePost tag msg => Sys2Proof.Machine.execMessagePost tag msg s
  | .messageWithdraw tag id => Sys2Proof.Machine.execMessageWithdraw tag id s
  | .celebrationSet tag enable msg => Sys2Proof.Machine.execCelebrationSet tag enable msg s
  | .alertStandingSet tag present addr colour => Sys2Proof.Machine.execAlertStandingSet tag present addr colour s
  | .alertRaise tag addr => Sys2Proof.Machine.execAlertRaise tag addr s
  | .alertClear tag => Sys2Proof.Machine.execAlertClear tag s
  | .brightnessSet tag requested thermal => Sys2Proof.Machine.execBrightnessSet tag requested thermal s
  | .clockSet tag op => Sys2Proof.Machine.execClockSet tag op s
  | .clockRun tag clock => Sys2Proof.Machine.execClockRun tag clock s
  | .clockStop tag clock => Sys2Proof.Machine.execClockStop tag clock s
  | .scoreSet tag op => Sys2Proof.Machine.execScoreSet tag op s
  | .statusClear tag mask => Sys2Proof.Machine.execStatusClear tag mask s
  | .attentionMask tag mask => Sys2Proof.Machine.execAttentionMask tag mask s
  | .cancelLong tag => Sys2Proof.Machine.execCancelLong tag s
  | .cancelStaged tag target => Sys2Proof.Machine.execCancelStaged tag target s
  | .restart tag => Sys2Proof.Machine.execRestart tag s
  | .timingLineByte byte framingError => Sys2Proof.Machine.execTimingLineByte byte framingError s

end Sys2Proof.Machine
end

