-- ==== Sys2Proof/Safety.lean ====
section
/-! DEFINITION. What claims are stated in terms of: runs of commands, invariants, and the hypotheses that recur. -/

namespace Sys2Proof.Safety

open Sys2Proof.Machine

/-- Commands one after another, stopping at the first fault or refusal. -/
def runCommands : List Instr → State → Host.Outcome State Fault Refusal
  | [], s => .next s
  | i :: rest, s =>
    match exec i s with
    | .next t => runCommands rest t
    | .fault r => .fault r
    | .refused r => .refused r

/-- The bytes of a BEACON payload as the timing line carries them (04 section 4.1), each number least significant byte
first. -/
def beaconBytes (p : BeaconPayload) : List Byte :=
  [p.gameValue.extractLsb' 0 8, p.gameValue.extractLsb' 8 8, p.gameValue.extractLsb' 16 8, p.gameValue.extractLsb' 24 8,
    p.gameRunning, p.direction,
    p.secondaryValue.extractLsb' 0 8, p.secondaryValue.extractLsb' 8 8, p.secondaryValue.extractLsb' 16 8,
    p.secondaryValue.extractLsb' 24 8, p.secondaryRunning, p.period]

/-- The low 8 bits of a sum of bytes. -/
def byteSum (l : List Byte) : Byte := l.foldl (· + ·) 0

/-- A property that every step keeps, from every state that has it. -/
def KeptByStep (inv : State → Prop) : Prop := ∀ s t, inv s → step s = .next t → inv t

/-- The M-port is free, out of bypass, no capture is held back, and the turn pointer stands at a position. -/
def PortReady (p : Fin 4) (s : State) : Prop :=
  s.port = none ∧ s.bypass = false ∧ s.status.captureDue = false ∧ s.turn = p

/-- The head of the forwarding queue is a write. -/
def HeadWrite (line : LineNo) (data : Line) (mask : Mask) (rest : List Transaction) (s : State) : Prop :=
  s.path.queue = .write line data mask :: rest ∧ s.path.headAnswered = false

/-- R28, R45, R51: the entry at the head of the forwarding queue is a read of the progress line, line 1 of the aperture,
out of bypass, while the long lane is occupied. -/
def HeadIsProgressRead (s : State) : Prop :=
  s.bypass = false ∧ s.decoder.lane ≠ none
    ∧ ∃ line rest, s.path.queue = .read line :: rest
      ∧ 64 * line.toNat = s.segment.toNat * 0x40000000 + 0x3FFFF000 + 64

/-- Some enabled byte of a write to the line at `a` lies in a watch list entry. -/
def Touches (a : Nat) (mask : Mask) (e : WatchEntry) : Prop :=
  ∃ i, i < 64 ∧ mask.getLsbD i = true ∧ e.start ≤ a + i ∧ a + i < e.start + e.len

/-- R69: the clock's fields are in range, and a stopped clock holds no slew. -/
def ClockInRange (ceiling : Nat) (c : Clock) : Prop :=
  c.value ≤ ceiling ∧ -249 ≤ c.slew ∧ c.slew ≤ 249 ∧ c.slewPhase ≤ 9
    ∧ (c.running = false → c.slew = 0 ∧ c.slewPhase = 0)

/-- R18, R65, R69: clocks, period, scores and underrun counts are in range. -/
def ValuesInRange (s : State) : Prop :=
  ClockInRange 5999000 s.clock.game ∧ ClockInRange 999000 s.clock.secondary
    ∧ 1 ≤ s.clock.period ∧ s.clock.period ≤ 15
    ∧ s.figures.home ≤ 999 ∧ s.figures.guest ≤ 999 ∧ s.figures.homeAux ≤ 99 ∧ s.figures.guestAux ≤ 99
    ∧ ∀ z ∈ s.sweep.zones, z.underruns ≤ 65535

/-- R145, R148: every entry balances, and one that is not frozen has room for one more unit. -/
def ExposureBalances (s : State) : Prop :=
  ∀ e ∈ s.exposure.entries,
    e.credited + e.unshown + e.occluded + e.dimmed = e.scheduled ∧ e.scheduled ≤ 4294967295
      ∧ (e.frozen = false → e.scheduled < 4294967295) ∧ e.moment ≤ 4294967295

/-- R143: at most 64 entries, in ascending order of sponsor ID. -/
def ExposureOrdered (s : State) : Prop :=
  s.exposure.entries.length ≤ 64 ∧ s.exposure.entries.Pairwise (fun a b => a.sponsor < b.sponsor)

/-- R144: a committed, staged or pending ribbon list, or a queued or on-air message, names a sponsor ID. -/
def NamesSponsor (s : State) (id : Nat) : Prop :=
  (∃ l, (s.rotation.a.committed = some l ∨ s.rotation.a.staged.map (·.list) = some l
      ∨ s.rotation.b.committed = some l ∨ s.rotation.b.staged.map (·.list) = some l
      ∨ s.rotation.gather.map (·.list) = some l)
    ∧ ∃ x ∈ l.slots, ∃ duty raster, x.content = .sponsor id duty raster)
  ∨ (∃ m ∈ s.messages.queue, m.sponsor = id) ∨ ∃ o, s.messages.onAir = some o ∧ o.msg.sponsor = id

/-- R144: every sponsor ID so named has an exposure entry; a message's sponsor 0 is none. -/
def SponsorsEntered (s : State) : Prop :=
  ∀ id, id ≠ 0 → NamesSponsor s id → ∃ e ∈ s.exposure.entries, e.sponsor = id

/-- R178: the effective duty is the one that the table gives. -/
def DutyAsTable (s : State) : Prop :=
  s.brightness.effective =
    match s.brightness.state with
    | .hold => min s.brightness.requested s.brightness.thermal
    | .cooling => min s.brightness.requested s.brightness.thermal
    | _ => if s.alert.state = .onAir then 8 else s.brightness.requested

/-- R61: a latch is set only for a flag that stands and whose mask bit is set. -/
def LatchesCovered (s : State) : Prop :=
  s.decoder.latches &&& ~~~(s.status.flags &&& s.decoder.mask) = 0

/-- R26: the forwarding queue holds up to 32 transactions, and acceptance is withheld only while it holds 32. -/
def ForwardingBounded (s : State) : Prop :=
  s.path.queue.length ≤ 32 ∧ (s.path.offered ≠ [] → s.path.queue.length = 32)

/-- R157, R163: at most 16 records, in classes of falling priority, each ID once; and no record of priority 3 waits
while one of lower priority is on air; the celebration's priority is one of R155's. -/
def MessagesOrdered (s : State) : Prop :=
  s.messages.queue.length ≤ 16
    ∧ s.messages.queue.Pairwise (fun a b => b.priority ≤ a.priority ∧ a.id ≠ b.id)
    ∧ (∀ o, s.messages.onAir = some o →
        ∀ m ∈ s.messages.queue, m.id ≠ o.msg.id ∧ (o.msg.priority < 3 → m.priority < 3))
    ∧ ∀ m, s.figures.celebration = some m → m.priority ≤ 3

/-- R126: what the state of a ribbon says of its lists and its entry. -/
def RibbonConsistent (r : Ribbon) : Prop :=
  match r.state with
  | .off => r.staged = none ∧ r.entry = .none
  | .starting => r.entry = .none ∧ r.committed.isSome
  | .on => r.committed.isSome
  | .stopping => r.committed.isSome

/-- R126, R128. -/
def RibbonsConsistent (s : State) : Prop := RibbonConsistent s.rotation.a ∧ RibbonConsistent s.rotation.b

/-- R9: each enabled zone that `p` picks has its content epoch increased by 1, and no zone changes otherwise. -/
def Bumps (p : ZoneRec → Prop) (before after : List Zone) : Prop :=
  after.length = before.length
    ∧ ∀ (n : Nat) (z u : Zone), before[n]? = some z → after[n]? = some u →
        (z.cfg.enabled = true ∧ p z.cfg → u = { z with epoch := z.epoch + 1 })
        ∧ (¬ (z.cfg.enabled = true ∧ p z.cfg) → u = z)

/-- `t` is `u` but for bumps of the zones that `p` picks and for the watch list. -/
def Reported (p : ZoneRec → Prop) (u t : State) : Prop :=
  Bumps p u.sweep.zones t.sweep.zones
    ∧ t = { u with
        sweep := { u.sweep with zones := t.sweep.zones }
        path := { u.path with watch := t.path.watch } }

/-- R91, R93: `t` is `u` with the seven glyph strings recomputed from the values and the clock strings held, and one bump
for each FIGURE zone whose figure's string differs. -/
def Restrung (u t : State) : Prop :=
  t.figures.strings = renderStrings u.figures u.clock.gameString u.clock.secondaryString
    ∧ Bumps (fun z => ∃ f, z.role = .figure f ∧ figureString u.figures.strings f ≠ figureString t.figures.strings f)
        u.sweep.zones t.sweep.zones
    ∧ t = { u with
        figures := { u.figures with strings := t.figures.strings }
        sweep := { u.sweep with zones := t.sweep.zones }
        path := { u.path with watch := t.path.watch } }

/-- R80: `t` is `u` with the display strings recomputed from the clocks, and handed on with the period. -/
def Redisplayed (u t : State) : Prop :=
  Restrung
    { u with
      clock := { u.clock with
        gameString := gameText u.clock.tenths u.clock.game
        secondaryString := secondaryText u.clock.tenths u.clock.secondary }
      figures := { u.figures with period := u.clock.period } } t

/-- R155. -/
def MessageFieldsOk (m : MessageOperand) : Prop :=
  1 ≤ m.id.toNat ∧ m.priority.toNat ≤ 3 ∧ m.sponsor.toNat ≤ 250
    ∧ ((m.mode = 0 ∧ 25 ≤ m.duration.toNat ∧ m.duration.toNat ≤ 6000)
        ∨ (m.mode = 1 ∧ 1 ≤ m.speed.toNat ∧ m.speed.toNat ≤ 16 ∧ m.duration = 0))
    ∧ 16 ≤ m.width.toNat ∧ m.width.toNat ≤ 16384 ∧ m.width.toNat % 16 = 0
    ∧ 16 ≤ m.height.toNat ∧ m.height.toNat ≤ 4096 ∧ m.height.toNat % 16 = 0
    ∧ 1 ≤ m.repeats.toNat ∧ m.repeats.toNat ≤ 4
    ∧ m.addr.toNat % 64 = 0 ∧ m.addr.toNat + m.width.toNat * m.height.toNat * 4 ≤ 0x400000000

/-- R144: an entry request that is not refused, from the entries before to the entries after. -/
def EntryRequested (sponsor : Nat) (before after : List ExposureEntry) : Prop :=
  ((∃ e ∈ before, e.sponsor = sponsor) → after = before)
    ∧ ((∀ e ∈ before, e.sponsor ≠ sponsor) → before.length < 64 ∧ ∃ x y, before = x ++ y
        ∧ (∀ e ∈ x, e.sponsor < sponsor) ∧ (∀ e ∈ y, sponsor < e.sponsor)
        ∧ after = x ++
            { sponsor := sponsor, scheduled := 0, credited := 0, unshown := 0, occluded := 0, dimmed := 0, moment := 0,
              frozen := false } :: y)

/-- R165, R172, R119, R178: `t` is `u` after the alert's entry to ON_AIR: the flag, the clip held, the on-air message back
in its queue, with one bump of the MESSAGE zone, and the duty recomputed. -/
def AlertEntered (u t : State) : Prop :=
  t.alert = { u.alert with state := .onAir }
    ∧ flagUp .alertOnAir t = true
    ∧ t.replay = { u.replay with current := u.replay.current.map (fun c =>
        if c.state = .playing ∨ c.state = .guarded then { c with state := .held, chase := none, heldByAlert := true }
        else c) }
    ∧ t.messages.onAir = none
    ∧ (u.messages.onAir = none → t.messages = u.messages)
    ∧ (∀ o, u.messages.onAir = some o → u.messages.queue.length < 16 → ∃ x y, u.messages.queue = x ++ y
        ∧ (∀ m ∈ x, o.msg.priority < m.priority) ∧ (∀ m ∈ y.head?, m.priority ≤ o.msg.priority)
        ∧ t.messages = { u.messages with onAir := none, queue := x ++ o.msg :: y })
    ∧ t.brightness = { u.brightness with
        effective :=
          if u.brightness.state = .hold ∨ u.brightness.state = .cooling then
            min u.brightness.requested u.brightness.thermal
          else 8 }
    ∧ Bumps (fun z => z.role = .message ∧ u.messages.onAir ≠ none) u.sweep.zones t.sweep.zones
    ∧ t = { u with
        alert := t.alert, replay := t.replay, messages := t.messages, brightness := t.brightness
        status := { u.status with flags := t.status.flags }
        decoder := { u.decoder with latches := t.decoder.latches }
        sweep := { u.sweep with zones := t.sweep.zones }
        path := { u.path with watch := t.path.watch } }

/-- A lane as a settlement leaves it (R52). -/
def settled (l : Lane) (r : Result) (detail : Nat) : Option Lane :=
  some { l with phase := .writing, final := some { result := r, detail := detail } }

/-- R35: the entries of one enabled zone, row by row of the table; `paired` says that its two buffers are merged (R36). -/
def zoneEntries (s : State) (paired : Bool) (z : ZoneRec) : List WatchEntry :=
  let entry (kind : WatchKind) (start len : Nat) : WatchEntry :=
    { start := start, len := len, zone := some z.id, kind := kind }
  let size := z.w * z.h * 4
  match z.role with
  | .replay =>
    match s.replay.current with
    | some c => [entry .clipFrame (c.bases.getD c.angle 0 + c.index * c.stride) size]
    | none => []
  | .sponsor r =>
    let b := match r with | .a => s.rotation.a | .b => s.rotation.b
    match b.committed with
    | some l =>
      if b.state = .on ∨ b.state = .stopping then
        match b.entry with
        | .slot n =>
          match l.slots[n]? with
          | some { content := .sponsor _ _ raster, .. } => [entry .creative raster size]
          | _ => [entry .creative l.house size]
        | .house => [entry .creative l.house size]
        | .none => []
      else []
    | none => []
  | .figure f =>
    match s.figures.glyphs with
    | some g =>
      let addrs := (figureString s.figures.strings f).map (fun y => g.addrs.getD
        (match y with
          | .digit d => d.val | .colon => 10 | .dot => 11 | .blank => 12 | .letterO => 13 | .letterT => 14
          | .dash => 15) 0)
      match addrs.min?, addrs.max? with
      | some lo, some hi => [entry .glyph lo (hi + g.cellWidth * g.cellHeight * 4 - lo)]
      | _, _ => []
    | none => []
  | .message =>
    match s.messages.onAir with
    | some o => [entry .messageRaster o.msg.addr (o.msg.width * z.h * 4)]
    | none => []
  | .house a b _ =>
    if paired then [entry .housePair (min a b) (max a b + size - min a b)]
    else [entry .houseBuffer a size, entry .houseBuffer b size]

/-- R35, R36: the watch list, entry by entry: those of the enabled zones by zone ID, and the alert raster's last. The
pairs merged are those of the highest zone IDs, as many as bring the list to 40 entries: a zone's pair is merged exactly
if the list with only the pairs above it merged is longer than that. -/
def watchEntries (s : State) : List WatchEntry :=
  let zones := (List.range 24).filterMap (fun id =>
    (s.sweep.zones.map (·.cfg)).find? (fun z => z.id == id && z.enabled))
  let raster : List WatchEntry :=
    match s.alert.chosen, s.sweep.header with
    | some a, some h =>
      if s.alert.state = .onAir then
        [{ start := a, len := h.width * h.height * 4, zone := none, kind := .alertRaster }]
      else []
    | _, _ => []
  let full := (zones.flatMap (zoneEntries s false) ++ raster).length
  let pairsAbove (z : ZoneRec) : Nat :=
    (zones.filter (fun y => (match y.role with | .house _ _ _ => true | _ => false) && z.id < y.id)).length
  zones.flatMap (fun z => zoneEntries s (40 + pairsAbove z < full) z) ++ raster

/-- R35, R36. -/
def WatchListed (s : State) : Prop := s.path.watch = watchEntries s ∧ s.path.watch.length ≤ 40

/-- R35 to R37: the watch list is the one that the sources give, as the model derives it and entry by entry as the rules
spell it, and the ribbons are as their states say. -/
def WatchDerived (s : State) : Prop := s.path.watch = deriveWatch s ∧ WatchListed s ∧ RibbonsConsistent s

end Sys2Proof.Safety
end

