-- ==== Sys2Proof/Certificates/Slice0/Obligations.lean ====
section
/-! DEFINITION. The statements for the provers, each under `Obligations`. -/

open Sys2Proof Sys2Proof.Machine Sys2Proof.Safety

/-! ### Steps and resets -/

/-- The model's own interface (log 11): a step takes the front command and runs it with the rest of the queue; on an
empty queue the part idles. -/
def Obligations.StepRunsFrontCommand : Prop :=
  (∀ s c rest, s.pending = c :: rest → step s = exec c { s with pending := rest })
    ∧ ∀ s, s.pending = [] → step s = .next s

/-- Every command answers a next state in every state, and no command touches the queue of commands. -/
def Obligations.CommandsAnswerAndKeepQueue : Prop :=
  ∀ i s, ∃ t, exec i s = .next t ∧ t.pending = s.pending

/-- The values that the spec gives for cold reset, in the state after reset. COLD_RESET gives every unit its cold
values and puts the path in bypass. The forwarding queue, memory, the levels of the other pins and what the receivers
hold are kept; a line in flight will be dropped (logs 3, 4, 13 and 29 for the choices in this). -/
def Obligations.ResetTakesColdValues : Prop :=
  (let s := State.reset
  s.sweep.header = none ∧ s.sweep.zones = [] ∧ s.sweep.load = none ∧ s.sweep.frame = .none ∧ s.sweep.number = 0
    ∧ s.sweep.rate = 60
    ∧ s.path.watch = [] ∧ s.path.houses = [] ∧ s.turn = 0 ∧ s.bypass = true
    ∧ s.decoder.lane = none ∧ s.decoder.mask = 0 ∧ s.decoder.latches = 0 ∧ attention s = false
    ∧ s.decoder.last = { tag := 0, code := 0, result := .none, detail := 0 }
    ∧ s.status.flags = 0 ∧ s.status.image = none
    ∧ s.clock.receiver.state = .hunt ∧ s.clock.receiver.gap = none ∧ s.clock.console = .absent ∧ s.clock.watchdog = none
    ∧ s.clock.game = { value := 0, running := false, direction := .down, slew := 0, slewPhase := 0 }
    ∧ s.clock.secondary = { value := 0, running := false, direction := .down, slew := 0, slewPhase := 0 }
    ∧ s.clock.tenths = true ∧ s.clock.period = 1
    ∧ s.figures.strings.game = [.blank, .blank, .digit 0, .dot, .digit 0]
    ∧ s.figures.strings.secondary = [.digit 0, .dot, .digit 0]
    ∧ s.figures.home = 0 ∧ s.figures.guest = 0 ∧ s.figures.homeAux = 0 ∧ s.figures.guestAux = 0
    ∧ s.figures.period = 1 ∧ s.figures.glyphs = none ∧ s.figures.celebration = none
    ∧ s.replay.current = none ∧ s.replay.onDeck = none ∧ s.replay.take = false ∧ s.replay.arm = none
    ∧ s.rotation.a = { state := .off, committed := none, staged := none, entry := .none, dwell := 0, search := 0 }
    ∧ s.rotation.b = s.rotation.a ∧ s.rotation.gather = none
    ∧ s.exposure.entries = [] ∧ s.exposure.snapshot = none
    ∧ s.messages.queue = [] ∧ s.messages.onAir = none ∧ s.messages.lastGone = 0
    ∧ s.alert.state = .quiet ∧ s.alert.latch = false ∧ s.alert.debounce = none ∧ s.alert.raised = none
    ∧ s.alert.standing = none ∧ s.alert.colour = 0x00FF0000 ∧ s.alert.chosen = none
    ∧ s.brightness.requested = 8 ∧ s.brightness.thermal = 4 ∧ s.brightness.pendingThermal = none
    ∧ s.brightness.state = .normal ∧ s.brightness.warm = none ∧ s.brightness.cool = none ∧ s.brightness.effective = 8)
  ∧ (∀ s, exec .coldReset s = .next
    { State.reset with
      pins := { s.pins with reset := true }
      segment := s.segment
      mem := s.mem
      path := { s.path with watch := [], houses := [], headAnswered := false }
      port := s.port.map (fun f => { f with dropped := true })
      receivers := s.receivers
      pending := s.pending })

/-- R29, R45: RESET_DEASSERT begins the count of ten timebase events; INITIALISATION_COMPLETE has no effect before the
tenth, and at the tenth ends bypass, samples the straps and gives the units their cold values. That the tenth event is
the row INITIALISATION_COMPLETE itself is log 9's choice, and that the straps are its operand log 4's. -/
def Obligations.InitialisationTakesTenEvents : Prop :=
  ∀ s straps,
    (s.pins.reset = true →
      exec .resetDeassert s = .next { s with pins := { s.pins with reset := false }, initCount := some 10 })
    ∧ (s.pins.reset = true → s.bypass = true → ∀ n, n < 9 →
        runCommands (.resetDeassert :: (List.replicate n .clockTimebaseStep ++ [.initialisationComplete straps])) s
          = .next { s with pins := { s.pins with reset := false }, initCount := some (10 - n) })
    ∧ (s.pins.reset = true → s.bypass = true → ∃ t,
        runCommands (.resetDeassert :: (List.replicate 9 .clockTimebaseStep ++ [.initialisationComplete straps])) s
          = .next t
        ∧ t.bypass = false ∧ t.segment = straps ∧ t.initCount = none
        ∧ t.path = { s.path with watch := [], houses := [], headAnswered := false }
        ∧ t.mem = s.mem ∧ t.turn = s.turn ∧ t.port = s.port
        ∧ t.decoder = coldDecoder ∧ t.status = coldStatus ∧ t.sweep = coldSweep ∧ t.clock = coldClockUnit
        ∧ t.figures = coldFigures ∧ t.replay = coldReplay ∧ t.rotation = coldRotation ∧ t.exposure = coldExposure
        ∧ t.messages = coldMessages
        ∧ t.alert = { coldAlert with debounce := if s.pins.venue = true then some 100 else none }
        ∧ t.brightness = (if s.pins.heat = true then { coldBrightness with state := .warming, warm := some 2000 }
            else coldBrightness))
    ∧ ∀ n, s.bypass = true → s.initCount = some n → n ≤ 1 →
        ∃ t, exec (.initialisationComplete straps) s = .next t ∧ t.bypass = false ∧ t.segment = straps

/-- R25, R30, R44, R55, R85, R100, R124, R142, R154, R168, R175, R179: RESTART. A cue in flight is settled CANCELLED
first, and its final record stays to be written; every unit takes its warm values; the forwarding queue, memory, the
turn pointer, the sweep number, the exposure entries, the glyph set, the line receiver, the standing raster and the
alert colour are kept; and RESTART is settled DONE. -/
def Obligations.RestartTakesWarmValues : Prop :=
  ∀ (s : State) (tag : Half), s.bypass = false →
    let aux : List Glyph := if hasDash s.figures.glyphs = true then [.blank, .dash] else [.blank, .digit 0]
    let warm (lane : Option Lane) (snapshot : Option Snapshot) : State :=
      { s with
        path := { s.path with watch := [], houses := [] }
        port := s.port.map (fun f => { f with dropped := true })
        decoder :=
          { lane := lane, mask := 0, latches := 0, last := { tag := tag, code := 0x83, result := .done, detail := 0 } }
        status := { s.status with flags := 0 }
        sweep := { coldSweep with number := s.sweep.number, rate := s.sweep.rate }
        clock := { coldClockUnit with receiver := s.clock.receiver }
        figures := { coldFigures with
          glyphs := s.figures.glyphs, strings := { coldStrings with homeAux := aux, guestAux := aux } }
        replay := coldReplay
        rotation := coldRotation
        exposure := { s.exposure with snapshot := snapshot }
        messages := coldMessages
        alert := { coldAlert with
          standing := s.alert.standing, colour := s.alert.colour
          debounce := if s.pins.venue = true then some 100 else none }
        brightness :=
          if s.pins.heat = true then { coldBrightness with state := .hold, effective := 4 } else coldBrightness }
    ((∀ l, s.decoder.lane = some l → l.final ≠ none) →
      exec (.restart tag) s = .next (warm s.decoder.lane s.exposure.snapshot))
    ∧ (∀ l, s.decoder.lane = some l → l.final = none → s.exposure.snapshot = none →
      exec (.restart tag) s = .next (warm (settled l .cancelled 0) none))
    ∧ ∀ l p, s.decoder.lane = some l → l.final = none → s.exposure.snapshot = some p →
      exec (.restart tag) s = .next (warm (settled l .cancelled p.written)
        (some { p with lines := p.lines.filter (· == .header .inProgress) ++ [.header .cancelled] }))

/-! ### Flags and results -/

/-- R48, R58, R61: raising a flag sets it and no other flag; a latch is set exactly for a flag that was clear while
its mask bit is set; nothing else changes. A settlement replaces the last-short-result record, and raises CUE_REFUSED
exactly for a result that is neither DONE nor CANCELLED. R48, R50: the bit of each flag, the code of each result, of
each phase and of each long cue, as the tables give them. R61: the attention line is asserted exactly while some latch
is set. -/
def Obligations.RaisesAndSettlements : Prop :=
  (flagBit .clockSnap = 0 ∧ flagBit .consoleLost = 1 ∧ flagBit .clockExpired = 2 ∧ flagBit .clipEnded = 3
    ∧ flagBit .chaseTimeout = 4 ∧ flagBit .rotationCommitted = 5 ∧ flagBit .rotationRefused = 6
    ∧ flagBit .messageEvicted = 7 ∧ flagBit .messageDropped = 8 ∧ flagBit .alertOnAir = 9 ∧ flagBit .alertCleared = 10
    ∧ flagBit .thermalHold = 11 ∧ flagBit .thermalRelease = 12 ∧ flagBit .zoneUnderrun = 13 ∧ flagBit .houseStale = 14
    ∧ flagBit .linkDown = 15 ∧ flagBit .lateWrite = 16 ∧ flagBit .cueRefused = 17 ∧ flagBit .longCueDone = 18)
  ∧ (resultCode .none = 0 ∧ resultCode .done = 1 ∧ resultCode .busy = 2 ∧ resultCode .wrongState = 3
    ∧ resultCode .range = 4 ∧ resultCode .geometry = 5 ∧ resultCode .tableFull = 6 ∧ resultCode .queueFull = 7
    ∧ resultCode .onAir = 8 ∧ resultCode .consoleOwns = 9 ∧ resultCode .lineActive = 10
    ∧ resultCode .stagedPending = 11 ∧ resultCode .noZone = 12 ∧ resultCode .cancelled = 13
    ∧ resultCode .unknownCue = 14)
  ∧ (phaseCode .fetching = 1 ∧ phaseCode .waiting = 2 ∧ phaseCode .gathering = 3 ∧ phaseCode .writing = 4)
  ∧ (longCode .layoutLoad = 1 ∧ longCode .glyphLoad = 2 ∧ longCode .clipArm = 3 ∧ longCode .rotationAmend = 4
    ∧ longCode .exposureSnapshot = 5)
  ∧ (∀ f s, ∃ flags latches,
    raise f s = { s with status := { s.status with flags := flags }, decoder := { s.decoder with latches := latches } }
    ∧ ∀ g, flags.getLsbD (flagBit g) = (g = f || s.status.flags.getLsbD (flagBit g))
      ∧ latches.getLsbD (flagBit g)
          = (s.decoder.latches.getLsbD (flagBit g)
              || (g = f && !s.status.flags.getLsbD (flagBit g) && s.decoder.mask.getLsbD (flagBit g))))
  ∧ (∀ s, attention s = true ↔ ∃ f, s.decoder.latches.getLsbD (flagBit f) = true)
  ∧ ∀ tag code r d s,
    settleShort tag code r d s
      = (if r = .done ∨ r = .cancelled then { s with decoder.last := { tag := tag, code := code, result := r, detail := d } }
         else raise .cueRefused { s with decoder.last := { tag := tag, code := code, result := r, detail := d } })

/-- R59, in both orders of a raise and a clear that names the flag: the operand check, the flags and latches cleared,
everything else left alone; a flag raised after the clear is a rise. -/
def Obligations.StatusClearClearsNamedFlags : Prop :=
  ∀ (s : State) (tag : Half) (mask : Word), s.bypass = false →
    ((∃ n, 19 ≤ n ∧ n < 32 ∧ mask.getLsbD n = true) →
      exec (.statusClear tag mask) s = .next (settleShort tag 0x80 .range 0 s))
    ∧ ((∀ n, 19 ≤ n → n < 32 → mask.getLsbD n = false) → ∃ flags latches,
        exec (.statusClear tag mask) s = .next
          { s with
            status := { s.status with flags := flags }
            decoder := { s.decoder with
              latches := latches, last := { tag := tag, code := 0x80, result := .done, detail := 0 } } }
        ∧ (∀ n, n < 19 → flags.getLsbD n = (s.status.flags.getLsbD n && !mask.getLsbD n)
              ∧ latches.getLsbD n = (s.decoder.latches.getLsbD n && !mask.getLsbD n))
        ∧ ∀ f, mask.getLsbD (flagBit f) = true →
            (∃ t, exec (.statusClear tag mask) (raise f s) = .next t ∧ flagUp f t = false
              ∧ t.decoder.latches.getLsbD (flagBit f) = false)
            ∧ ∃ t, exec (.statusClear tag mask) s = .next t ∧ flagUp f (raise f t) = true
              ∧ (raise f t).decoder.latches.getLsbD (flagBit f) = s.decoder.mask.getLsbD (flagBit f))

/-- R60, in both orders of a rise and a mask that enables it: the operand check, the new mask, and the latches of
disabled flags cleared; the mask alone sets no latch. -/
def Obligations.AttentionMaskReplacesMask : Prop :=
  ∀ (s : State) (tag : Half) (mask : Word), s.bypass = false →
    ((∃ n, 19 ≤ n ∧ n < 32 ∧ mask.getLsbD n = true) →
      exec (.attentionMask tag mask) s = .next (settleShort tag 0x81 .range 0 s))
    ∧ ((∀ n, 19 ≤ n → n < 32 → mask.getLsbD n = false) → ∃ m latches,
        exec (.attentionMask tag mask) s = .next
          { s with
            decoder := { s.decoder with
              mask := m, latches := latches, last := { tag := tag, code := 0x81, result := .done, detail := 0 } } }
        ∧ (∀ n, n < 19 → m.getLsbD n = mask.getLsbD n
            ∧ latches.getLsbD n = (s.decoder.latches.getLsbD n && mask.getLsbD n))
        ∧ ∀ f, mask.getLsbD (flagBit f) = true → flagUp f s = false →
            s.decoder.latches.getLsbD (flagBit f) = false →
            (∃ t, exec (.attentionMask tag mask) s = .next t
              ∧ (raise f t).decoder.latches.getLsbD (flagBit f) = true)
            ∧ (s.decoder.mask.getLsbD (flagBit f) = false →
              ∃ t, exec (.attentionMask tag mask) (raise f s) = .next t
                ∧ t.decoder.latches.getLsbD (flagBit f) = false
                ∧ (raise f t).decoder.latches.getLsbD (flagBit f) = false
                ∧ (raise f (clearFlags (flagMask f) t)).decoder.latches.getLsbD (flagBit f) = true))

/-! ### The bus -/

/-- R26: with fewer than 32 entries an offered transaction joins the tail of the queue; with 32 it stays on offer.
R26, R27, R29, R31: a controller write granted on the M-port leaves the queue, a waiting transaction is accepted, and
memory changes in exactly its enabled bytes, at its own address in bypass and at the address `redirect` gives out of
it, cue-line writes included. A controller read returns the line as memory holds it, at its own address in bypass and
redirected out of it, and changes nothing else of the part. R28, R51: as an entry reaches the head, by joining an empty
queue or as the entry before it leaves, it is to be answered by the Cue Decoder exactly if it is a read of the progress
line out of bypass with the long lane occupied; that is decided then, and a read so decided is forwarded where the lane
is idle at its grant (log 16). -/
def Obligations.TransactionsJoinAndAreForwarded : Prop :=
  (∀ t s,
    (s.path.queue.length < 32 → ∃ u, exec (.transactionAccepted t) s = .next u
      ∧ u = { s with path := { s.path with queue := s.path.queue ++ [t], headAnswered := u.path.headAnswered } }
      ∧ (s.path.queue ≠ [] → u.path.headAnswered = s.path.headAnswered)
      ∧ (s.path.queue = [] → (u.path.headAnswered = true ↔ HeadIsProgressRead u)))
    ∧ (32 ≤ s.path.queue.length →
      exec (.transactionAccepted t) s = .next { s with path := { s.path with offered := s.path.offered ++ [t] } }))
  ∧ ((∀ (s : State) (line : LineNo) (data : Line) (mask : Mask) (rest : List Transaction),
    Memory.wf s.mem → s.port = none → s.turn = 0 → HeadWrite line data mask rest s →
    ∃ t, exec .mportGrant s = .next t ∧ t.turn = 1 ∧ t.port = none
      ∧ t.path.queue = rest ++ s.path.offered.take 1 ∧ t.path.offered = s.path.offered.drop 1
      ∧ (t.path.headAnswered = true ↔ HeadIsProgressRead t)
      ∧ ∀ x, memRead t.mem x =
          (let a := if s.bypass = true then lineAddr line else redirect (lineAddr line) s
           if a ≤ x ∧ x < a + 64 ∧ mask.getLsbD (x - a) = true then byteAt data (x - a) else memRead s.mem x))
  ∧ ∀ (s : State) (line : LineNo) (rest : List Transaction),
    s.port = none → s.turn = 0 → s.status.captureDue = false →
    s.path.queue = .read line :: rest → (s.path.headAnswered = false ∨ s.decoder.lane = none) →
    ∃ t, exec .mportGrant s = .next t
      ∧ (t.path.headAnswered = true ↔ HeadIsProgressRead t)
      ∧ t = { s with
          turn := 1
          path := { s.path with
            queue := rest ++ s.path.offered.take 1, offered := s.path.offered.drop 1
            headAnswered := t.path.headAnswered, reply := t.path.reply } }
      ∧ ∃ d, t.path.reply = some { line := line, data := d }
        ∧ ∀ i, i < 64 →
            byteAt d i = memRead s.mem ((if s.bypass = true then lineAddr line else redirect (lineAddr line) s) + i))

/-- R31: a line in a host view goes to the same offset of the off-air buffer and never into the buffer on air; any
other line goes to its own address. -/
def Obligations.RedirectMissesTheBufferOnAir : Prop :=
  ∀ (s : State) (a : Nat),
    (∀ h, hostOf a s = some h → (h.bufA + h.size ≤ h.bufB ∨ h.bufB + h.size ≤ h.bufA) →
      redirect a s = (match h.onAir with | .a => h.bufB + (a - h.bufA) | .b => a)
      ∧ ¬ (h.shown ≤ redirect a s ∧ redirect a s < h.shown + h.size))
    ∧ (hostOf a s = none → redirect a s = a)

/-- R34, R38 to R40: what a granted host-view write with an enabled byte does to its zone, to the flags and to the
epochs. Each zone concerned is bumped once. R27, R38: a granted write outside every host view and off the cue line
bumps once each enabled zone with a watch list entry that an enabled byte overlaps, and no other; with no byte enabled
it bumps none. Flags stay. A host-view write with no byte enabled is a late write in FLIP_PENDING all the same (log
14), and changes no HOUSE zone, no epoch and no byte. -/
def Obligations.GrantedWritesReachTheirZones : Prop :=
  (∀ (s : State) (line : LineNo) (data : Line) (mask : Mask) (rest : List Transaction) (h : House),
    PortReady 0 s → HeadWrite line data mask rest s → mask ≠ 0 → lineAddr line ≠ apertureLine 0 s →
    hostOf (lineAddr line) s = some h →
    ∃ t, exec .mportGrant s = .next t
      ∧ t.path.houses = s.path.houses.map (fun x => if x.zone = h.zone then
          { x with idle := if x.timeout = 0 then none else some x.timeout, stale := false } else x)
      ∧ (flagUp .lateWrite t = true ↔ flagUp .lateWrite s = true ∨ h.flip = .flipPending)
      ∧ (∀ f, f ≠ .lateWrite → flagUp f t = flagUp f s)
      ∧ t.sweep.zones.length = s.sweep.zones.length
      ∧ ∀ (n : Nat) (z u : Zone), s.sweep.zones[n]? = some z → t.sweep.zones[n]? = some u →
          (z.cfg.enabled = true ∧ ((h.stale = true ∧ z.cfg.id = h.zone)
              ∨ ∃ e ∈ s.path.watch, e.zone = some z.cfg.id ∧ Touches (redirect (lineAddr line) s) mask e)
            → u = { z with epoch := z.epoch + 1 })
          ∧ (¬ (z.cfg.enabled = true ∧ ((h.stale = true ∧ z.cfg.id = h.zone)
              ∨ ∃ e ∈ s.path.watch, e.zone = some z.cfg.id ∧ Touches (redirect (lineAddr line) s) mask e))
            → u = z))
  ∧ (∀ (s : State) (line : LineNo) (data : Line) (mask : Mask) (rest : List Transaction),
    PortReady 0 s → HeadWrite line data mask rest s → lineAddr line ≠ apertureLine 0 s →
    hostOf (lineAddr line) s = none →
    ∃ t, exec .mportGrant s = .next t
      ∧ t.status = s.status ∧ t.decoder = s.decoder ∧ t.path.houses = s.path.houses ∧ t.path.watch = s.path.watch
      ∧ t.sweep = { s.sweep with zones := t.sweep.zones }
      ∧ t.sweep.zones.length = s.sweep.zones.length
      ∧ ∀ (n : Nat) (z u : Zone), s.sweep.zones[n]? = some z → t.sweep.zones[n]? = some u →
          (z.cfg.enabled = true ∧ (∃ e ∈ s.path.watch, e.zone = some z.cfg.id ∧ Touches (lineAddr line) mask e)
            → u = { z with epoch := z.epoch + 1 })
          ∧ (¬ (z.cfg.enabled = true ∧ ∃ e ∈ s.path.watch, e.zone = some z.cfg.id ∧ Touches (lineAddr line) mask e)
            → u = z))
  ∧ (∀ (s : State) (line : LineNo) (data : Line) (rest : List Transaction) (h : House),
    PortReady 0 s → HeadWrite line data 0 rest s → hostOf (lineAddr line) s = some h →
    ∃ t, exec .mportGrant s = .next t
      ∧ (flagUp .lateWrite t = true ↔ flagUp .lateWrite s = true ∨ h.flip = .flipPending)
      ∧ (∀ f, f ≠ .lateWrite → flagUp f t = flagUp f s)
      ∧ t.path.houses = s.path.houses ∧ t.sweep = s.sweep ∧ t.mem = s.mem)

/-- R41, R42: the snoop's record of frame `f`. Inside the window the flag is set and the mark advances over the whole
run of set flags, the window moving with it; outside it nothing changes. `set k` says that frame mark + 1 + k is set.
R41, R115: a granted write with an enabled byte to the last line of frame `f` of a growing clip, as forwarded, is so
recorded for the current and for the on-deck clip, and an advance reloads the chase timer of a current clip in chase
wait; a write to no such line leaves a clip alone. -/
def Obligations.ChaseWindowAdvancesOverSetRun : Prop :=
  (∀ (c : Clip) (f : Nat),
    ((f : Int) ≤ c.mark ∨ c.mark + 64 < f → recordFrame f c = c)
    ∧ (∀ k, k < 64 → (f : Int) = c.mark + 1 + k →
        let set : Nat → Prop := fun j => j < 64 ∧ (c.window.getLsbD j = true ∨ j = k)
        ∃ run, run ≤ 64 ∧ (∀ j, j < run → set j) ∧ ¬ set run
          ∧ (recordFrame f c).mark = c.mark + run
          ∧ (∀ j, j < 64 → ((recordFrame f c).window.getLsbD j = true ↔ set (j + run)))
          ∧ recordFrame f c = { c with mark := (recordFrame f c).mark, window := (recordFrame f c).window }))
  ∧ ∀ (s : State) (line : LineNo) (data : Line) (mask : Mask) (rest : List Transaction) (z : ZoneRec),
    PortReady 0 s → HeadWrite line data mask rest s → mask ≠ 0 → lineAddr line ≠ apertureLine 0 s →
    replayZone s = some z →
    let isLastLine (c : Clip) (f : Nat) : Prop := c.growing = true ∧ f < c.frames
      ∧ redirect (lineAddr line) s + 64 = c.bases.getD 0 0 + f * c.stride + z.w * z.h * 4
    ∃ t, exec .mportGrant s = .next t
      ∧ t.replay = { s.replay with current := t.replay.current, onDeck := t.replay.onDeck }
      ∧ (s.replay.current = none → t.replay.current = none) ∧ (s.replay.onDeck = none → t.replay.onDeck = none)
      ∧ (∀ c, s.replay.current = some c → 0 < c.stride →
          (∀ f, isLastLine c f → t.replay.current = some
            { recordFrame f c with
              chase := if c.mark < (recordFrame f c).mark ∧ c.chase ≠ none then some 2000 else c.chase })
          ∧ ((∀ f, ¬ isLastLine c f) → t.replay.current = some c))
      ∧ ∀ c, s.replay.onDeck = some c → 0 < c.stride →
          (∀ f, isLastLine c f → t.replay.onDeck = some (recordFrame f c))
          ∧ ((∀ f, ¬ isLastLine c f) → t.replay.onDeck = some c)

/-- R44: positions 0 to 3 are the controller's, the sweep's, the part's and the sweep's. A grant goes to the first
position from the pointer onward whose requester waits, and the pointer moves past it; with no requester waiting there
is no grant. A busy M-port grants nothing. -/
def Obligations.GrantFollowsTurnPointer : Prop :=
  (requesterAt 0 = .controller ∧ requesterAt 1 = .sweep ∧ requesterAt 2 = .part ∧ requesterAt 3 = .sweep)
  ∧ ∀ (s : State) (p : Fin 4), PortReady p s →
    (∀ k : Fin 4, waits (requesterAt (p + k)) s = true →
      (∀ j : Fin 4, j < k → waits (requesterAt (p + j)) s = false) →
      exec .mportGrant s = .next (grantTo (requesterAt (p + k)) { s with turn := p + k + 1 }))
    ∧ ((∀ k : Fin 4, waits (requesterAt k) s = false) → exec .mportGrant s = .next s)
    ∧ ∀ f, exec .mportGrant { s with port := some f } = .next { s with port := some f }

/-- R16, R17, R44: at the sweep's turn the line at the fetch's next address is granted, with memory's data at the
grant. Its arrival frees the M-port and advances the fetch of the slot being fetched by one line, or drops the data of
an abandoned fetch; nothing else changes. R23: the same for the single slot of an alert frame. -/
def Obligations.SweepLinesAreGrantedAndArrive : Prop :=
  (∀ (s : State) (slots : List Slot) (x : Slot) (r : Run) (rest : List Run),
    PortReady 1 s → s.sweep.frame = .zones slots → slots.find? Slot.fetching = some x → x.fetch.runs = r :: rest →
    exec .mportGrant s = .next
      { s with
        turn := 2
        port := some { origin := .slot x.zone.id, data := memLine s.mem r.addr, dropped := false } })
  ∧ (∀ (s : State) (zone : Nat) (data : Line),
    (s.port = some { origin := .slot zone, data := data, dropped := true } →
      exec .sweepLineArrival s = .next { s with port := none })
    ∧ ∀ (before after : List Slot) (x : Slot) (r : Run) (rest : List Run),
        s.port = some { origin := .slot zone, data := data, dropped := false } →
        s.sweep.frame = .zones (before ++ x :: after) → (∀ y ∈ before, y.fetching = false) → x.fetching = true →
        x.fetch.runs = r :: rest →
        let advanced : Fetch :=
          { runs := if r.lines ≤ 1 then rest else { addr := r.addr + 64, lines := r.lines - 1 } :: rest
            got := x.fetch.got ++ [data] }
        exec .sweepLineArrival s = .next
          { s with
            port := none
            sweep := { s.sweep with frame := .zones (before ++ { x with fetch := advanced } :: after) } })
  ∧ ∀ (s : State) (x : AlertSlot) (r : Run) (rest : List Run) (data : Line), x.fetch.runs = r :: rest →
    (PortReady 1 s → s.sweep.frame = .alert x → x.closed = false → x.sending = true →
      exec .mportGrant s = .next
        { s with
          turn := 2
          port := some { origin := .alertSlot, data := memLine s.mem r.addr, dropped := false } })
    ∧ (s.port = some { origin := .alertSlot, data := data, dropped := true } →
      exec .sweepLineArrival s = .next { s with port := none })
    ∧ (s.port = some { origin := .alertSlot, data := data, dropped := false } → s.sweep.frame = .alert x →
      let advanced : Fetch :=
        { runs := if r.lines ≤ 1 then rest else { addr := r.addr + 64, lines := r.lines - 1 } :: rest
          got := x.fetch.got ++ [data] }
      exec .sweepLineArrival s = .next
        { s with port := none, sweep := { s.sweep with frame := .alert { x with fetch := advanced } } })

/-- R43, R50: at the part's turn the owner's next record line is granted while the phase is FETCHING. R43, R53, R57:
with no record line ready, a snapshot line, else a status block line, else the final record lands, each in its own 64
bytes; a settled snapshot may still stand. The landing of the final record frees the lane and raises LONG_CUE_DONE,
and CUE_REFUSED for a refusal. A snapshot's lines land header first and COMPLETE last (R152), or CANCELLED last (R153),
each with the fields of its format; each entry line adds the entries it carries to the count of records processed, and
the COMPLETE header settles the cue DONE with the entry count. R62: before the first status image no line of the part
lands in the aperture (log 30). -/
def Obligations.PartLinesLandInOrder : Prop :=
  (∀ (s : State) (l : Lane), PortReady 2 s → s.decoder.lane = some l → l.phase = .fetching →
    let granted (origin : FlightOrigin) (a : Nat) : State :=
      { s with turn := 3, port := some { origin := origin, data := memLine s.mem a, dropped := false } }
    (∀ x, l.cue = .layoutLoad → s.sweep.load = some x →
      exec .mportGrant s = .next (granted .layout (x.addr + 64 * x.lines.length)))
    ∧ (∀ x, l.cue = .glyphLoad → s.figures.load = some x →
      exec .mportGrant s = .next (granted .glyph (x.addr + 64 * x.lines.length)))
    ∧ (∀ x, l.cue = .clipArm → s.replay.arm = some x →
      exec .mportGrant s = .next (granted .clip (if x.header = none then x.addr else x.addr + 64)))
    ∧ ∀ g, l.cue = .rotationAmend → s.rotation.gather = some g →
      exec .mportGrant s = .next (granted .slotRecords g.next))
  ∧ (∀ (s : State), PortReady 2 s → Memory.wf s.mem → (∀ l, s.decoder.lane = some l → l.phase ≠ .fetching) →
    (∀ p, s.exposure.snapshot = some p → p.lines = []) →
    (∀ (x : StatusLine) (rest : List StatusLine), s.status.lines = x :: rest →
      ∃ m, exec .mportGrant s = .next { s with turn := 3, mem := m, status := { s.status with lines := rest } }
        ∧ ∀ a, memRead m a = (if apertureLine x.number s ≤ a ∧ a < apertureLine x.number s + 64 then
            byteAt x.data (a - apertureLine x.number s) else memRead s.mem a))
    ∧ (∀ (l : Lane) (r : FinalRecord), s.status.image ≠ none → s.status.lines = [] → s.decoder.lane = some l →
      l.final = some r →
      ∃ m, exec .mportGrant s = .next (raiseIf (r.result ≠ .done && r.result ≠ .cancelled) .cueRefused
          (raise .longCueDone
            { s with
              turn := 3, mem := m
              decoder := { s.decoder with lane := none }
              exposure := { s.exposure with snapshot := none } }))
        ∧ ∀ a, memRead m a = (if apertureLine 1 s ≤ a ∧ a < apertureLine 1 s + 64 then
            byteAt (finalLine l r) (a - apertureLine 1 s) else memRead s.mem a))
    ∧ (s.status.image = none → s.status.lines = [] → waits .part s = false))
  ∧ (∀ (s : State) (l : Lane) (p : Snapshot) (x : SnapshotLine) (rest : List SnapshotLine),
    PortReady 2 s → s.decoder.lane = some l → l.phase = .writing → s.exposure.snapshot = some p → p.lines = x :: rest →
    let a := match x with | .header _ => p.dest | .entries n => p.dest + 64 + 64 * n
    (s.status.image = none → s.status.lines = [] → apertureBase s ≤ a → a < apertureBase s + 4096 →
      waits .part s = false)
    ∧ (s.status.image ≠ none ∨ a < apertureBase s ∨ apertureBase s + 4096 ≤ a →
      ∃ t, exec .mportGrant s = .next t
        ∧ t.mem = memWriteBytes s.mem a (snapshotData p x) fullMask 64
        ∧ t.exposure.entries = s.exposure.entries
        ∧ (∃ q, t.exposure.snapshot = some q ∧ q.lines = rest ∧ q.image = p.image)
        ∧ (x = .header .inProgress ∨ x = .header .cancelled → t.decoder = s.decoder)
        ∧ (∀ n, x = .entries n →
            t.decoder.lane = some { l with records := p.written + min 2 (p.image.length - 2 * n) })
        ∧ (x = .header .complete → l.final = none →
            t.decoder.lane = some { l with final := some { result := .done, detail := p.image.length } })))
  ∧ ∀ (p : Snapshot),
    (∀ state, let d := snapshotData p (.header state)
      byteAt d 0 = (match state with | .inProgress => 1 | .complete => 2 | .cancelled => 3)
      ∧ (byteAt d 1).getLsbD 0 = p.zero ∧ (byteAt d 1).getLsbD 1 = p.purge
      ∧ halfAt d 2 = p.tag ∧ wordAt d 4 = p.number ∧ byteAt d 8 = BitVec.ofNat 8 p.image.length)
    ∧ ∀ n k, k < 2 → let d := snapshotData p (.entries n)
      (p.image.length ≤ 2 * n + k → ∀ i, i < 32 → byteAt d (32 * k + i) = 0)
      ∧ ∀ e, p.image[2 * n + k]? = some e →
        byteAt d (32 * k) = BitVec.ofNat 8 e.sponsor ∧ byteAt d (32 * k + 1) = (if e.frozen = true then 1 else 0)
        ∧ (∀ i, 2 ≤ i → i < 8 → byteAt d (32 * k + i) = 0)
        ∧ wordAt d (32 * k + 8) = BitVec.ofNat 32 e.scheduled ∧ wordAt d (32 * k + 12) = BitVec.ofNat 32 e.credited
        ∧ wordAt d (32 * k + 16) = BitVec.ofNat 32 e.unshown ∧ wordAt d (32 * k + 20) = BitVec.ofNat 32 e.occluded
        ∧ wordAt d (32 * k + 24) = BitVec.ofNat 32 e.dimmed ∧ wordAt d (32 * k + 28) = BitVec.ofNat 32 e.moment

/-- R28, R51: a progress line read at the head that the Cue Decoder answers leaves the queue without a grant. Without
a final record the toggle is inverted and the progress word is returned; with one, the final record is returned and
the toggle stays. Memory does not change. The M-port's grants pass such a head by. -/
def Obligations.ProgressReadIsAnswered : Prop :=
  (∀ (s : State) (line : LineNo) (rest : List Transaction) (l : Lane),
    s.path.queue = .read line :: rest → s.path.headAnswered = true → s.decoder.lane = some l → l.records < 2 ^ 32 →
    (∀ r, l.final = some r → r.detail < 2 ^ 32) →
    ∃ t d, exec .progressLineRead s = .next t
      ∧ t = { s with
          path := { s.path with
            queue := rest ++ s.path.offered.take 1, offered := s.path.offered.drop 1
            headAnswered := t.path.headAnswered, reply := some { line := line, data := d } }
          decoder := { s.decoder with lane := some { l with toggle := if l.final = none then !l.toggle else l.toggle } } }
      ∧ (t.path.headAnswered = true ↔ HeadIsProgressRead t)
      ∧ byteAt d 2 = longCode l.cue ∧ halfAt d 4 = l.tag
      ∧ (l.final = none → byteNat d 0 = (if l.toggle = true then 0 else 2) ∧ byteNat d 1 = phaseCode l.phase
          ∧ byteNat d 3 = 0 ∧ wordNat d 8 = l.records)
      ∧ ∀ r, l.final = some r → byteNat d 0 = (if l.toggle = true then 3 else 1) ∧ byteNat d 1 = 0
          ∧ byteNat d 3 = resultCode r.result ∧ wordNat d 8 = r.detail)
  ∧ ∀ (s : State), s.path.headAnswered = true → s.decoder.lane ≠ none →
    ∃ t, exec .mportGrant s = .next t ∧ t.path = s.path

/-! ### The cue line -/

/-- 03 section 3.11, R46: the cue line of a well-formed cue reads back as that cue, every operand at every value. -/
def Obligations.CueLineReadsBack : Prop :=
  ∀ (i : Instr) (l : Line), i.wellFormed = true → encodeCue i = some l → decodeCue l = .cue i

/-- R46, R47: a full-line write of a cue, granted on the cue line, acts as the cue's own command does on the state
that the write leaves, and then leaves the queue (log 12). R46: a full-line write to the cue line with a wrong
signature changes no unit; one with the signature and a flags byte other than 0 is refused UNKNOWN_CUE with its code
and tag; a partial write is no cue. -/
def Obligations.CueLineRunsItsCue : Prop :=
  (∀ (s : State) (line : LineNo) (data : Line) (rest : List Transaction) (i : Instr),
    PortReady 0 s → HeadWrite line data fullMask rest s → lineAddr line = apertureLine 0 s →
    i.wellFormed = true → encodeCue i = some data →
    ∃ t, exec i (forwardWrite line data fullMask { s with turn := 1 }) = .next t
      ∧ exec .mportGrant s = .next (leaveQueue t))
  ∧ (∀ (s : State) (data : Line) (mask : Mask),
    (mask ≠ fullMask → handOff data mask s = s)
    ∧ (halfAt data 0 ≠ 0x51A7 → handOff data mask s = s)
    ∧ (halfAt data 0 = 0x51A7 → byteAt data 3 ≠ 0 →
        handOff data fullMask s = settleShort (halfAt data 4) (byteAt data 2) .unknownCue 0 s)
    ∧ (halfAt data 0 = 0x51A7 →
        byteNat data 2 ∉ [0x01, 0x02, 0x03, 0x04, 0x05, 0x10, 0x20, 0x21, 0x22, 0x23, 0x24, 0x25, 0x26, 0x30, 0x31, 0x40,
          0x41, 0x42, 0x50, 0x51, 0x52, 0x60, 0x70, 0x71, 0x72, 0x73, 0x80, 0x81, 0x82, 0x83] →
        handOff data fullMask s = settleShort (halfAt data 4) (byteAt data 2) .unknownCue 0 s))

/-! ### Long cues -/

/-- R2, R47, R49, R86, R101: LAYOUT LOAD, GLYPH LOAD and CLIP ARM on an idle lane. The cue takes the lane FETCHING
with 0 records and toggle 0 and its owner starts the fetch; an address that is misaligned, at or above 16 GiB, or
whose record runs past the end of memory settles it RANGE, detail 0, with no fetch. Any long cue that finds the lane
occupied, and does not join a gathering, is refused BUSY with no other effect. -/
def Obligations.LongCuesTakeTheLaneOrAreBusy : Prop :=
  (∀ (s : State) (tag : Half) (addr : Quad), s.bypass = false → s.decoder.lane = none →
    let lane (c : LongCue) : Lane :=
      { cue := c, tag := tag, phase := .fetching, records := 0, toggle := false, final := none }
    let rangeZero : FinalRecord := { result := .range, detail := 0 }
    let refused (c : LongCue) : State :=
      { s with decoder := { s.decoder with lane := some { lane c with phase := .writing, final := some rangeZero } } }
    let good (n : Nat) : Prop := addr.toNat < 0x400000000 ∧ addr.toNat % 64 = 0 ∧ addr.toNat + n ≤ 0x400000000
    (good 0 → exec (.layoutLoad tag addr) s = .next
      { s with
        decoder := { s.decoder with lane := some (lane .layoutLoad) }
        sweep := { s.sweep with load := some { addr := addr.toNat, lines := [], count := 0, pending := none } } })
    ∧ (¬ good 0 → exec (.layoutLoad tag addr) s = .next (refused .layoutLoad))
    ∧ (good 192 → exec (.glyphLoad tag addr) s = .next
      { s with
        decoder := { s.decoder with lane := some (lane .glyphLoad) }
        figures := { s.figures with load := some { addr := addr.toNat, lines := [] } } })
    ∧ (¬ good 192 → exec (.glyphLoad tag addr) s = .next (refused .glyphLoad))
    ∧ (good 128 → exec (.clipArm tag addr) s = .next
      { s with
        decoder := { s.decoder with lane := some (lane .clipArm) }
        replay := { s.replay with arm := some { addr := addr.toNat, header := none } } })
    ∧ (¬ good 128 → exec (.clipArm tag addr) s = .next (refused .clipArm)))
  ∧ ∀ (s : State) (l : Lane) (tag : Half) (addr : Quad) (z p : Byte) (op : AmendOperand),
    s.bypass = false → s.decoder.lane = some l →
    exec (.layoutLoad tag addr) s = .next (settleShort tag 0x01 .busy 0 s)
    ∧ exec (.glyphLoad tag addr) s = .next (settleShort tag 0x02 .busy 0 s)
    ∧ exec (.clipArm tag addr) s = .next (settleShort tag 0x03 .busy 0 s)
    ∧ exec (.exposureSnapshot tag z p addr) s = .next (settleShort tag 0x05 .busy 0 s)
    ∧ (¬ (l.cue = .rotationAmend ∧ l.phase = .gathering) →
        exec (.rotationAmend tag op) s = .next (settleShort tag 0x04 .busy 0 s))

/-- R2, R86, R101 to R103: a record line that leaves more lines to fetch is counted and kept; a bad header settles the
cue. A clip header that passes its field checks is refused NO_ZONE with no REPLAY zone, and GEOMETRY with a stride below
the frame size. The M-port is free again. R2, R86: the further lines of a layout before its last, and line 1 of a glyph
set, are counted and kept behind those before them, and nothing else changes. R44, R50: the arrival of a record line whose
data are dropped frees the M-port and changes nothing else. -/
def Obligations.RecordHeaderArrivals : Prop :=
  (∀ (s : State) (l : Lane) (hd : Line) (addr : Nat), s.decoder.lane = some l → l.final = none →
    let counted : CueDecoder := { s.decoder with lane := some { l with records := 1 } }
    (s.port = some { origin := .layout, data := hd, dropped := false } →
      s.sweep.load = some { addr := addr, lines := [], count := 0, pending := none } →
      ((1 ≤ byteNat hd 5 ∧ byteNat hd 5 ≤ 24 ∧ addr + 64 * byteNat hd 5 < 0x400000000) →
        exec .layoutLineArrival s = .next
          { s with
            port := none, decoder := counted
            sweep := { s.sweep with load := some { addr := addr, lines := [hd], count := byteNat hd 5, pending := none } } })
      ∧ (¬ (1 ≤ byteNat hd 5 ∧ byteNat hd 5 ≤ 24 ∧ addr + 64 * byteNat hd 5 < 0x400000000) →
        exec .layoutLineArrival s = .next (settleLong .range 0
          { s with port := none, decoder := counted, sweep := { s.sweep with load := none } })))
    ∧ (s.port = some { origin := .glyph, data := hd, dropped := false } →
      s.figures.load = some { addr := addr, lines := [] } →
      ((16 ≤ halfNat hd 0 ∧ halfNat hd 0 ≤ 256 ∧ halfNat hd 0 % 16 = 0
          ∧ 16 ≤ halfNat hd 2 ∧ halfNat hd 2 ≤ 512 ∧ halfNat hd 2 % 16 = 0 ∧ byteNat hd 4 < 8) →
        exec .glyphLineArrival s = .next
          { s with
            port := none, decoder := counted
            figures := { s.figures with load := some { addr := addr, lines := [hd] } } })
      ∧ (¬ (16 ≤ halfNat hd 0 ∧ halfNat hd 0 ≤ 256 ∧ halfNat hd 0 % 16 = 0
          ∧ 16 ≤ halfNat hd 2 ∧ halfNat hd 2 ≤ 512 ∧ halfNat hd 2 % 16 = 0 ∧ byteNat hd 4 < 8) →
        exec .glyphLineArrival s = .next (settleLong .range 0
          { s with port := none, decoder := counted, figures := { s.figures with load := none } })))
    ∧ (s.port = some { origin := .clip, data := hd, dropped := false } →
      s.replay.arm = some { addr := addr, header := none } →
      let fine : Prop := halfNat hd 0 ≠ 0 ∧ 1 ≤ byteNat hd 2 ∧ byteNat hd 2 ≤ 8 ∧ byteNat hd 3 ≤ 3 ∧ byteNat hd 4 ≤ 1
        ∧ wordNat hd 8 % 64 = 0 ∧ halfNat hd 12 ≠ 0 ∧ halfNat hd 14 ≤ halfNat hd 16 ∧ halfNat hd 16 < halfNat hd 12
        ∧ (byteNat hd 4 = 1 → halfNat hd 18 ≤ halfNat hd 12 ∧ byteNat hd 2 ≤ 1 ∧ byteNat hd 3 ≠ 3)
      let ended (r : Result) : State :=
        settleLong r 0 { s with port := none, decoder := counted, replay := { s.replay with arm := none } }
      (fine →
        (∀ z, replayZone s = some z →
          (z.w * z.h * 4 ≤ wordNat hd 8 → exec .clipDescriptorLineArrival s = .next
            { s with
              port := none, decoder := counted
              replay := { s.replay with arm := some { addr := addr, header := some hd } } })
          ∧ (wordNat hd 8 < z.w * z.h * 4 → exec .clipDescriptorLineArrival s = .next (ended .geometry)))
        ∧ (replayZone s = none → exec .clipDescriptorLineArrival s = .next (ended .noZone)))
      ∧ (¬ fine → exec .clipDescriptorLineArrival s = .next (ended .range))))
  ∧ (∀ (s : State) (l : Lane) (hd line : Line), s.decoder.lane = some l → l.final = none →
    let counted (n : Nat) : CueDecoder := { s.decoder with lane := some { l with records := n } }
    (∀ (load : LayoutLoad) (kept : List Line), s.port = some { origin := .layout, data := line, dropped := false } →
      s.sweep.load = some load → load.lines = hd :: kept → kept.length + 1 < load.count →
      exec .layoutLineArrival s = .next
        { s with
          port := none, decoder := counted (kept.length + 2)
          sweep := { s.sweep with load := some { load with lines := hd :: kept ++ [line] } } })
    ∧ ∀ addr, s.port = some { origin := .glyph, data := line, dropped := false } →
      s.figures.load = some { addr := addr, lines := [hd] } →
      exec .glyphLineArrival s = .next
        { s with
          port := none, decoder := counted 2
          figures := { s.figures with load := some { addr := addr, lines := [hd, line] } } })
  ∧ ∀ (s : State) (f : Flight), s.port = some f → f.dropped = true →
    (f.origin = .layout → exec .layoutLineArrival s = .next { s with port := none })
    ∧ (f.origin = .glyph → exec .glyphLineArrival s = .next { s with port := none })
    ∧ (f.origin = .clip → exec .clipDescriptorLineArrival s = .next { s with port := none })
    ∧ (f.origin = .slotRecords → exec .slotRecordLineArrival s = .next { s with port := none })

/-- R3 to R6: the last line of a layout record. A bad screen header settles the cue RANGE with detail 0, the lowest
record with a bad field RANGE with its index, the lowest record with a bad geometry GEOMETRY with its index; otherwise
the layout is pending, and the lane is in WAITING with n records processed. -/
def Obligations.LayoutIsJudgedByItsLastLine : Prop :=
  ∀ (s : State) (l : Lane) (hd last : Line) (recs : List Line) (addr n : Nat),
    s.decoder.lane = some l → l.final = none →
    s.port = some { origin := .layout, data := last, dropped := false } →
    s.sweep.load = some { addr := addr, lines := hd :: recs, count := n, pending := none } → recs.length + 1 = n →
    let record (k : Nat) : Line := (hd :: recs ++ [last]).getD k 0
    let sixteen (v : Nat) : Prop := v % 16 = 0
    let inMemory (a len : Nat) : Prop := a + len ≤ 0x400000000
    let apart (a b len : Nat) : Prop := a + len ≤ b ∨ b + len ≤ a
    let headerOk : Prop := 256 ≤ halfNat hd 0 ∧ halfNat hd 0 ≤ 8192 ∧ sixteen (halfNat hd 0)
      ∧ 64 ≤ halfNat hd 2 ∧ halfNat hd 2 ≤ 4096 ∧ sixteen (halfNat hd 2) ∧ (byteNat hd 4 = 50 ∨ byteNat hd 4 = 60)
    let bufferOk (r : Line) (off : Nat) : Prop :=
      quadNat r off % 64 = 0 ∧ inMemory (quadNat r off) (halfNat r 8 * halfNat r 10 * 4)
    let fieldsOk (r : Line) : Prop := byteNat r 0 ≤ 23 ∧ byteNat r 1 ≤ 4 ∧ byteNat r 2 ≤ 7 ∧ byteNat r 3 ≤ 1
      ∧ sixteen (halfNat r 4) ∧ sixteen (halfNat r 6) ∧ sixteen (halfNat r 8) ∧ sixteen (halfNat r 10)
      ∧ 0 < halfNat r 8 ∧ 0 < halfNat r 10
      ∧ (byteNat r 1 = 1 → byteNat r 16 ≤ 1) ∧ (byteNat r 1 = 2 → byteNat r 16 ≤ 6)
      ∧ (byteNat r 1 = 4 → bufferOk r 24 ∧ bufferOk r 32 ∧ halfNat r 40 ≤ 600)
    let goodField (k : Nat) : Prop :=
      fieldsOk (record k) ∧ ∀ j, 1 ≤ j → j < k → byteNat (record j) 0 ≠ byteNat (record k) 0
    let clipOk (z : ZoneRec) (c : Clip) : Prop := z.w * z.h * 4 ≤ c.stride
      ∧ ∀ a ∈ c.bases, inMemory (a + (c.frames - 1) * c.stride) (z.w * z.h * 4)
    let aloneOk (z : ZoneRec) : Prop := z.x + z.w ≤ halfNat hd 0 ∧ z.y + z.h ≤ halfNat hd 2
      ∧ (z.role = .replay → ∀ c, s.replay.current = some c ∨ s.replay.onDeck = some c → clipOk z c)
      ∧ (∀ r, z.role = .sponsor r →
          (∀ c, (ribbonOf r s).committed = some c → c.w = z.w ∧ c.h = z.h)
          ∧ ∀ c, (ribbonOf r s).staged = some c → c.list.w = z.w ∧ c.list.h = z.h)
      ∧ (∀ f g, z.role = .figure f → z.enabled = true → s.figures.glyphs = some g →
          cellCount f * g.cellWidth ≤ z.w ∧ z.h = g.cellHeight)
      ∧ (∀ a b idle, z.role = .house a b idle → apart a b (z.w * z.h * 4)
          ∧ ∀ c, c = a ∨ c = b → c + z.w * z.h * 4 ≤ apertureBase s ∨ apertureBase s + 4096 ≤ c)
    let pairOk (e z : ZoneRec) : Prop :=
      ¬ (e.enabled = true ∧ z.enabled = true ∧ e.layer = z.layer ∧ intersects e z = true)
      ∧ ¬ (e.role = .replay ∧ z.role = .replay) ∧ ¬ (e.role = .message ∧ z.role = .message)
      ∧ (∀ r, e.role = .sponsor r → z.role = .sponsor r → e.w = z.w ∧ e.h = z.h)
      ∧ ∀ a b i c d j, e.role = .house a b i → z.role = .house c d j → ∀ x y, x = a ∨ x = b → y = c ∨ y = d →
          x + e.w * e.h * 4 ≤ y ∨ y + z.w * z.h * 4 ≤ x
    let ended (r : Result) (d : Nat) : State :=
      { s with
        port := none
        decoder := { s.decoder with lane := settled { l with records := n + 1 } r d }
        sweep := { s.sweep with load := none } }
    (¬ headerOk → exec .layoutLineArrival s = .next (ended .range 0))
    ∧ (headerOk → ∀ k, 1 ≤ k → k ≤ n → ¬ goodField k → (∀ j, 1 ≤ j → j < k → goodField j) →
        exec .layoutLineArrival s = .next (ended .range k))
    ∧ (headerOk → (∀ k, 1 ≤ k → k ≤ n → goodField k) → ∃ zones : List ZoneRec, zones.length = n
      ∧ (∀ k, k < n → ∃ role, roleOf (record (k + 1)) = some role
          ∧ zones[k]? = some (zoneRecOf role (record (k + 1))))
      ∧ let goodAt (k : Nat) : Prop := ∀ z, zones[k]? = some z →
          aloneOk z ∧ ∀ (j : Nat) (e : ZoneRec), j < k → zones[j]? = some e → pairOk e z
        (∀ k, k < n → ¬ goodAt k → (∀ j, j < k → goodAt j) →
          exec .layoutLineArrival s = .next (ended .geometry (k + 1)))
        ∧ ((∀ k, k < n → goodAt k) → exec .layoutLineArrival s = .next
          { s with
            port := none
            decoder := { s.decoder with lane := some { l with records := n, phase := .waiting } }
            sweep := { s.sweep with
              load := some
                { addr := addr, lines := hd :: recs ++ [last], count := n
                  pending := some
                    { header :=
                        { width := halfNat hd 0, height := halfNat hd 2, rate := byteNat hd 4, backdrop := wordAt hd 8 }
                      zones := zones } } } }))

/-- R6 to R8: a pending layout at a boundary, with every slot of the frame in progress closed and no alert. Its header
and zones become current; a zone kept by ID, rectangle, role and enable under an unchanged header keeps its last-sent
epoch and identity and its underruns (its content epoch too, where no unit's work at the boundary reports to it), and
any other starts afresh and STALE; a HOUSE zone starts STEADY and fed, on its kept buffer or on A; the clips go with
the REPLAY zone; and the cue is settled DONE with the zone count. R166: with no MESSAGE zone in the new layout nothing
is on air; with one of the old height a crawl goes on by its speed, ending by the new width, in any order of the units'
work (log 31). -/
def Obligations.LayoutIsAppliedAtTheBoundary : Prop :=
  ∀ (s : State) (order : List BoundaryTask) (hold : Bool) (l : Lane) (load : LayoutLoad) (new : Layout),
    s.bypass = false → s.alert.state = .quiet →
    (∀ slots, s.sweep.frame = .zones slots → ∀ x ∈ slots, x.closed ≠ none) →
    (∀ x, s.sweep.frame = .alert x → x.closed = true) → s.decoder.lane = some l → l.final = none →
    s.sweep.load = some load → load.pending = some new →
    let sameKind (a b : Role) : Prop := match a, b with
      | .replay, .replay => True | .sponsor _, .sponsor _ => True | .figure _, .figure _ => True
      | .message, .message => True | .house _ _ _, .house _ _ _ => True | _, _ => False
    let keeps (o : Zone) (z : ZoneRec) : Prop := s.sweep.header = some new.header
      ∧ o.cfg.id = z.id ∧ o.cfg.x = z.x ∧ o.cfg.y = z.y ∧ o.cfg.w = z.w ∧ o.cfg.h = z.h
      ∧ sameKind o.cfg.role z.role ∧ o.cfg.enabled = true ∧ z.enabled = true
    ∃ t, exec (.sweepBoundary order hold) s = .next t
      ∧ t.sweep.header = some new.header ∧ t.sweep.rate = new.header.rate ∧ t.sweep.load = none
      ∧ t.sweep.zones.map (·.cfg) = new.zones
      ∧ t.decoder.lane = settled l .done new.zones.length
      ∧ (∀ u ∈ t.sweep.zones,
          (∀ o, s.sweep.zones.Pairwise (fun a b => a.cfg.id ≠ b.cfg.id) → o ∈ s.sweep.zones → keeps o u.cfg →
            u.lastEpoch = o.lastEpoch ∧ u.lastIdent = o.lastIdent ∧ u.underruns = o.underruns
              ∧ (s.pins.linkReady = true → u.receiver = o.receiver)
              ∧ ((∃ f, u.cfg.role = .figure f) ∨ (∃ a b i, u.cfg.role = .house a b i) → u.epoch = o.epoch))
          ∧ ((∀ o ∈ s.sweep.zones, ¬ keeps o u.cfg) →
            u.lastEpoch = 0 ∧ u.lastIdent = none ∧ u.underruns = 0 ∧ u.receiver = .stale
              ∧ ((∃ f, u.cfg.role = .figure f) ∨ (∃ a b i, u.cfg.role = .house a b i) → u.epoch = 0)))
      ∧ (∀ z ∈ new.zones, ∀ a b idle, z.role = .house a b idle → ∃ h ∈ t.path.houses,
          h.zone = z.id ∧ h.bufA = a ∧ h.bufB = b ∧ h.size = z.w * z.h * 4 ∧ h.flip = .steady ∧ h.stale = false
          ∧ h.idle = (if z.enabled = true ∧ idle ≠ 0 then some (idle * 100) else none)
          ∧ ((∀ o ∈ s.sweep.zones, ¬ keeps o z) → h.onAir = .a)
          ∧ ∀ o ∈ s.sweep.zones, keeps o z → ∀ g, s.path.houses.find? (fun x => x.zone == z.id) = some g →
              h.onAir = g.onAir)
      ∧ ((∀ z ∈ new.zones, z.role ≠ .replay) → t.replay.current = none ∧ t.replay.onDeck = none)
      ∧ ((∀ z ∈ new.zones, z.role ≠ .message) → t.messages.onAir = none)
      ∧ ∀ m v o z n, s.messages.onAir = some { msg := m, showing := .crawl o } → m.mode = .crawl v →
          messageZone s = some z → new.zones.find? (fun x => x.role == .message) = some n → z.h = n.h →
          (o + v < m.width + n.w → t.messages = { s.messages with onAir := some { msg := m, showing := .crawl (o + v) } })
          ∧ (m.width + n.w ≤ o + v → m.remaining ≤ 1 → s.messages.queue = [] →
              t.messages = { s.messages with onAir := none })
          ∧ ∀ x rest, m.width + n.w ≤ o + v → m.remaining ≤ 1 → s.messages.queue = x :: rest → x.height = n.h →
              t.messages = { s.messages with
                queue := rest
                onAir := some
                  { msg := x, showing := match x.mode with | .still d => .still d | .crawl _ => .crawl 0 } }

/-- R86 to R89: the third line of a glyph set record. The lowest glyph of the set whose address fails settles the cue
RANGE, the lowest enabled FIGURE zone that the cells do not fit settles it GEOMETRY; otherwise the set replaces the
one in use, the strings are recomputed, every enabled FIGURE zone is bumped once, and the cue is settled DONE with the
number of glyphs. -/
def Obligations.GlyphSetReplacesTheOneInUse : Prop :=
  ∀ (s : State) (l : Lane) (l0 l1 l2 : Line) (addr : Nat),
    s.decoder.lane = some l → l.final = none →
    s.port = some { origin := .glyph, data := l2, dropped := false } →
    s.figures.load = some { addr := addr, lines := [l0, l1] } →
    let rasterAt (g : Nat) : Nat := if g < 8 then quadNat l1 (8 * g) else quadNat l2 (8 * (g - 8))
    let inSet (g : Nat) : Prop := g < 13 ∨ (g < 16 ∧ (byteAt l0 4).getLsbD (g - 13) = true)
    let fine (g : Nat) : Prop :=
      rasterAt g % 64 = 0 ∧ rasterAt g + halfNat l0 0 * halfNat l0 2 * 4 ≤ 0x400000000
    let misfit (z : Zone) : Prop := z.cfg.enabled = true
      ∧ ∃ f, z.cfg.role = .figure f ∧ (z.cfg.w < cellCount f * halfNat l0 0 ∨ z.cfg.h ≠ halfNat l0 2)
    let ended (r : Result) (d : Nat) : State :=
      { s with
        port := none
        decoder := { s.decoder with lane := settled { l with records := 3 } r d }
        figures := { s.figures with load := none } }
    (∀ g, inSet g → ¬ fine g → (∀ j, j < g → inSet j → fine j) →
      exec .glyphLineArrival s = .next (ended .range (1 + g)))
    ∧ ((∀ g, inSet g → fine g) →
      (s.sweep.zones.Pairwise (fun a b => a.cfg.id ≠ b.cfg.id) →
        ∀ z ∈ s.sweep.zones, z.cfg.id < 24 → misfit z → (∀ y ∈ s.sweep.zones, misfit y → z.cfg.id ≤ y.cfg.id) →
        exec .glyphLineArrival s = .next (ended .geometry z.cfg.id))
      ∧ ((∀ z ∈ s.sweep.zones, ¬ misfit z) → ∃ t addrs, exec .glyphLineArrival s = .next t
        ∧ (∀ g, inSet g → addrs.getD g 0 = rasterAt g)
        ∧ t.figures.strings = renderStrings t.figures s.clock.gameString s.clock.secondaryString
        ∧ Reported (fun z => ∃ f, z.role = .figure f)
            { ended .done (13 + ((byteAt l0 4).getLsbD 0).toNat + ((byteAt l0 4).getLsbD 1).toNat
                + ((byteAt l0 4).getLsbD 2).toNat) with
              figures := { s.figures with
                load := none
                glyphs := some
                  { cellWidth := halfNat l0 0, cellHeight := halfNat l0 2
                    hasO := (byteAt l0 4).getLsbD 0, hasT := (byteAt l0 4).getLsbD 1, hasDash := (byteAt l0 4).getLsbD 2
                    addrs := addrs }
                strings := t.figures.strings } } t))

/-- R104, R105: the second line of a clip descriptor. The lowest angle whose base or last frame fails settles the cue
RANGE; otherwise the clip is placed, ARMED at its in-point, as the current clip where there is none, with one bump of
the REPLAY zone, else as the on-deck clip in place of any other, with neither. Without the growing flag the mark −1 and
the empty window are the model's choice (log 34). -/
def Obligations.ClipIsPlacedByItsSecondLine : Prop :=
  ∀ (s : State) (l : Lane) (hd l1 : Line) (addr : Nat) (z : ZoneRec),
    s.decoder.lane = some l → l.final = none →
    s.port = some { origin := .clip, data := l1, dropped := false } →
    s.replay.arm = some { addr := addr, header := some hd } → replayZone s = some z →
    let base (k : Nat) : Nat := quadNat l1 (8 * k)
    let fine (k : Nat) : Prop :=
      base k % 64 = 0 ∧ base k + (halfNat hd 12 - 1) * wordNat hd 8 + z.w * z.h * 4 ≤ 0x400000000
    let ended (r : Result) (d : Nat) : State :=
      { s with
        port := none
        decoder := { s.decoder with lane := settled { l with records := 2 } r d }
        replay := { s.replay with arm := none } }
    (∀ k, k < byteNat hd 2 → ¬ fine k → (∀ j, j < k → fine j) →
      exec .clipDescriptorLineArrival s = .next (ended .range (1 + k)))
    ∧ ((∀ k, k < byteNat hd 2 → fine k) → ∃ bases, bases.length = byteNat hd 2
        ∧ (∀ k, k < byteNat hd 2 → bases.getD k 0 = base k)
        ∧ let c : Clip :=
            { state := .armed, endedDark := false, id := halfNat hd 0, bases := bases, stride := wordNat hd 8
              frames := halfNat hd 12, inPoint := halfNat hd 14, outPoint := halfNat hd 16
              behaviour :=
                if byteNat hd 3 = 0 then .haltDark else if byteNat hd 3 = 1 then .haltHold
                else if byteNat hd 3 = 2 then .loop else .angleSweep
              growing := byteNat hd 4 == 1, index := halfNat hd 14, angle := 0, pendingAngle := none
              rate := 256, pendingRate := none, acc := 0
              mark := if byteNat hd 4 = 1 then (halfNat hd 18 : Int) - 1 else -1
              window := 0, chase := none, heldByAlert := false }
          (s.replay.current ≠ none → exec .clipDescriptorLineArrival s =
            .next { ended .done 2 with replay := { s.replay with onDeck := some c, arm := none } })
          ∧ (s.replay.current = none → ∃ t, exec .clipDescriptorLineArrival s = .next t
            ∧ Reported (fun z => z.role = .replay)
                { ended .done 1 with replay := { s.replay with current := some c, arm := none } } t))

/-- R47, R49, R134, R136: ROTATION AMEND. On an idle lane its checks come in order, and the pending list starts empty
under REPLACE and as a copy of the committed list under APPEND; in a gathering of the same ribbon it joins or is
refused, settled as a short cue; in a gathering of the other ribbon it is refused BUSY. An address at or above 16 GiB
on an idle lane is the Cue Decoder's own RANGE, without ROTATION_REFUSED (log 17). -/
def Obligations.AmendsTakeTheLaneOrJoin : Prop :=
  ∀ (s : State) (tag : Half) (op : AmendOperand), s.bypass = false →
    let recordsFine : Prop := 1 ≤ op.count.toNat ∧ op.count.toNat ≤ 40 ∧ op.slots.toNat % 64 = 0
      ∧ op.slots.toNat + 16 * op.count.toNat ≤ 0x400000000
    let fine : Prop := op.ribbon.toNat ≤ 1 ∧ op.mode.toNat ≤ 1 ∧ op.commitPoint.toNat ≤ 1 ∧ recordsFine
      ∧ 16 ≤ op.width.toNat ∧ op.width.toNat ≤ 8192 ∧ op.width.toNat % 16 = 0
      ∧ 16 ≤ op.height.toNat ∧ op.height.toNat ≤ 4096 ∧ op.height.toNat % 16 = 0
      ∧ op.house.toNat % 64 = 0 ∧ op.house.toNat + op.width.toNat * op.height.toNat * 4 ≤ 0x400000000
    let below : Prop := op.house.toNat < 0x400000000 ∧ op.slots.toNat < 0x400000000
    let ribbon : Ribbon := if op.ribbon = 0 then s.rotation.a else s.rotation.b
    let start : List SlotRec :=
      if op.mode = 1 then (match ribbon.committed with | some c => c.slots | none => []) else []
    let lane : Lane :=
      { cue := .rotationAmend, tag := tag, phase := .fetching, records := start.length, toggle := false, final := none }
    let ended (r : Result) : State :=
      { s with
        decoder := { s.decoder with lane := settled { lane with records := 0 } r 0 }
        rotation := { s.rotation with gather := none } }
    (s.decoder.lane = none →
      (¬ below → exec (.rotationAmend tag op) s = .next { ended .range with rotation := s.rotation })
      ∧ (below → ¬ fine → exec (.rotationAmend tag op) s = .next (raise .rotationRefused (ended .range)))
      ∧ (below → fine → ribbon.staged ≠ none →
          exec (.rotationAmend tag op) s = .next (raise .rotationRefused (ended .stagedPending)))
      ∧ (below → fine → ribbon.staged = none → 40 < start.length + op.count.toNat →
          exec (.rotationAmend tag op) s = .next (raise .rotationRefused (ended .range)))
      ∧ (below → fine → ribbon.staged = none → start.length + op.count.toNat ≤ 40 →
          exec (.rotationAmend tag op) s = .next
            { s with
              decoder := { s.decoder with lane := some lane }
              rotation := { s.rotation with
                gather := some
                  { ribbon := if op.ribbon = 0 then .a else .b
                    list :=
                      { slots := start, house := op.house.toNat, w := op.width.toNat, h := op.height.toNat }
                    point := if op.commitPoint = 1 then .atCycle else .atSlot
                    next := op.slots.toNat, left := op.count.toNat, timer := none } } }))
    ∧ ∀ (l : Lane) (g : Gather), s.decoder.lane = some l → l.cue = .rotationAmend → l.phase = .gathering →
      l.final = none → s.rotation.gather = some g →
      let same : Prop := (op.ribbon = 0 ∧ g.ribbon = .a) ∨ (op.ribbon = 1 ∧ g.ribbon = .b)
      (¬ same → exec (.rotationAmend tag op) s = .next (settleShort tag 0x04 .busy 0 s))
      ∧ (same → ¬ recordsFine → exec (.rotationAmend tag op) s = .next (settleShort tag 0x04 .range 0 s))
      ∧ (same → recordsFine → 40 < g.list.slots.length + op.count.toNat →
          exec (.rotationAmend tag op) s = .next (settleShort tag 0x04 .range 0 (raise .rotationRefused
            { s with
              decoder := { s.decoder with lane := settled l .range 0 }
              rotation := { s.rotation with gather := none } })))
      ∧ (same → recordsFine → g.list.slots.length + op.count.toNat ≤ 40 →
          exec (.rotationAmend tag op) s = .next (settleShort tag 0x04 .done 0
            { s with
              decoder := { s.decoder with lane := some { l with phase := .fetching } }
              rotation := { s.rotation with
                gather := some { g with next := op.slots.toNat, left := op.count.toNat, timer := none } } }))

/-- R135: slot records arrive. The amend's last record joins the pending list, with an entry for its sponsor made
where there is room, and the gather timer is loaded with 400; a bad record settles the cue RANGE and a full table
TABLE_FULL, each with 1 + its position. R135, R144: of a line of one to four records still to take, each joins in its
order with the entry it requests, `table k` being the table that the first `k` leave, up to the first that is bad or
finds the table full; after the last one of the amend the gather timer runs, and with more to come the next line
follows. -/
def Obligations.SlotRecordsJoin : Prop :=
  ∀ (s : State) (l : Lane) (line : Line) (g : Gather),
    s.decoder.lane = some l → l.final = none → s.rotation.gather = some g →
    s.port = some { origin := .slotRecords, data := line, dropped := false } →
    let phaseOf (n : Nat) : PhaseSet := if n = 0 then .running else if n = 1 then .stopped else .any
    let common (k : Nat) : Prop := byteNat line (16 * k + 2) ≤ 2 ∧ 25 ≤ halfNat line (16 * k + 4)
      ∧ halfNat line (16 * k + 4) ≤ 6000
    let creativeAt (k : Nat) : Prop := 1 ≤ byteNat line (16 * k) ∧ byteNat line (16 * k) ≤ 250
      ∧ 1 ≤ byteNat line (16 * k + 1) ∧ byteNat line (16 * k + 1) ≤ 8
      ∧ quadNat line (16 * k + 8) % 64 = 0 ∧ quadNat line (16 * k + 8) + g.list.w * g.list.h * 4 ≤ 0x400000000
    let creative : Prop := creativeAt 0
    let record (k : Nat) (c : SlotContent) : SlotRec :=
      { content := c, phases := phaseOf (byteNat line (16 * k + 2)), dwell := halfNat line (16 * k + 4) }
    let known : Prop := ∃ e ∈ s.exposure.entries, e.sponsor = byteNat line 0
    let position := g.list.slots.length
    let ended (r : Result) : State :=
      { s with
        port := none
        decoder := { s.decoder with lane := settled l r (1 + position) }
        rotation := { s.rotation with gather := none } }
    let joined (x : SlotRec) (t : List ExposureEntry) : State :=
      { s with
        port := none
        decoder := { s.decoder with lane := some { l with records := position + 1, phase := .gathering } }
        rotation := { s.rotation with
          gather := some
            { g with list := { g.list with slots := g.list.slots ++ [x] }, left := 0, timer := some 400 } }
        exposure := { s.exposure with entries := t } }
    (g.left = 1 →
      ((¬ (common 0 ∧ ((byteNat line 3 = 0 ∧ creative) ∨ byteNat line 3 = 1)) →
          exec .slotRecordLineArrival s = .next (raise .rotationRefused (ended .range)))
      ∧ (common 0 → byteNat line 3 = 1 →
          exec .slotRecordLineArrival s = .next (joined (record 0 .skip) s.exposure.entries))
      ∧ (common 0 → byteNat line 3 = 0 → creative →
          let x := record 0 (.sponsor (byteNat line 0) (byteNat line 1) (quadNat line 8))
          (known → exec .slotRecordLineArrival s = .next (joined x s.exposure.entries))
          ∧ (¬ known → 64 ≤ s.exposure.entries.length →
            exec .slotRecordLineArrival s = .next (raise .rotationRefused (ended .tableFull)))
          ∧ (¬ known → s.exposure.entries.length < 64 → ExposureOrdered s → ∃ before after,
            s.exposure.entries = before ++ after
            ∧ (∀ e ∈ before, e.sponsor < byteNat line 0) ∧ (∀ e ∈ after, byteNat line 0 < e.sponsor)
            ∧ exec .slotRecordLineArrival s = .next (joined x (before ++
                { sponsor := byteNat line 0, scheduled := 0, credited := 0, unshown := 0, occluded := 0, dimmed := 0,
                  moment := 0, frozen := false } :: after))))))
    ∧ let reads (k : Nat) (x : SlotRec) : Prop := common k
        ∧ ((byteNat line (16 * k + 3) = 0 ∧ creativeAt k
            ∧ x = record k
              (.sponsor (byteNat line (16 * k)) (byteNat line (16 * k + 1)) (quadNat line (16 * k + 8))))
          ∨ (byteNat line (16 * k + 3) = 1 ∧ x = record k .skip))
      let n := min 4 g.left
      let stopped (k : Nat) (t : List ExposureEntry) (r : Result) : State :=
        raise .rotationRefused
          { s with
            port := none
            decoder := { s.decoder with
              lane := settled { l with records := if k = 0 then l.records else position + k } r (1 + position + k) }
            rotation := { s.rotation with gather := none }
            exposure := { s.exposure with entries := t } }
      ∀ (xs : List SlotRec) (table : Nat → List ExposureEntry), 0 < g.left → table 0 = s.exposure.entries →
        (∀ k x, xs[k]? = some x → reads k x ∧ match x.content with
          | .sponsor id _ _ => EntryRequested id (table k) (table (k + 1))
          | .skip => table (k + 1) = table k) →
        (xs.length = n → exec .slotRecordLineArrival s = .next
          { s with
            port := none
            decoder := { s.decoder with
              lane := some { l with records := position + n, phase := if g.left ≤ 4 then .gathering else l.phase } }
            rotation := { s.rotation with
              gather := some
                { g with
                  list := { g.list with slots := g.list.slots ++ xs }
                  left := g.left - n
                  next := if g.left ≤ 4 then g.next else g.next + 64
                  timer := if g.left ≤ 4 then some 400 else g.timer } }
            exposure := { s.exposure with entries := table n } })
        ∧ (xs.length < n → (∀ x, ¬ reads xs.length x) →
            exec .slotRecordLineArrival s = .next (stopped xs.length (table xs.length) .range))
        ∧ ∀ x id duty raster, xs.length < n → reads xs.length x → x.content = .sponsor id duty raster →
            (∀ e ∈ table xs.length, e.sponsor ≠ id) → 64 ≤ (table xs.length).length →
            exec .slotRecordLineArrival s = .next (stopped xs.length (table xs.length) .tableFull)

/-- R137, R139: the gather timer's end, GATHER_TIMER_EXPIRY being its last timebase event (log 9). A SPONSOR zone
bound to the ribbon that the creative size does not fit refuses the list GEOMETRY with the lowest zone ID; otherwise
the list is staged and the cue settled DONE with its length, and on an OFF ribbon the list is committed at once. -/
def Obligations.GatherExpiryStagesOrCommits : Prop :=
  ∀ (s : State) (l : Lane) (g : Gather), s.bypass = false → s.decoder.lane = some l → l.final = none →
    s.rotation.gather = some g → g.timer = some 1 →
    let misfit (z : Zone) : Prop :=
      z.cfg.role = .sponsor g.ribbon ∧ (z.cfg.w ≠ g.list.w ∨ z.cfg.h ≠ g.list.h)
    let ended (r : Result) (d : Nat) : State :=
      { s with
        decoder := { s.decoder with lane := settled l r d }
        rotation := { s.rotation with gather := none } }
    let ribbon := ribbonOf g.ribbon s
    let n := g.list.slots.length
    (∀ z ∈ s.sweep.zones, z.cfg.id < 24 → misfit z → (∀ y ∈ s.sweep.zones, misfit y → z.cfg.id ≤ y.cfg.id) →
      exec .gatherTimerExpiry s = .next (raise .rotationRefused (ended .geometry z.cfg.id)))
    ∧ ((∀ z ∈ s.sweep.zones, ¬ misfit z) →
      (ribbon.state ≠ .off → exec .gatherTimerExpiry s = .next
        (setRibbon g.ribbon { ribbon with staged := some { list := g.list, point := g.point } } (ended .done n)))
      ∧ (ribbon.state = .off → ∃ t, exec .gatherTimerExpiry s = .next t
        ∧ Reported (fun z => z.role = .sponsor g.ribbon)
            (raise .rotationCommitted (setRibbon g.ribbon
              { ribbon with committed := some g.list, staged := none, search := n - 1 } (ended .done n))) t))

/-- R49, R150, R151: EXPOSURE SNAPSHOT on an idle lane. The checks, RANGE before WRONG_STATE where both fail (the
model's reading, log 19), then the image: the entries as they stand with the
sweep number, the tag and the flags; then zeroing, then purging of the entries that no list and no message names; and
the lines to write, a header IN_PROGRESS, the entry lines, and the header COMPLETE. -/
def Obligations.SnapshotTakesItsImage : Prop :=
  ∀ (s : State) (tag : Half) (zero purge : Byte) (dest : Quad), s.bypass = false → s.decoder.lane = none →
    let n := s.exposure.entries.length
    let lineCount := (n + 1) / 2
    let fine : Prop := zero.toNat ≤ 1 ∧ purge.toNat ≤ 1 ∧ dest.toNat % 64 = 0
      ∧ dest.toNat + 64 * lineCount < 0x400000000
      ∧ (dest.toNat + 64 * (1 + lineCount) ≤ apertureBase s ∨ apertureBase s + 512 ≤ dest.toNat)
    let lane : Lane :=
      { cue := .exposureSnapshot, tag := tag, phase := .writing, records := 0, toggle := false, final := none }
    let names (x : Option SlotList) (id : Nat) : Prop :=
      ∃ c, x = some c ∧ ∃ r ∈ c.slots, ∃ duty raster, r.content = .sponsor id duty raster
    let named (id : Nat) : Prop :=
      names s.rotation.a.committed id ∨ names (s.rotation.a.staged.map (·.list)) id
        ∨ names s.rotation.b.committed id ∨ names (s.rotation.b.staged.map (·.list)) id
        ∨ names (s.rotation.gather.map (·.list)) id
        ∨ (∃ m ∈ s.messages.queue, m.sponsor = id) ∨ ∃ o, s.messages.onAir = some o ∧ o.msg.sponsor = id
    let zeroed (e : ExposureEntry) : ExposureEntry :=
      if zero = 1 then
        { sponsor := e.sponsor, scheduled := 0, credited := 0, unshown := 0, occluded := 0, dimmed := 0, moment := 0,
          frozen := false }
      else e
    (¬ fine → exec (.exposureSnapshot tag zero purge dest) s = .next
      { s with decoder := { s.decoder with lane := settled lane .range 0 } })
    ∧ (fine → zero = 1 → s.alert.state = .onAir → exec (.exposureSnapshot tag zero purge dest) s = .next
      { s with decoder := { s.decoder with lane := settled lane .wrongState 0 } })
    ∧ (fine → ¬ (zero = 1 ∧ s.alert.state = .onAir) → ∃ kept : List ExposureEntry,
      kept.Sublist s.exposure.entries
      ∧ (∀ e ∈ s.exposure.entries, (purge = 1 → named e.sponsor) ↔ e ∈ kept)
      ∧ exec (.exposureSnapshot tag zero purge dest) s = .next
        { s with
          decoder := { s.decoder with lane := some lane }
          exposure :=
            { entries := kept.map zeroed
              snapshot := some
                { image := s.exposure.entries, number := s.sweep.number, tag := tag, zero := zero == 1
                  purge := purge == 1, dest := dest.toNat
                  lines := [.header .inProgress] ++ (List.range lineCount).map SnapshotLine.entries
                    ++ [.header .complete]
                  written := 0 } } })

/-- R50, R54, R140, R153: CANCEL. A cue in flight without a final record is settled CANCELLED, its fetched data and
pending structures discarded and a record line in flight dropped; a snapshot is settled with the entries written, and
its header rewritten CANCELLED; a settled or idle lane gives WRONG_STATE. STAGED_A and STAGED_B discard a staged list;
a target above 2 gives RANGE. -/
def Obligations.CancelEndsTheCueItNames : Prop :=
  ∀ (s : State) (tag : Half), s.bypass = false →
    ((∀ l, s.decoder.lane = some l → l.final ≠ none) →
      exec (.cancelLong tag) s = .next (settleShort tag 0x82 .wrongState 0 s))
    ∧ (∀ l, s.decoder.lane = some l → l.final = none → s.exposure.snapshot = none →
      exec (.cancelLong tag) s = .next (settleShort tag 0x82 .done 0
        { s with
          decoder := { s.decoder with lane := settled l .cancelled 0 }
          sweep := { s.sweep with load := none }
          figures := { s.figures with load := none }
          replay := { s.replay with arm := none }
          rotation := { s.rotation with gather := none }
          port := s.port.map (fun f =>
            { f with
              dropped := f.dropped || f.origin == .layout || f.origin == .glyph || f.origin == .clip
                || f.origin == .slotRecords }) }))
    ∧ (∀ l p, s.decoder.lane = some l → l.final = none → s.exposure.snapshot = some p →
      ∃ lines, exec (.cancelLong tag) s = .next (settleShort tag 0x82 .done 0
          { s with
            decoder := { s.decoder with lane := settled l .cancelled p.written }
            exposure := { s.exposure with snapshot := some { p with lines := lines } } })
        ∧ (∀ rest, (∀ x ∈ rest, x ≠ .header .inProgress) →
            (p.lines = .header .inProgress :: rest → lines = [.header .inProgress, .header .cancelled])
            ∧ (p.lines = rest → lines = [.header .cancelled])))
    ∧ (∀ (id : RibbonId) (target : Byte), target = (match id with | .a => 1 | .b => 2) →
      ((ribbonOf id s).staged = none →
        exec (.cancelStaged tag target) s = .next (settleShort tag 0x82 .wrongState 0 s))
      ∧ ((ribbonOf id s).staged ≠ none → exec (.cancelStaged tag target) s = .next
        (settleShort tag 0x82 .done 0 (setRibbon id { ribbonOf id s with staged := none } s))))
    ∧ ∀ target : Byte, 2 < target.toNat →
      exec (.cancelStaged tag target) s = .next (settleShort tag 0x82 .range 0 s)

/-! ### The sweep -/

/-- R1, R25, R33, R56, R57: a sweep boundary in any order of the units' work (log 6). The sweep number increases by 1,
wrapping; the interval begun has the rate of the layout, 60 with none; every flip is exchanged; the capture replaces
the image by that of the state the boundary leaves and puts its six lines behind those not yet written, or is held
back (log 7); memory, the pins, the clocks, the forwarding queue and the turn pointer are left alone. -/
def Obligations.BoundaryNumbersAndCaptures : Prop :=
  ∀ (s : State) (order : List BoundaryTask), s.bypass = false → s.status.captureDue = false →
    ∃ t, exec (.sweepBoundary order false) s = .next t
      ∧ t.sweep.number = s.sweep.number + 1
      ∧ t.sweep.rate = (match t.sweep.header with | some h => h.rate | none => 60)
      ∧ (∀ h ∈ t.path.houses, h.flip = .steady)
      ∧ ((∀ x, s.sweep.load = some x → x.pending = none) → t.path.houses = s.path.houses.map (fun h =>
          if h.flip = .flipPending then
            { h with flip := .steady, onAir := match h.onAir with | .a => .b | .b => .a }
          else h))
      ∧ t.status = { t.status with
          image := some (statusImage t)
          lines := s.status.lines ++ [2, 3, 4, 5, 6, 7].map (fun n =>
            { number := n, data := field (statusImage t) (64 * (n - 2)) 512 })
          captureDue := false }
      ∧ t = { s with
          path := { s.path with watch := t.path.watch, houses := t.path.houses }
          port := t.port, decoder := t.decoder, status := t.status, sweep := t.sweep, receivers := t.receivers
          figures := t.figures, replay := t.replay, rotation := t.rotation, exposure := t.exposure
          messages := t.messages, alert := t.alert, brightness := t.brightness }
      ∧ exec (.sweepBoundary order true) s = .next
          { t with status := { t.status with image := s.status.image, lines := s.status.lines, captureDue := true } }

/-- R56 and the status block table of 03 section 3.11: the captured fields, each at its offset, the opening and the
closing sweep number among them (R57). -/
def Obligations.StatusImageHoldsItsFields : Prop :=
  ∀ (s : State),
    let i := statusImage s
    let ribbonAt (off : Nat) (r : Ribbon) : Prop :=
      field i off 8 = BitVec.ofNat 8 (match r.state with | .off => 0 | .starting => 1 | .on => 2 | .stopping => 3)
        ∧ field i (off + 1) 8 = BitVec.ofNat 8 (match r.entry with | .slot n => n | _ => 255)
        ∧ field i (off + 2) 8 = (if r.staged = none then 0#8 else 1#8)
    field i 0 32 = s.sweep.number ∧ field i 320 32 = s.sweep.number
      ∧ field i 4 8 = (match s.alert.state with | .quiet => 0#8 | .engaging => 1#8 | .onAir => 2#8 | .releasing => 3#8)
      ∧ field i 5 8 =
          (match s.brightness.state with | .normal => 0#8 | .warming => 1#8 | .hold => 2#8 | .cooling => 3#8)
      ∧ field i 6 8 = BitVec.ofNat 8 s.brightness.effective
      ∧ field i 7 8 = (match s.clock.console with | .absent => 0#8 | .locked => 1#8 | .freeRun => 2#8 | .house => 3#8)
      ∧ field i 8 32 = BitVec.ofNat 32 s.clock.game.value
      ∧ field i 12 8 = (if s.clock.game.running = true then 1#8 else 0#8)
      ∧ field i 13 8 = BitVec.ofNat 8 s.clock.period
      ∧ field i 14 16 = BitVec.ofNat 16 s.figures.home ∧ field i 16 16 = BitVec.ofNat 16 s.figures.guest
      ∧ field i 18 8 = BitVec.ofNat 8 s.figures.homeAux ∧ field i 19 8 = BitVec.ofNat 8 s.figures.guestAux
      ∧ (s.replay.current = none → field i 20 64 &&& 0xFFFFFFFFFFFF#64 = 0)
      ∧ (∀ c, s.replay.current = some c →
          field i 20 8 = (match c.state with
            | .armed => 1#8 | .guarded => 2#8 | .playing => 3#8 | .held => 4#8 | .ended => 5#8)
          ∧ field i 21 8 = BitVec.ofNat 8 c.angle ∧ field i 22 16 = BitVec.ofNat 16 c.id
          ∧ field i 24 16 = BitVec.ofNat 16 c.index)
      ∧ field i 26 16 = (match s.replay.onDeck with | some c => BitVec.ofNat 16 c.id | none => 0#16)
      ∧ ribbonAt 28 s.rotation.a ∧ ribbonAt 31 s.rotation.b
      ∧ field i 34 16 = (match s.messages.onAir with | some o => BitVec.ofNat 16 o.msg.id | none => 0#16)
      ∧ field i 36 8 = BitVec.ofNat 8 s.messages.queue.length
      ∧ field i 38 16 = BitVec.ofNat 16 s.messages.lastGone
      ∧ field i 40 32 = s.status.flags.setWidth 32 ∧ field i 44 32 = s.decoder.latches.setWidth 32
      ∧ field i 48 16 = s.decoder.last.tag ∧ field i 50 8 = s.decoder.last.code
      ∧ field i 51 8 = BitVec.ofNat 8 (resultCode s.decoder.last.result)
      ∧ field i 52 32 = BitVec.ofNat 32 s.decoder.last.detail
      ∧ (∀ n, n < 24 → field i (64 + 2 * n) 16 = BitVec.ofNat 16
          (match s.sweep.zones.find? (fun z => z.cfg.id == n) with | some z => z.underruns | none => 0))
      ∧ field i 112 1664 = 0 ∧ field i 324 480 = 0

/-- R11 to R15, R21: the zone frame that a boundary starts. One slot for each enabled zone, in rising order of zone
ID; each with its zone's activity, visibility, epoch and planned identity, and settled DARK, HELD or to fetch where
link-ready is high, to fetch with the runs of its source (R16, R94, R162); the frame header is sent and the receivers
take it (R20). With link-ready low every slot is unsent, every zone STALE and LINK_DOWN raised. R7, R14: the layer and
the role with its fields are parts of the identity (log 28). R94, R161: the shape in which each slot's zone is filled:
cells for a figure, a window of raster columns for a message, or whole. -/
def Obligations.FramePlanIsOrderedAndVisible : Prop :=
  ∀ (s : State) (order : List BoundaryTask) (hold : Bool), s.bypass = false →
    ∃ t, exec (.sweepBoundary order hold) s = .next t
      ∧ (t.sweep.header = none → t.sweep.frame = .none ∧ t.sweep.link = [])
      ∧ (t.sweep.header ≠ none → t.alert.state ≠ .onAir → ∃ slots, t.sweep.frame = .zones slots
        ∧ slots.Pairwise (fun a b => a.zone.id < b.zone.id)
        ∧ (t.sweep.zones.Pairwise (fun a b => a.cfg.id ≠ b.cfg.id) → ∀ z ∈ t.sweep.zones,
            (z.cfg.enabled = true ∧ z.cfg.id < 24 ↔ ∃ x ∈ slots, x.zone = z.cfg))
        ∧ (∀ x ∈ slots, x.zone.enabled = true ∧ x.zone.id < 24 ∧ ∃ z ∈ t.sweep.zones, z.cfg = x.zone)
        ∧ (t.pins.linkReady = false → flagUp .linkDown t = true ∧ t.sweep.link = []
            ∧ ∀ z ∈ t.sweep.zones, z.receiver = .stale)
        ∧ (t.pins.linkReady = true → ∀ h, t.sweep.header = some h →
            let sent : FrameHeader :=
              { number := t.sweep.number, duty := t.brightness.effective, kind := .zones, width := h.width
                height := h.height, backdrop := h.backdrop }
            t.sweep.link = [.header sent]
            ∧ t.receivers = { t.receivers with header := some sent, seen := [], alert := none })
        ∧ ∀ x ∈ slots, x.closed = none ∧ x.fetch.got = []
          ∧ (∀ f, x.zone.role = .figure f → (x.active = true ↔ t.figures.glyphs ≠ none))
          ∧ (x.zone.role = .message → (x.active = true ↔ t.messages.onAir ≠ none))
          ∧ (x.zone.role = .replay → (x.active = true ↔ ∃ c, t.replay.current = some c
              ∧ ¬ (c.state = .ended ∧ c.endedDark = true) ∧ (c.growing = true → (c.index : Int) ≤ c.mark)))
          ∧ (∀ r, x.zone.role = .sponsor r → (ribbonOf r t).entry ≠ .none → (ribbonOf r t).committed ≠ none →
              (x.active = true ↔ (ribbonOf r t).state = .on ∨ (ribbonOf r t).state = .stopping))
          ∧ (∀ a b i, x.zone.role = .house a b i → (x.active = true ↔ ∃ h,
              t.path.houses.find? (fun h => h.zone == x.zone.id) = some h ∧ h.stale = false))
          ∧ (x.active = true → ∃ c, x.ident = .shown x.zone.layer x.zone.role c
            ∧ (∀ k, x.zone.role = .replay → t.replay.current = some k →
                c = .clipFrame k.id k.angle k.index (k.bases.getD k.angle 0 + k.index * k.stride))
            ∧ (∀ r l, x.zone.role = .sponsor r → (ribbonOf r t).committed = some l →
                ((ribbonOf r t).entry = .house → c = .houseMark l.house)
                ∧ ∀ n y, (ribbonOf r t).entry = .slot n → l.slots[n]? = some y →
                    c = (match y.content with
                      | .sponsor id duty a => .sponsorSlot n id duty a
                      | .skip => .houseMark l.house))
            ∧ (∀ f, x.zone.role = .figure f → c = .figureString (figureString t.figures.strings f))
            ∧ (∀ o, x.zone.role = .message → t.messages.onAir = some o →
                c = .message o.msg.id o.msg.sponsor o.msg.addr (match o.showing with | .crawl k => k | _ => 0))
            ∧ (∀ a b i h, x.zone.role = .house a b i → t.path.houses.find? (fun h => h.zone == x.zone.id) = some h →
                c = .houseBuffer (match h.onAir with | .a => h.bufA | .b => h.bufB))
            ∧ (x.settlement = .toFetch →
              (∀ a, 16 ≤ x.zone.w * x.zone.h →
                (∃ id angle index, c = .clipFrame id angle index a) ∨ (∃ n id duty, c = .sponsorSlot n id duty a)
                  ∨ c = .houseMark a ∨ c = .houseBuffer a →
                x.fetch.runs = [{ addr := a, lines := x.zone.w * x.zone.h / 16 }])
              ∧ (∀ f g, x.zone.role = .figure f → t.figures.glyphs = some g → 16 ≤ g.cellWidth * g.cellHeight →
                  x.fetch.runs = (figureString t.figures.strings f).map (fun y =>
                    { addr := g.addrs.getD
                        (match y with
                          | .digit d => d.val | .colon => 10 | .dot => 11 | .blank => 12 | .letterO => 13
                          | .letterT => 14 | .dash => 15) 0
                      lines := g.cellWidth * g.cellHeight / 16 }))
              ∧ ∀ o, x.zone.role = .message → t.messages.onAir = some o →
                  let rows (first last : Nat) : List Run := (List.range x.zone.h).map (fun y =>
                    { addr := o.msg.addr + y * o.msg.width * 4 + first / 16 * 64
                      lines := last / 16 - first / 16 + 1 })
                  (∀ d, o.msg.mode = .still d → x.fetch.runs = rows 0 (min o.msg.width x.zone.w - 1))
                  ∧ ∀ v k, o.msg.mode = .crawl v → o.showing = .crawl k →
                    (k = 0 ∨ o.msg.width + x.zone.w ≤ k → x.fetch.runs = [])
                    ∧ (0 < k → k < o.msg.width + x.zone.w →
                        x.fetch.runs = rows (k - x.zone.w) (min o.msg.width k - 1))))
          ∧ (∀ f g, x.zone.role = .figure f → t.figures.glyphs = some g →
              x.shape = .cells (match f with | .gameClock => 5 | .period => 2 | .homeAux => 2 | .guestAux => 2 | _ => 3)
                g.cellWidth g.cellHeight)
          ∧ (∀ o, x.zone.role = .message → t.messages.onAir = some o →
              (∀ d, o.msg.mode = .still d → x.shape = .window 0 (min o.msg.width x.zone.w - 1) 0)
              ∧ ∀ v k, o.msg.mode = .crawl v → o.showing = .crawl k →
                x.shape = if k = 0 ∨ o.msg.width + x.zone.w ≤ k then .blank
                  else .window (k - x.zone.w) (min o.msg.width k - 1) (x.zone.w - k))
          ∧ ((∀ f, x.zone.role ≠ .figure f) → x.zone.role ≠ .message → x.shape = .whole)
          ∧ (x.active = false → x.ident = .dark)
          ∧ (x.visible = true ↔ x.active = true
              ∧ ∀ y ∈ slots, y.active = true → x.zone.layer < y.zone.layer → intersects y.zone x.zone = false)
          ∧ (t.pins.linkReady = false → x.settlement = .unsent ∧ x.fetch.runs = [])
          ∧ (t.pins.linkReady = true → ∃ z ∈ t.sweep.zones, z.cfg = x.zone ∧ x.epoch = z.epoch
              ∧ (x.active = false → x.settlement = .dark)
              ∧ (x.active = true →
                  (z.receiver = .holdsCurrent ∧ z.epoch = z.lastEpoch ∧ z.lastIdent = some x.ident →
                    x.settlement = .held ∧ x.fetch.runs = [])
                  ∧ (¬ (z.receiver = .holdsCurrent ∧ z.epoch = z.lastEpoch ∧ z.lastIdent = some x.ident) →
                    x.settlement = .toFetch))))

/-- R17 to R20, R24: SLOT_DEADLINE closes the first open slot as it was settled, or with an underrun; the zone's
record, the slot sent on the link, ZONE_UNDERRUN and an abandoned line in flight follow. A slot of a REPLAY, FIGURE or
HOUSE zone makes no report. R24, R145 to R148: the report of a SPONSOR zone's slot schedules one unit of its sponsor
and settles it by the first test that applies; the report of the MESSAGE zone's slot gives a moment credit for a
sponsored message shown FRESH or HELD and visible. A frozen entry takes no change, and an entry freezes as scheduled
reaches its largest value. R20: the receivers replace, fill or keep the zone's content as the slot says, and show of
the zones of the frame the one on the highest layer, over the screen backdrop. R23, R174: the single slot of an alert
frame goes out as its raster if that has all arrived, else as a fill in the colour chosen at the boundary, with no
report, no underrun counted and no ZONE_UNDERRUN (log 32); after a loss of the link nothing is sent. A zone whose slot
the frame has not sent shows the screen backdrop (log 33). R16, R94, R161, R162: the pixel at each place of a FRESH slot:
of its raster, of a figure's cell, of a message's window, or the zone's backdrop. -/
def Obligations.SlotClosesAndReports : Prop :=
  (∀ (s : State) (before after : List Slot) (x : Slot), s.bypass = false →
    s.sweep.frame = .zones (before ++ x :: after) → (∀ y ∈ before, y.closed ≠ none) → x.closed = none →
    ∃ t d, exec .slotDeadline s = .next t
      ∧ (x.settlement = .unsent → d = .unsent) ∧ (x.settlement = .dark → d = .dark)
      ∧ (x.settlement = .held → d = .held)
      ∧ (x.settlement = .toFetch → x.fetch.runs = [] → d = .fresh)
      ∧ (x.settlement = .toFetch → x.fetch.runs ≠ [] →
          d = (if (∃ z ∈ s.sweep.zones, z.cfg.id = x.zone.id ∧ z.receiver = .holdsCurrent) then .stalled else .dark))
      ∧ (∀ f, flagUp f t = (flagUp f s
          || (f = .zoneUnderrun ∧ x.settlement = .toFetch ∧ x.fetch.runs ≠ [])))
      ∧ t.sweep = { s.sweep with
          frame := .zones (before ++ { x with closed := some d, fetch := { x.fetch with runs := [] } } :: after)
          zones := s.sweep.zones.map (fun z =>
            if z.cfg.id = x.zone.id then
              { z with
                receiver := if d = .unsent then .stale else .holdsCurrent
                lastEpoch := if d = .fresh then x.epoch else z.lastEpoch
                lastIdent := if d = .fresh then some x.ident else if d = .dark then some .dark else z.lastIdent
                underruns :=
                  if x.settlement = .toFetch ∧ x.fetch.runs ≠ [] then min (z.underruns + 1) 65535 else z.underruns }
            else z)
          link := s.sweep.link ++ (if d = .unsent then [] else
            [.slot x.zone d
              (if d = .fresh then .pixels (zonePixels x.zone x.shape x.fetch.got)
               else if d = .dark then .fill x.zone.backdrop else .keep)]) }
      ∧ t.port = s.port.map (fun f => { f with dropped := f.dropped || f.origin == .slot x.zone.id })
      ∧ (x.zone.role ≠ .message → (∀ r, x.zone.role ≠ .sponsor r) → t.exposure = s.exposure)
      ∧ (d = .unsent → t.receivers = s.receivers)
      ∧ (d ≠ .unsent →
          let old := s.receivers.held.find? (fun y => y.zone.id == x.zone.id)
          let kept : Payload := match old with | some y => y.content | none => .keep
          t.receivers = { s.receivers with
            held :=
              { zone := x.zone
                content :=
                  if d = .fresh then .pixels (zonePixels x.zone x.shape x.fetch.got)
                  else if d = .dark then .fill x.zone.backdrop else kept }
                :: s.receivers.held.filter (fun y => y.zone.id != x.zone.id)
            seen := s.receivers.seen ++ [x.zone.id] })
      ∧ t = { s with
          port := t.port, sweep := t.sweep, receivers := t.receivers, exposure := t.exposure
          status := { s.status with flags := t.status.flags }
          decoder := { s.decoder with latches := t.decoder.latches } })
  ∧ (∀ (s : State) (before after : List Slot) (x : Slot), s.bypass = false →
    s.sweep.frame = .zones (before ++ x :: after) → (∀ y ∈ before, y.closed ≠ none) → x.closed = none →
    ∃ t d, exec .slotDeadline s = .next t
      ∧ t.sweep.frame = .zones (before ++ { x with closed := some d, fetch := { x.fetch with runs := [] } } :: after)
      ∧ (∀ r n id duty raster, x.zone.role = .sponsor r →
        (∃ layer role, x.ident = .shown layer role (.sponsorSlot n id duty raster)) →
        let unshown := d = .unsent ∨ d = .dark ∨ d = .stalled
        let occluded := ¬ unshown ∧ x.visible = false
        let dimmed := ¬ unshown ∧ ¬ occluded ∧ s.sweep.duty < duty
        let credited := ¬ unshown ∧ ¬ occluded ∧ ¬ dimmed
        t.exposure.entries = s.exposure.entries.map (fun e =>
          if e.sponsor = id ∧ e.frozen = false then
            { e with
              scheduled := e.scheduled + 1
              unshown := if unshown then e.unshown + 1 else e.unshown
              occluded := if occluded then e.occluded + 1 else e.occluded
              dimmed := if dimmed then e.dimmed + 1 else e.dimmed
              credited := if credited then e.credited + 1 else e.credited
              frozen := 4294967295 ≤ e.scheduled + 1 }
          else e))
      ∧ (∀ id sponsor raster o, x.zone.role = .message →
        (∃ layer role, x.ident = .shown layer role (.message id sponsor raster o)) →
        t.exposure.entries = s.exposure.entries.map (fun e =>
          if e.sponsor = sponsor ∧ sponsor ≠ 0 ∧ (d = .fresh ∨ d = .held) ∧ x.visible = true ∧ e.frozen = false then
            { e with moment := min (e.moment + 1) 4294967295 }
          else e))
      ∧ (x.ident = .dark ∨ (∃ layer role a, x.ident = .shown layer role (.houseMark a)) → t.exposure = s.exposure))
  ∧ (∀ (s : State) (x : AlertSlot), s.bypass = false → s.sweep.frame = .alert x → x.closed = false →
    let payload : Payload :=
      if x.raster ≠ none ∧ x.fetch.runs = [] then .pixels (x.fetch.got.flatMap linePixels) else .fill x.colour
    let closed : State :=
      { s with
        port := s.port.map (fun f => { f with
          dropped := f.dropped || f.origin == .alertSlot || (match f.origin with | .slot _ => true | _ => false) })
        sweep := { s.sweep with
          frame := .alert { x with closed := true, fetch := { x.fetch with runs := [] } } } }
    exec .slotDeadline s = .next
      (if x.sending = true then
        { closed with
          sweep := { closed.sweep with link := s.sweep.link ++ [.alertSlot payload] }
          receivers := { s.receivers with alert := some payload } }
       else closed))
  ∧ (∀ (z : ZoneRec) (got : List Line) (i j : Nat), i < z.w → j < z.h →
    let pixel (n : Nat) : Option Pixel := got[n / 16]?.map (fun l => wordAt l (4 * (n % 16)))
    let place (shape : Shape) : Option Pixel := (zonePixels z shape got)[j * z.w + i]?
    place .whole = pixel (j * z.w + i)
    ∧ place .blank = some z.backdrop
    ∧ (∀ count cw, cw % 16 = 0 → count * cw ≤ z.w → count * (cw * z.h / 16) ≤ got.length →
        place (.cells count cw z.h) =
          if i < count * cw then pixel (i / cw * (cw * z.h) + j * cw + i % cw) else some z.backdrop)
    ∧ ∀ first last start, first ≤ last → start + (last - first) < z.w →
        let perRow := last / 16 - first / 16 + 1
        z.h * perRow ≤ got.length →
        place (.window first last start) =
          if start ≤ i ∧ i ≤ start + (last - first) then pixel (16 * (j * perRow) + first % 16 + (i - start))
          else some z.backdrop)
  ∧ ∀ (c : ReceiverCards) (h : FrameHeader) (x y : Nat), c.header = some h →
    let pixelOf (p : Payload) (w i j : Nat) : Option Pixel :=
      match p with | .pixels r => r[j * w + i]? | .fill colour => some colour | .keep => none
    let lies (z : HeldZone) : Prop := z.zone.id ∈ c.seen ∧ z.zone.x ≤ x ∧ x < z.zone.x + z.zone.w
      ∧ z.zone.y ≤ y ∧ y < z.zone.y + z.zone.h
    (h.kind = .alert → ∀ p, c.alert = some p → boardPixel c x y = pixelOf p h.width x y)
    ∧ (h.kind = .zones →
      ((∀ z ∈ c.held, ¬ lies z) → boardPixel c x y = some h.backdrop)
      ∧ ∀ z ∈ c.held, lies z → (∀ u ∈ c.held, u ≠ z → lies u → u.zone.layer < z.zone.layer) →
          boardPixel c x y = pixelOf z.content z.zone.w (x - z.zone.x) (y - z.zone.y))

/-- R22: link-ready falls in a frame: LINK_DOWN, every zone STALE, a fetch in flight dropped, and every slot not yet
closed closes UNSENT at its deadline with nothing sent and no underrun; in an alert frame the rest is not sent, and
the fetch is dropped. With no frame in progress, and for a rise, only the level changes. -/
def Obligations.LinkLossUnsendsTheFrame : Prop :=
  (∀ s, exec .linkReadyRises s = .next { s with pins := { s.pins with linkReady := true } })
  ∧ (∀ s, s.bypass = true ∨ s.sweep.frame = .none →
      exec .linkReadyFalls s = .next { s with pins := { s.pins with linkReady := false } })
  ∧ (∀ (s : State) (slots : List Slot), s.bypass = false → s.sweep.frame = .zones slots →
    ∃ t cut, exec .linkReadyFalls s = .next (raise .linkDown t)
      ∧ cut.length = slots.length
      ∧ (∀ (n : Nat) (x y : Slot), slots[n]? = some x → cut[n]? = some y →
          (x.closed ≠ none → y = x)
          ∧ (x.closed = none → y = { x with settlement := .unsent, fetch := { x.fetch with runs := [] } }))
      ∧ t = { s with
          pins := { s.pins with linkReady := false }
          port := s.port.map (fun f => { f with
            dropped := f.dropped || f.origin == .alertSlot || (match f.origin with | .slot _ => true | _ => false) })
          sweep := { s.sweep with
            frame := .zones cut
            zones := s.sweep.zones.map (fun z => { z with receiver := .stale }) } })
  ∧ (∀ (s : State) (x : AlertSlot), s.bypass = false → s.sweep.frame = .alert x →
    exec .linkReadyFalls s = .next (raise .linkDown
      { s with
        pins := { s.pins with linkReady := false }
        port := s.port.map (fun f => { f with
          dropped := f.dropped || f.origin == .alertSlot || (match f.origin with | .slot _ => true | _ => false) })
        sweep := { s.sweep with
          frame := .alert { x with sending := false, fetch := { x.fetch with runs := [] } }
          zones := s.sweep.zones.map (fun z => { z with receiver := .stale }) } }))
  ∧ ∀ (s : State) (before after : List Slot) (x : Slot), s.bypass = false →
      s.sweep.frame = .zones (before ++ x :: after) → (∀ y ∈ before, y.closed ≠ none) → x.closed = none →
      ∃ t u y, exec .linkReadyFalls s = .next t ∧ exec .slotDeadline t = .next u
        ∧ u.sweep.link = s.sweep.link ∧ (u.status.flags = t.status.flags)
        ∧ (∀ z ∈ u.sweep.zones, z.receiver = .stale)
        ∧ u.sweep.zones.map (·.underruns) = s.sweep.zones.map (·.underruns)
        ∧ ∃ rest, u.sweep.frame = .zones (before ++ y :: rest) ∧ y.closed = some .unsent ∧ y.zone = x.zone

/-! ### The game clock -/

/-- R69, R74, R75, R80, R91, R93: a timebase event out of bypass. Each clock takes its step as its direction, its slew
remainder and its phase give, and expires at its limit, which raises CLOCK_EXPIRED; the display strings follow, with
one bump for each FIGURE zone whose string differs. So in every state, whatever other timers run; with none of them
running nothing else changes. -/
def Obligations.TimebaseStepCountsClocks : Prop :=
  ∀ (s : State), s.bypass = false →
    let phase (c : Clock) : Nat := (c.slewPhase + 1) % 10
    let fast (c : Clock) : Bool := phase c == 0 && (match c.direction with | .down => c.slew < 0 | .up => 0 < c.slew)
    let slow (c : Clock) : Bool := phase c == 0 && (match c.direction with | .down => 0 < c.slew | .up => c.slew < 0)
    let size (c : Clock) : Nat := if slow c then 0 else if fast c then 2 else 1
    let left (c : Clock) : Int := if phase c = 0 then c.slew - c.slew.sign else c.slew
    let expires (top : Nat) (c : Clock) : Bool := c.running
      && (match c.direction with | .down => c.value ≤ size c | .up => top ≤ c.value + size c)
    let next (top : Nat) (c : Clock) : Clock :=
      if c.running = false then c
      else if expires top c then
        { c with
          value := match c.direction with | .down => 0 | .up => top
          running := false, slew := 0, slewPhase := 0 }
      else
        { c with
          value := match c.direction with | .down => c.value - size c | .up => c.value + size c
          slew := left c, slewPhase := phase c }
    let ticked : State :=
      { s with clock := { s.clock with game := next 5999000 s.clock.game, secondary := next 999000 s.clock.secondary } }
    let expired := expires 5999000 s.clock.game || expires 999000 s.clock.secondary
    (∃ t, exec .clockTimebaseStep s = .next t
      ∧ t.clock = { s.clock with
          receiver := t.clock.receiver, console := t.clock.console, watchdog := t.clock.watchdog
          game := next 5999000 s.clock.game, secondary := next 999000 s.clock.secondary
          gameString := gameText s.clock.tenths (next 5999000 s.clock.game)
          secondaryString := secondaryText s.clock.tenths (next 999000 s.clock.secondary) }
      ∧ t.figures = { s.figures with
          period := s.clock.period
          strings := renderStrings t.figures t.clock.gameString t.clock.secondaryString }
      ∧ flagUp .clockExpired t = (flagUp .clockExpired s || expired)
      ∧ t.sweep.zones.length = s.sweep.zones.length
      ∧ ∀ (n : Nat) (z u : Zone) (f : Figure), s.sweep.zones[n]? = some z → t.sweep.zones[n]? = some u →
          z.cfg.role = .figure f →
          u = (if z.cfg.enabled = true ∧ figureString s.figures.strings f ≠ figureString t.figures.strings f then
              { z with epoch := z.epoch + 1 } else z))
    ∧ (s.clock.receiver.gap = none → s.clock.watchdog = none →
      (∀ h ∈ s.path.houses, h.idle = none) → (∀ c, s.replay.current = some c → c.chase = none) →
      (∀ g, s.rotation.gather = some g → g.timer = none) → s.alert.debounce = none → s.pins.venue = false →
      s.brightness.state = .normal → s.pins.heat = false →
    ∃ t, exec .clockTimebaseStep s = .next t
      ∧ Redisplayed
          (if expires 5999000 s.clock.game || expires 999000 s.clock.secondary then raise .clockExpired ticked
           else ticked) t)

/-- R63, R67, R39, R116, R136, R169, R177: a timebase event counts every millisecond timer that runs down by 1, and a
watchdog or an idle timer at 1 acts as its expiry does (log 9). R63, R67, R39, R74, R75, R118: each of these rows is
the last timebase event of its timer, taken as its own event (log 9), and does what the rules give at the timer's end,
and nothing else (log 29 for what the receiver holds with no frame under assembly). -/
def Obligations.TimersRunDownAndExpire : Prop :=
  (∀ (s : State), s.bypass = false → s.alert.state ≠ .releasing →
    ∃ t, exec .clockTimebaseStep s = .next t
      ∧ (∀ n, 1 < n → s.clock.receiver.gap = some n →
          t.clock.receiver = { s.clock.receiver with gap := some (n - 1) })
      ∧ (s.clock.receiver.gap = some 1 → t.clock.receiver = coldReceiver)
      ∧ (∀ n, 1 < n → s.clock.watchdog = some n → t.clock.watchdog = some (n - 1) ∧ t.clock.console = s.clock.console)
      ∧ (s.clock.watchdog = some 1 →
          t.clock.watchdog = none ∧ t.clock.console = .freeRun ∧ flagUp .consoleLost t = true)
      ∧ t.path.houses.length = s.path.houses.length
      ∧ (∀ (k : Nat) (h g : House), s.path.houses[k]? = some h → t.path.houses[k]? = some g →
          (∀ n, 1 < n → h.idle = some n → g = { h with idle := some (n - 1) })
          ∧ (h.idle = some 1 → g = { h with idle := some 0, stale := true } ∧ flagUp .houseStale t = true)
          ∧ (h.idle = none ∨ h.idle = some 0 → g = h))
      ∧ (∀ c n, 1 < n → s.replay.current = some c → c.chase = some n →
          t.replay.current = some { c with chase := some (n - 1) })
      ∧ (∀ g n, 1 < n → s.rotation.gather = some g → g.timer = some n →
          t.rotation.gather = some { g with timer := some (n - 1) })
      ∧ (∀ n, 1 < n → s.alert.debounce = some n → s.pins.venue = true → s.alert.latch = false →
          t.alert = { s.alert with debounce := some (n - 1) })
      ∧ (∀ n, 1 < n → s.brightness.state = .warming → s.pins.heat = true → s.brightness.warm = some n →
          t.brightness = { s.brightness with warm := some (n - 1) })
      ∧ (∀ n, 1 < n → s.brightness.state = .cooling → s.pins.heat = false → s.brightness.cool = some n →
          t.brightness = { s.brightness with cool := some (n - 1) })
      ∧ t.mem = s.mem ∧ t.pins = s.pins ∧ t.path.queue = s.path.queue ∧ t.turn = s.turn ∧ t.port = s.port
      ∧ t.exposure = s.exposure ∧ t.sweep.number = s.sweep.number ∧ t.sweep.frame = s.sweep.frame)
  ∧ (∀ (s : State), s.bypass = false →
    (∀ (k : ClockId), (clockOf k s).running = true → (clockOf k s).slew = 0 →
      (((clockOf k s).direction = .down ∧ (clockOf k s).value ≤ 1)
        ∨ ((clockOf k s).direction = .up
            ∧ (match k with | .game => 5999000 | .secondary => 999000) ≤ (clockOf k s).value + 1)) →
      ∃ t, exec (.clockExpiry k) s = .next t
        ∧ Redisplayed (raise .clockExpired (setClock k
            { value := match (clockOf k s).direction, k with
                | .down, _ => 0 | .up, .game => 5999000 | .up, .secondary => 999000
              running := false, direction := (clockOf k s).direction, slew := 0, slewPhase := 0 } s)) t)
    ∧ (s.clock.receiver.gap = some 1 →
        exec .gapTimerExpiry s = .next { s with clock := { s.clock with receiver := coldReceiver } })
    ∧ (s.clock.watchdog = some 1 → exec .beaconWatchdogExpiry s = .next
        (raise .consoleLost { s with clock := { s.clock with console := .freeRun, watchdog := none } }))
    ∧ (∀ zone h, s.path.houses.find? (fun h => h.zone == zone) = some h → h.idle = some 1 →
        exec (.idleTimerExpiry zone) s = .next (raise .houseStale
          { s with path := { s.path with houses := s.path.houses.map (fun x =>
              if x.zone = zone then idleStep x else x) } })
        ∧ idleStep h = { h with idle := some 0, stale := true })
    ∧ (∀ c, s.replay.current = some c → c.chase = some 1 →
        exec .chaseTimeout s = .next (raise .clipEnded (raise .chaseTimeout
          { s with replay := { s.replay with
              current := some { c with state := .ended, endedDark := false, acc := 0, chase := none } } }))))

/-- R72, R74, R75: a remainder is worked off in ten timebase events a millisecond. A running clock far enough from its
limit, with phase 0, stands 10 × |r| events later at the value that an uncorrected clock would have, moved by r. -/
def Obligations.SlewIsWorkedOff : Prop :=
  ∀ (top : Nat) (c : Clock), c.running = true → c.slewPhase = 0 →
    let n := c.slew.natAbs
    (c.direction = .down → 11 * n < c.value →
      (fun x => (stepClock top x).1)^[10 * n] c
        = { c with value := ((c.value : Int) - 10 * n + c.slew).toNat, slew := 0 })
    ∧ (c.direction = .up → c.value + 11 * n < top →
      (fun x => (stepClock top x).1)^[10 * n] c
        = { c with value := ((c.value : Int) + 10 * n + c.slew).toNat, slew := 0 })

/-- R65, R66, R70 to R72: a BEACON disciplines each clock against the console state as it stood, sets the period, the
state LOCKED and the watchdog 500, and raises CLOCK_SNAP for a snap with a large error or a change of running. In
HOUSE, and with a running or direction byte above 1 (R64), nothing changes. -/
def Obligations.BeaconDisciplinesClocks : Prop :=
  ∀ (s : State) (p : BeaconPayload), s.bypass = false →
    let good : Prop := p.gameRunning.toNat ≤ 1 ∧ p.direction.toNat ≤ 1 ∧ p.secondaryRunning.toNat ≤ 1
    let dir : Direction := if p.direction = 0 then .down else .up
    let gv := min p.gameValue.toNat 5999000
    let sv := min p.secondaryValue.toNat 999000
    let gr := p.gameRunning == 1
    let sr := p.secondaryRunning == 1
    let large (c : Clock) (v : Nat) : Prop := 250 ≤ ((v : Int) - c.value).natAbs
    let snap (c : Clock) (v : Nat) (run : Bool) : Prop :=
      s.clock.console = .absent ∨ s.clock.console = .freeRun ∨ run ≠ c.running ∨ c.running = false
        ∨ dir ≠ c.direction ∨ large c v
    let flagged (c : Clock) (v : Nat) (run : Bool) : Prop := snap c v run ∧ (large c v ∨ run ≠ c.running)
    let next (c : Clock) (v : Nat) (run : Bool) : Clock :=
      if snap c v run then { value := v, running := run, direction := dir, slew := 0, slewPhase := 0 }
      else { c with slew := (v : Int) - c.value }
    let taken : State :=
      { s with clock := { s.clock with
          period := if p.period = 0 then 1 else min p.period.toNat 15
          game := next s.clock.game gv gr, secondary := next s.clock.secondary sv sr
          console := .locked, watchdog := some 500 } }
    ((¬ good ∨ s.clock.console = .house) → exec (.beacon p) s = .next s)
    ∧ (good → s.clock.console ≠ .house → ∃ t, exec (.beacon p) s = .next t
      ∧ Redisplayed (if flagged s.clock.game gv gr ∨ flagged s.clock.secondary sv sr then raise .clockSnap taken
          else taken) t)

/-- R63, R64: from HUNT, the bytes of a console frame act as the arrival of its BEACON or SCORE frame, at the end
byte, and leave the receiver in HUNT; a wrong check, a wrong end byte or a framing error drops the frame; in HUNT
every byte but the start byte is discarded (log 29 for what the receiver then holds). The assembly table, row by row: each
byte taken loads the gap timer with 10; a byte that is no kind, a length that is not the kind's, a wrong check and a wrong
end byte drop the frame. -/
def Obligations.TimingLineFrameIsOneArrival : Prop :=
  ∀ (s : State), s.bypass = false → s.clock.receiver.state = .hunt →
    let hunting : State := { s with clock := { s.clock with receiver := coldReceiver } }
    let line (l : List Byte) : List Instr := l.map (fun b => Instr.timingLineByte b false)
    (∀ (p : BeaconPayload) (check last : Byte),
      runCommands (line ([0x7E, 0x01, 12] ++ beaconBytes p ++ [check, last])) s =
        if check = 0x01 + 12 + byteSum (beaconBytes p) ∧ last = 0x7F then exec (.beacon p) hunting else .next hunting)
    ∧ (∀ (p : ScorePayload) (check last : Byte),
      let bytes : List Byte :=
        [p.home.extractLsb' 0 8, p.home.extractLsb' 8 8, p.guest.extractLsb' 0 8, p.guest.extractLsb' 8 8,
          p.homeAux, p.guestAux]
      runCommands (line ([0x7E, 0x02, 6] ++ bytes ++ [check, last])) s =
        if check = 0x02 + 6 + byteSum bytes ∧ last = 0x7F then exec (.scoreFrame p) hunting else .next hunting)
    ∧ (∀ b, b ≠ 0x7E → exec (.timingLineByte b false) s = .next hunting)
    ∧ ∀ (r : LineReceiver) (b : Byte),
        exec (.timingLineByte b true) { s with clock := { s.clock with receiver := r } } = .next hunting
    ∧ let taking (r : LineReceiver) : State := { s with clock := { s.clock with receiver := { r with gap := some 10 } } }
      let code : Byte := match r.kind with | .beacon => 1 | .score => 2
      let length : Byte := match r.kind with | .beacon => 12 | .score => 6
      let answer := exec (.timingLineByte b false) { s with clock := { s.clock with receiver := r } }
      (r.state = .hunt → b = 0x7E → answer = .next (taking { r with state := .kind }))
      ∧ (r.state = .kind → b = 0x01 → answer = .next (taking { r with state := .length, kind := .beacon }))
      ∧ (r.state = .kind → b = 0x02 → answer = .next (taking { r with state := .length, kind := .score }))
      ∧ (r.state = .kind → b ≠ 0x01 → b ≠ 0x02 → answer = .next hunting)
      ∧ (r.state = .length → b = length → answer = .next (taking { r with state := .payload, bytes := [] }))
      ∧ (r.state = .length → b ≠ length → answer = .next hunting)
      ∧ (r.state = .payload → answer = .next (taking
          { r with
            state := if r.bytes.length + 1 < length.toNat then .payload else .check, bytes := r.bytes ++ [b] }))
      ∧ (r.state = .check → answer = .next (taking { r with state := .ending, check := b }))
      ∧ (r.state = .ending → b ≠ 0x7F ∨ r.check ≠ code + length + byteSum r.bytes → answer = .next hunting)

/-- R65, R68, R81: CLOCK SET. A code above 1 gives RANGE with nothing changed; else both clocks, the tenths mode, the
period and the console state take the operands, the watchdog stops, the strings follow, and the result is DONE. R82,
R83: CLOCK RUN and CLOCK STOP act under HOUSE alone. -/
def Obligations.HouseClockCuesTakeOperands : Prop :=
  (∀ (s : State) (tag : Half) (op : ClockSetOperand), s.bypass = false →
    let good : Prop := op.direction.toNat ≤ 1 ∧ op.gameRunning.toNat ≤ 1 ∧ op.tenths.toNat ≤ 1
      ∧ op.secondaryRunning.toNat ≤ 1 ∧ op.source.toNat ≤ 1
    let dir : Direction := if op.direction = 0 then .down else .up
    (¬ good → exec (.clockSet tag op) s = .next (settleShort tag 0x70 .range 0 s))
    ∧ (good → ∃ t, exec (.clockSet tag op) s = .next (settleShort tag 0x70 .done 0 t)
      ∧ Redisplayed
          { s with clock := { s.clock with
              game :=
                { value := min op.gameValue.toNat 5999000, running := op.gameRunning == 1, direction := dir
                  slew := 0, slewPhase := 0 }
              secondary :=
                { value := min op.secondaryValue.toNat 999000, running := op.secondaryRunning == 1, direction := dir
                  slew := 0, slewPhase := 0 }
              tenths := op.tenths == 1
              period := if op.period = 0 then 1 else min op.period.toNat 15
              console := if op.source = 1 then .house else .absent
              watchdog := none } } t))
  ∧ ∀ (s : State) (tag : Half) (clock : Byte), s.bypass = false →
    (1 < clock.toNat → exec (.clockRun tag clock) s = .next (settleShort tag 0x71 .range 0 s)
      ∧ exec (.clockStop tag clock) s = .next (settleShort tag 0x72 .range 0 s))
    ∧ ∀ k, clock = (match k with | .game => 0 | .secondary => 1) →
      (s.clock.console ≠ .house → exec (.clockRun tag clock) s = .next (settleShort tag 0x71 .consoleOwns 0 s)
        ∧ exec (.clockStop tag clock) s = .next (settleShort tag 0x72 .consoleOwns 0 s))
      ∧ (s.clock.console = .house →
        exec (.clockRun tag clock) s = .next (settleShort tag 0x71 .done 0
          (if (clockOf k s).running = true then s
           else setClock k { clockOf k s with running := true, slew := 0, slewPhase := 0 } s))
        ∧ exec (.clockStop tag clock) s = .next (settleShort tag 0x72 .done 0
          (if (clockOf k s).running = true then
            setClock k { clockOf k s with running := false, slew := 0, slewPhase := 0 } s
           else s)))

/-- R77 to R79: the display strings of both clocks in both directions, cell by cell. -/
def Obligations.DisplayStringsReadTheClocks : Prop :=
  ∀ (tenths : Bool) (c : Clock),
    let d (n : Nat) : Glyph := .digit (Fin.ofNat 10 n)
    let part (unit : Nat) : Nat := match c.direction with
      | .down => (c.value + unit - 1) / unit
      | .up => c.value / unit
    let t := part 100
    let w := part 1000
    (c.value ≤ 5999000 →
      gameText tenths c =
        if tenths = true ∧ t < 600 then
          (if t < 100 then [.blank, .blank, d (t / 10), .dot, d t]
           else [.blank, d (t / 100), d (t / 10), .dot, d t])
        else if w < 600 then [.blank, d (w / 60), .colon, d (w % 60 / 10), d (w % 60)]
        else [d (w / 600), d (w / 60), .colon, d (w % 60 / 10), d (w % 60)])
    ∧ (c.value ≤ 999000 →
      secondaryText tenths c =
        if tenths = true ∧ t < 50 then [d (t / 10), .dot, d t]
        else if w < 10 then [.blank, .blank, d w]
        else if w < 100 then [.blank, d (w / 10), d w]
        else [d (w / 100), d (w / 10), d w])

/-! ### Content units -/

/-- R32: FLIP. -/
def Obligations.FlipMarksTheZone : Prop :=
  ∀ (s : State) (tag : Half) (zone : Byte), s.bypass = false →
    (24 ≤ zone.toNat → exec (.flip tag zone) s = .next (settleShort tag 0x10 .range 0 s))
    ∧ (zone.toNat < 24 →
      ((∀ h ∈ s.path.houses, h.zone ≠ zone.toNat) →
        exec (.flip tag zone) s = .next (settleShort tag 0x10 .noZone 0 s))
      ∧ ∀ before h after, s.path.houses = before ++ h :: after → h.zone = zone.toNat →
        (∀ x ∈ before ++ after, x.zone ≠ zone.toNat) →
        (h.flip = .flipPending → exec (.flip tag zone) s = .next (settleShort tag 0x10 .wrongState 0 s))
        ∧ (h.flip = .steady → exec (.flip tag zone) s = .next (settleShort tag 0x10 .done 0
            { s with path := { s.path with houses := before ++ { h with flip := .flipPending } :: after } })))

/-- R65, R95, R96, R98: a SCORE frame and SCORE SET write the four fields, clamped, and recompute the strings; a home
score above the one held posts the enabled celebration, and a post that is not DONE raises MESSAGE_DROPPED and names
the record. SCORE SET is then settled DONE. R97: CELEBRATION SET. R92: the strings of the scores, the period and the aux
figures, cell by cell for every value, with and without the spare glyphs they use. -/
def Obligations.ScoresAndCelebration : Prop :=
  (∀ (f : FigureRenderer) (game secondary : List Glyph),
    let d (n : Nat) : Glyph := .digit (Fin.ofNat 10 n)
    let score (n : Nat) : List Glyph :=
      if n < 10 then [.blank, .blank, d n] else if n < 100 then [.blank, d (n / 10), d n]
      else [d (n / 100), d (n / 10), d n]
    let two (n : Nat) : List Glyph := if n < 10 then [.blank, d n] else [d (n / 10), d n]
    let present (p : GlyphSet → Bool) : Prop := ∃ g, f.glyphs = some g ∧ p g = true
    let r := renderStrings f game secondary
    r.game = game ∧ r.secondary = secondary
    ∧ (f.home ≤ 999 → r.home = score f.home) ∧ (f.guest ≤ 999 → r.guest = score f.guest)
    ∧ (5 ≤ f.period ∧ present (·.hasO) ∧ present (·.hasT) → r.period = [.letterO, .letterT])
    ∧ (f.period ≤ 15 → ¬ (5 ≤ f.period ∧ present (·.hasO) ∧ present (·.hasT)) → r.period = two f.period)
    ∧ (f.homeAux = 0 ∧ present (·.hasDash) → r.homeAux = [.blank, .dash])
    ∧ (f.homeAux ≤ 99 → ¬ (f.homeAux = 0 ∧ present (·.hasDash)) → r.homeAux = two f.homeAux)
    ∧ (f.guestAux = 0 ∧ present (·.hasDash) → r.guestAux = [.blank, .dash])
    ∧ (f.guestAux ≤ 99 → ¬ (f.guestAux = 0 ∧ present (·.hasDash)) → r.guestAux = two f.guestAux))
  ∧ (∀ r : FigureStrings, figureString r .gameClock = r.game ∧ figureString r .secondaryClock = r.secondary
    ∧ figureString r .homeScore = r.home ∧ figureString r .guestScore = r.guest ∧ figureString r .period = r.period
    ∧ figureString r .homeAux = r.homeAux ∧ figureString r .guestAux = r.guestAux)
  ∧   (∀ (s : State) (tag : Half) (p : ScorePayload), s.bypass = false →
    ∃ t u, Restrung
        { s with figures := { s.figures with
            home := min p.home.toNat 999, guest := min p.guest.toNat 999
            homeAux := min p.homeAux.toNat 99, guestAux := min p.guestAux.toNat 99 } } t
      ∧ exec (.scoreFrame p) s = .next u ∧ exec (.scoreSet tag p) s = .next (settleShort tag 0x73 .done 0 u)
      ∧ (min p.home.toNat 999 ≤ s.figures.home ∨ s.figures.celebration = none → u = t)
      ∧ ∀ m, s.figures.home < min p.home.toNat 999 → s.figures.celebration = some m →
          ((post m t).result = .done → u = (post m t).state)
          ∧ ((post m t).result ≠ .done → u = raise .messageDropped
              { t with messages := { t.messages with lastGone := m.id } }))
  ∧ ∀ (s : State) (tag : Half) (enable : Byte) (m : MessageOperand), s.bypass = false →
    (1 < enable.toNat → exec (.celebrationSet tag enable m) s = .next (settleShort tag 0x42 .range 0 s))
    ∧ (exec (.celebrationSet tag 0 m) s = .next (settleShort tag 0x42 .done 0
        { s with figures := { s.figures with celebration := none } }))
    ∧ (¬ MessageFieldsOk m → exec (.celebrationSet tag 1 m) s = .next (settleShort tag 0x42 .range 0 s))
    ∧ (MessageFieldsOk m → exec (.celebrationSet tag 1 m) s = .next (settleShort tag 0x42 .done 0
        { s with figures := { s.figures with
            celebration := some
              { id := m.id.toNat, priority := m.priority.toNat, sponsor := m.sponsor.toNat
                mode := if m.mode = 0 then .still m.duration.toNat else .crawl m.speed.toNat
                width := m.width.toNat, height := m.height.toNat, repeats := m.repeats.toNat, addr := m.addr.toNat
                remaining := m.repeats.toNat } } }))

/-- R107, R108, R110, R111: CLIP TAKE, CLIP DROP, CLIP HOLD, CLIP RESUME, CLIP RATE and CLIP ANGLE, row by row. R109:
CLIP PLAY. -/
def Obligations.ClipCuesFollowTheirRows : Prop :=
  (∀ (s : State) (tag : Half), s.bypass = false →
    let with' (c : Clip) : State := { s with replay := { s.replay with current := some c } }
    (s.replay.onDeck = none → exec (.clipTake tag) s = .next (settleShort tag 0x20 .wrongState 0 s))
    ∧ (s.replay.onDeck ≠ none → exec (.clipTake tag) s = .next (settleShort tag 0x20 .done 0
        { s with replay := { s.replay with take := true } }))
    ∧ (s.replay.current = none → ∀ rate angle,
        exec (.clipDrop tag) s = .next (settleShort tag 0x26 .done 0 s)
        ∧ exec (.clipHold tag) s = .next (settleShort tag 0x22 .wrongState 0 s)
        ∧ exec (.clipResume tag) s = .next (settleShort tag 0x23 .wrongState 0 s)
        ∧ exec (.clipRate tag rate) s = .next (settleShort tag 0x24
            (if rate.toNat = 0 ∨ 512 < rate.toNat then .range else .wrongState) 0 s)
        ∧ exec (.clipAngle tag angle) s = .next (settleShort tag 0x25 .wrongState 0 s))
    ∧ ∀ c, s.replay.current = some c →
      (∃ t, exec (.clipDrop tag) s = .next (settleShort tag 0x26 .done 0 t)
        ∧ t = { s with
            replay := { s.replay with current := none }
            path := { s.path with watch := t.path.watch } })
      ∧ (c.state = .playing → exec (.clipHold tag) s = .next (settleShort tag 0x22 .done 0
          (with' { c with state := .held, chase := none })))
      ∧ (c.state = .guarded → exec (.clipHold tag) s = .next (settleShort tag 0x22 .done 0
          (with' { c with state := .armed })))
      ∧ (c.state ≠ .playing → c.state ≠ .guarded →
          exec (.clipHold tag) s = .next (settleShort tag 0x22 .wrongState 0 s))
      ∧ (c.state = .held → s.alert.state = .onAir →
          exec (.clipResume tag) s = .next (settleShort tag 0x23 .wrongState 1 s))
      ∧ (c.state = .held → s.alert.state ≠ .onAir → exec (.clipResume tag) s = .next
          (settleShort tag 0x23 .done (if c.heldByAlert = true then 1 else 0)
            (with' { c with state := .playing, heldByAlert := false })))
      ∧ (c.state ≠ .held → exec (.clipResume tag) s = .next (settleShort tag 0x23 .wrongState 0 s))
      ∧ (∀ rate : Half, exec (.clipRate tag rate) s = .next
          (if rate.toNat = 0 ∨ 512 < rate.toNat then settleShort tag 0x24 .range 0 s
           else settleShort tag 0x24 .done 0 (with' { c with pendingRate := some rate.toNat })))
      ∧ ∀ angle : Byte, exec (.clipAngle tag angle) s = .next
          (if c.bases.length ≤ angle.toNat then settleShort tag 0x25 .range 0 s
           else settleShort tag 0x25 .done 0 (with' { c with pendingAngle := some angle.toNat })))
  ∧ (∀ (s : State) (tag rate : Half) (guarded : Byte), s.bypass = false →
    let good : Prop := 1 ≤ rate.toNat ∧ rate.toNat ≤ 512 ∧ guarded.toNat ≤ 1
    (¬ good → exec (.clipPlay tag rate guarded) s = .next (settleShort tag 0x21 .range 0 s))
    ∧ (good → (s.replay.current = none ∨ ∃ c, s.replay.current = some c ∧ (c.state = .guarded ∨ c.state = .playing)) →
        exec (.clipPlay tag rate guarded) s = .next (settleShort tag 0x21 .wrongState 0 s))
    ∧ ∀ c, good → s.replay.current = some c → c.state ≠ .guarded → c.state ≠ .playing →
      (s.alert.state = .onAir → exec (.clipPlay tag rate guarded) s = .next (settleShort tag 0x21 .wrongState 1 s))
      ∧ (s.alert.state ≠ .onAir →
        let started : Clip := if c.state = .ended then { c with index := c.inPoint, angle := 0, pendingAngle := none } else c
        let playing : Clip :=
          { started with
            rate := rate.toNat, pendingRate := none, acc := 0, heldByAlert := false, endedDark := false
            state := if guarded = 1 ∧ s.clock.game.running = true then .guarded else .playing }
        let after : State := { s with replay := { s.replay with current := some playing } }
        ∃ t, exec (.clipPlay tag rate guarded) s = .next
            (settleShort tag 0x21 .done (if c.heldByAlert = true then 1 else 0) t)
          ∧ (started.index = c.index ∧ started.angle = c.angle → t = after)
          ∧ (¬ (started.index = c.index ∧ started.angle = c.angle) → Reported (fun z => z.role = .replay) after t)))

/-- R107, R111 to R113, R117: the clip at a boundary, with no layout to apply and no alert. A take pending brings the
on-deck clip; else pending values are applied, a GUARDED clip is released by a stopped game clock, and a PLAYING clip
takes its cadence step: capped by the written mark while it grows, ended or looped above the out-point. The index
stays from in-point to out-point, CLIP_ENDED is raised exactly as the clip ends, and an enabled REPLAY zone is bumped
once where the pending angle changed the angle or the step changed the index or the angle. -/
def Obligations.CadenceStaysInTheClip : Prop :=
  ∀ (s : State) (order : List BoundaryTask) (hold : Bool), s.bypass = false → s.alert.state = .quiet →
    (∀ x, s.sweep.load = some x → x.pending = none) →
    (∀ d, s.replay.take = true → s.replay.onDeck = some d → d.state = .armed → d.pendingRate = none →
      d.pendingAngle = none → ∃ t, exec (.sweepBoundary order hold) s = .next t
        ∧ t.replay = { s.replay with current := some d, onDeck := none, take := false })
    ∧ ∀ c, s.replay.take = false → s.replay.current = some c →
      let b : Clip :=
        { c with
          rate := c.pendingRate.getD c.rate, pendingRate := none
          angle := c.pendingAngle.getD c.angle, pendingAngle := none
          state := if c.state = .guarded ∧ s.clock.game.running = false then .playing else c.state }
      let target := b.index + (b.acc + b.rate) / 256
      let stepped : Clip := { b with acc := (b.acc + b.rate) % 256 }
      let loop := b.inPoint + (target - b.outPoint - 1) % (b.outPoint - b.inPoint + 1)
      let past (x : Clip) : Clip :=
        match b.behaviour with
        | .haltHold => { x with index := b.outPoint, state := .ended, endedDark := false }
        | .haltDark => { x with index := b.outPoint, state := .ended, endedDark := true }
        | .loop => { x with index := loop }
        | .angleSweep =>
          if b.angle + 1 < b.bases.length then { x with index := loop, angle := b.angle + 1 }
          else { x with index := b.outPoint, state := .ended, endedDark := false }
      ∃ t n, exec (.sweepBoundary order hold) s = .next t
        ∧ t.replay = { s.replay with current := some n }
        ∧ (b.state ≠ .playing → n = b)
        ∧ (b.state = .playing → b.growing = false →
            n = if target ≤ b.outPoint then { stepped with index := target } else past stepped)
        ∧ (b.state = .playing → b.growing = true →
            n = if b.mark < b.outPoint ∧ b.mark < target then
                { b with index := max b.inPoint b.mark.toNat, acc := 0, chase := some (b.chase.getD 2000) }
              else if target ≤ b.outPoint then
                (if target = b.index then stepped else { stepped with index := target, chase := none })
              else past { stepped with chase := none })
        ∧ (c.inPoint ≤ c.index → c.index ≤ c.outPoint → c.inPoint ≤ n.index ∧ n.index ≤ c.outPoint)
        ∧ (flagUp .clipEnded t = (flagUp .clipEnded s || (b.state == .playing && n.state == .ended)))
        ∧ t.sweep.zones.length = s.sweep.zones.length
        ∧ ∀ (k : Nat) (z u : Zone), s.sweep.zones[k]? = some z → t.sweep.zones[k]? = some u → z.cfg.role = .replay →
            u.epoch = (if z.cfg.enabled = true
                ∧ (b.angle ≠ c.angle ∨ n.index ≠ b.index ∨ n.angle ≠ b.angle) then z.epoch + 1 else z.epoch)

/-- R126, R127, R139: RIBBON ENABLE and RIBBON DISABLE, row by row. -/
def Obligations.RibbonCuesFollowTheirTables : Prop :=
  ∀ (s : State) (tag : Half) (ribbon : Byte), s.bypass = false →
    (1 < ribbon.toNat → exec (.ribbonEnable tag ribbon) s = .next (settleShort tag 0x30 .range 0 s)
      ∧ exec (.ribbonDisable tag ribbon) s = .next (settleShort tag 0x31 .range 0 s))
    ∧ ∀ id, ribbon = (match id with | .a => 0 | .b => 1) →
      let r := ribbonOf id s
      (r.state = .off → r.committed = none →
        exec (.ribbonEnable tag ribbon) s = .next (settleShort tag 0x30 .wrongState 0 s))
      ∧ (r.state = .off → r.committed ≠ none → exec (.ribbonEnable tag ribbon) s = .next
          (settleShort tag 0x30 .done 0 (setRibbon id { r with state := .starting } s)))
      ∧ (r.state = .starting ∨ r.state = .on →
          exec (.ribbonEnable tag ribbon) s = .next (settleShort tag 0x30 .done 0 s))
      ∧ (r.state = .stopping → exec (.ribbonEnable tag ribbon) s = .next
          (settleShort tag 0x30 .done 0 (setRibbon id { r with state := .on } s)))
      ∧ (r.state = .off ∨ r.state = .stopping →
          exec (.ribbonDisable tag ribbon) s = .next (settleShort tag 0x31 .done 0 s))
      ∧ (r.state = .on → exec (.ribbonDisable tag ribbon) s = .next
          (settleShort tag 0x31 .done 0 (setRibbon id { r with state := .stopping } s)))
      ∧ (r.state = .starting → r.staged = none → exec (.ribbonDisable tag ribbon) s = .next
          (settleShort tag 0x31 .done 0 (setRibbon id { r with state := .off } s)))
      ∧ ∀ x, r.state = .starting → r.staged = some x →
          ∃ t, exec (.ribbonDisable tag ribbon) s = .next (settleShort tag 0x31 .done 0 t)
            ∧ Reported (fun z => z.role = .sponsor id)
                (raise .rotationCommitted (setRibbon id
                  { r with
                    state := .off, committed := some x.list, staged := none, search := x.list.slots.length - 1 } s)) t

/-- R128 to R132, R139: a ribbon at a boundary, with no layout to apply and no alert. OFF does nothing; ON and
STOPPING count the dwell; a start looks from slot 0, an advance from the slot after the search position; the first
eligible slot becomes current, or HOUSE for 250 frames; a staged list is committed at a start, at an AT_SLOT advance,
at an AT_CYCLE advance from HOUSE or one that examines slot 0, and as STOPPING ends. R9, R133: each enabled SPONSOR zone
bound to the ribbon is bumped once exactly where its entry differs from the one before or a staged list was committed. -/
def Obligations.RibbonsRotateAtTheBoundary : Prop :=
  ∀ (s : State) (order : List BoundaryTask) (hold : Bool) (id : RibbonId), s.bypass = false → s.alert.state = .quiet →
    (∀ x, s.sweep.load = some x → x.pending = none) →
    let r := ribbonOf id s
    let admitted (x : SlotRec) : Prop := x.phases = .any ∨ (x.phases = .running ∧ s.clock.game.running = true)
      ∨ (x.phases = .stopped ∧ s.clock.game.running = false)
    let eligibleAt (l : SlotList) (i : Nat) : Prop := ∃ x, l.slots[i]? = some x ∧ admitted x
    let chosen (l : SlotList) (at' : Nat → Nat) (fallback : Nat) (r₀ r₁ : Ribbon) : Prop :=
      (∀ k x, k < l.slots.length → l.slots[at' k]? = some x → admitted x → (∀ j, j < k → ¬ eligibleAt l (at' j)) →
        r₁ = { r₀ with entry := .slot (at' k), dwell := x.dwell, search := at' k })
      ∧ ((∀ k, k < l.slots.length → ¬ eligibleAt l (at' k)) →
        r₁ = { r₀ with entry := .house, dwell := 250, search := fallback })
    let fromStart (l : SlotList) : Ribbon → Ribbon → Prop := chosen l (fun k => k) (l.slots.length - 1)
    let after (l : SlotList) (k : Nat) : Nat := (r.search + 1 + k) % l.slots.length
    let cycle (l : SlotList) : Prop := r.entry = .house
      ∨ ∃ k, k < l.slots.length ∧ after l k = 0 ∧ ∀ j, j < k → ¬ eligibleAt l (after l j)
    ∃ t, exec (.sweepBoundary order hold) s = .next t
      ∧ (r.state = .off → ribbonOf id t = r)
      ∧ (r.state = .on ∨ r.state = .stopping → 1 < r.dwell → ribbonOf id t = { r with dwell := r.dwell - 1 })
      ∧ (∀ l, r.state = .starting → r.staged = none → r.committed = some l →
          fromStart l { r with state := .on } (ribbonOf id t))
      ∧ (∀ x, r.state = .starting → r.staged = some x → flagUp .rotationCommitted t = true
          ∧ fromStart x.list { r with state := .on, committed := some x.list, staged := none } (ribbonOf id t))
      ∧ (∀ l, r.state = .on → r.dwell ≤ 1 → r.committed = some l →
          (∀ x, r.staged = some x → x.point = .atSlot ∨ cycle l → flagUp .rotationCommitted t = true
            ∧ fromStart x.list { r with committed := some x.list, staged := none } (ribbonOf id t))
          ∧ ((∀ x, r.staged = some x → x.point = .atCycle ∧ ¬ cycle l) →
            chosen l (after l) r.search r (ribbonOf id t)))
      ∧ (∀ l, r.state = .stopping → r.dwell ≤ 1 → r.committed = some l →
          (r.staged = none → ribbonOf id t =
            { r with state := .off, entry := .none, dwell := 0, search := l.slots.length - 1 })
          ∧ ∀ x, r.staged = some x → flagUp .rotationCommitted t = true ∧ ribbonOf id t =
              { r with
                state := .off, entry := .none, dwell := 0, committed := some x.list, staged := none
                search := x.list.slots.length - 1 })
      ∧ t.sweep.zones.length = s.sweep.zones.length
      ∧ ∀ (k : Nat) (z u : Zone), s.sweep.zones[k]? = some z → t.sweep.zones[k]? = some u → z.cfg.role = .sponsor id →
          u.epoch = (if z.cfg.enabled = true
              ∧ ((ribbonOf id t).entry ≠ r.entry ∨ (r.staged ≠ none ∧ (ribbonOf id t).staged = none)) then z.epoch + 1
            else z.epoch)

/-- R155 to R159, R163: MESSAGE POST. The checks in order; then the record replaces a queued one of its ID, or joins
the tail of its class with the last record evicted from a full queue, or preempts a lower record on air (the case of a new ID
and fewer than 16 queued), or goes on air where the air is empty (the case of an empty queue). -/
def Obligations.MessagePostChecksAndPlaces : Prop :=
  ∀ (s : State) (tag : Half) (op : MessageOperand), s.bypass = false → MessagesOrdered s → ExposureOrdered s →
    let m : Message :=
      { id := op.id.toNat, priority := op.priority.toNat, sponsor := op.sponsor.toNat
        mode := if op.mode = 0 then .still op.duration.toNat else .crawl op.speed.toNat
        width := op.width.toNat, height := op.height.toNat, repeats := op.repeats.toNat, addr := op.addr.toNat
        remaining := op.repeats.toNat }
    let q := s.messages.queue
    let settledWith (r : Result) (d : Nat) (t : State) : Prop :=
      exec (.messagePost tag op) s = .next (settleShort tag 0x40 r d t)
    let heightOk : Prop := ∀ z, messageZone s = some z → z.h = m.height
    let idFree : Prop := ∀ o, s.messages.onAir = some o → o.msg.id ≠ m.id
    let isQueued : Prop := ∃ x ∈ q, x.id = m.id
    let preempting : Prop := m.priority = 3 ∧ ∃ o, s.messages.onAir = some o ∧ o.msg.priority < 3
    let full : Prop := ¬ isQueued ∧ 16 ≤ q.length ∧ (∀ x ∈ q, m.priority ≤ x.priority) ∧ ¬ preempting
    let refusedEntry : Prop := m.sponsor ≠ 0 ∧ (∀ e ∈ s.exposure.entries, e.sponsor ≠ m.sponsor)
      ∧ 64 ≤ s.exposure.entries.length
    let passes : Prop := MessageFieldsOk op ∧ heightOk ∧ idFree ∧ ¬ full ∧ ¬ refusedEntry
    let airStands : Prop := s.messages.onAir ≠ none ∨ messageZone s = none ∨ s.alert.state = .onAir
    let tailOf (l l' : List Message) : Prop := ∃ x y, l = x ++ y ∧ (∀ a ∈ x, m.priority ≤ a.priority)
      ∧ (∀ a ∈ y, a.priority < m.priority) ∧ l' = x ++ m :: y
    (¬ MessageFieldsOk op → settledWith .range 0 s)
    ∧ (∀ z, MessageFieldsOk op → messageZone s = some z → z.h ≠ m.height → settledWith .geometry z.id s)
    ∧ (MessageFieldsOk op → heightOk → ¬ idFree → settledWith .onAir 0 s)
    ∧ (MessageFieldsOk op → heightOk → idFree → full → settledWith .queueFull 0 s)
    ∧ (MessageFieldsOk op → heightOk → idFree → ¬ full → refusedEntry → settledWith .tableFull 0 s)
    ∧ (passes → ∃ entries, (m.sponsor = 0 → entries = s.exposure.entries)
      ∧ (m.sponsor ≠ 0 → EntryRequested m.sponsor s.exposure.entries entries)
      ∧ let u : State := { s with exposure := { s.exposure with entries := entries } }
        (airStands → ¬ preempting → isQueued →
          ((∃ x ∈ q, x.id = m.id ∧ x.priority = m.priority) → settledWith .done 0
            { u with messages := { s.messages with queue := q.map (fun x => if x.id = m.id then m else x) } })
          ∧ ((∀ x ∈ q, x.id = m.id → x.priority ≠ m.priority) →
            ∃ l, tailOf (q.filter (fun x => x.id != m.id)) l
              ∧ settledWith .done 0 { u with messages := { s.messages with queue := l } }))
        ∧ (airStands → ¬ preempting → ¬ isQueued → ∃ l, tailOf q l
          ∧ (q.length < 16 → settledWith .done 0 { u with messages := { s.messages with queue := l } })
          ∧ (∀ gone, q.length = 16 → q.getLast? = some gone → settledWith .done gone.id (raise .messageEvicted
              { u with messages := { s.messages with queue := l.dropLast, lastGone := gone.id } })))
        ∧ (∀ o, preempting → ¬ isQueued → s.messages.onAir = some o → q.length < 16 →
          ∃ x y t, q = x ++ y ∧ (∀ a ∈ x, o.msg.priority < a.priority) ∧ (∀ a ∈ y, a.priority ≤ o.msg.priority)
            ∧ settledWith .done 0 t
            ∧ Reported (fun z => z.role = .message)
                { u with messages := { s.messages with
                    queue := x ++ o.msg :: y, onAir := some { msg := m, showing := .notStarted } } } t)
        ∧ (¬ airStands → q = [] → ∃ t, settledWith .done 0 t
          ∧ Reported (fun z => z.role = .message)
              { u with messages := { s.messages with onAir := some { msg := m, showing := .notStarted } } } t))

/-- R159, R164: MESSAGE WITHDRAW. An ID 0, or one neither queued nor on air, gives RANGE; a queued record is
discarded; the on-air record leaves the air, and the head goes on air where a MESSAGE zone stands and its height fits.
-/
def Obligations.MessageWithdrawRemovesTheRecord : Prop :=
  ∀ (s : State) (tag id : Half), s.bypass = false →
    let q := s.messages.queue
    let onAir : Prop := ∃ o, s.messages.onAir = some o ∧ o.msg.id = id.toNat
    (id = 0 ∨ (¬ onAir ∧ ∀ m ∈ q, m.id ≠ id.toNat) →
      exec (.messageWithdraw tag id) s = .next (settleShort tag 0x41 .range 0 s))
    ∧ (id ≠ 0 → ¬ onAir → (∃ m ∈ q, m.id = id.toNat) →
      exec (.messageWithdraw tag id) s = .next (settleShort tag 0x41 .done 0
        { s with messages := { s.messages with queue := q.filter (fun m => m.id != id.toNat) } }))
    ∧ (id ≠ 0 → onAir → ∃ t, exec (.messageWithdraw tag id) s = .next (settleShort tag 0x41 .done 1 t)
      ∧ (q = [] ∨ messageZone s = none ∨ s.alert.state = .onAir →
          Reported (fun z => z.role = .message) { s with messages := { s.messages with onAir := none } } t)
      ∧ ∀ m rest z, q = m :: rest → messageZone s = some z → z.h = m.height → s.alert.state ≠ .onAir →
          Reported (fun z => z.role = .message)
            { s with messages := { s.messages with
                queue := rest, onAir := some { msg := m, showing := .notStarted } } } t)

/-- R159, R160: the on-air record at a boundary, with no layout to apply and no alert. A record not yet started
starts; a STILL counts its frames; a CRAWL moves by its speed; at the end of a showing a repeat is spent, and the record
is discarded or returns to its queue (the cases of an empty queue and of one record of its class or above), and the head
goes on air and starts. R9, R159, R160: the enabled MESSAGE zone is bumped once where a crawl moves, and once where a
showing ends, whatever then goes on air, so twice at a crawl's end (log 21). -/
def Obligations.MessagesShowAtTheBoundary : Prop :=
  ∀ (s : State) (order : List BoundaryTask) (hold : Bool) (m : Message) (w : Showing) (z : ZoneRec), s.bypass = false →
    s.alert.state = .quiet → (∀ x, s.sweep.load = some x → x.pending = none) →
    s.messages.onAir = some { msg := m, showing := w } → messageZone s = some z → m.height = z.h →
    let begun (x : Message) : Option OnAir :=
      some { msg := x, showing := match x.mode with | .still d => .still d | .crawl _ => .crawl 0 }
    let speed := match m.mode with | .crawl v => v | .still _ => 0
    let ends : Prop := match w with
      | .notStarted => False
      | .still n => n ≤ 1
      | .crawl o => m.width + z.w ≤ o + speed
    ∃ t, exec (.sweepBoundary order hold) s = .next t
      ∧ (w = .notStarted → t.messages = { s.messages with onAir := begun m })
      ∧ (∀ n, w = .still n → 1 < n →
          t.messages = { s.messages with onAir := some { msg := m, showing := .still (n - 1) } })
      ∧ (∀ o, w = .crawl o → o + speed < m.width + z.w →
          t.messages = { s.messages with onAir := some { msg := m, showing := .crawl (o + speed) } })
      ∧ (ends → m.remaining ≤ 1 → s.messages.queue = [] → t.messages = { s.messages with onAir := none })
      ∧ (∀ x rest, ends → m.remaining ≤ 1 → s.messages.queue = x :: rest → x.height = z.h →
          t.messages = { s.messages with queue := rest, onAir := begun x })
      ∧ (ends → 1 < m.remaining → s.messages.queue = [] →
          t.messages = { s.messages with onAir := begun { m with remaining := m.remaining - 1 } })
      ∧ (∀ x, ends → 1 < m.remaining → s.messages.queue = [x] → x.height = z.h → m.priority ≤ x.priority →
          t.messages = { s.messages with
            queue := [{ m with remaining := m.remaining - 1 }], onAir := begun x })
      ∧ t.sweep.zones.length = s.sweep.zones.length
      ∧ ∀ (k : Nat) (y u : Zone), s.sweep.zones[k]? = some y → t.sweep.zones[k]? = some u → y.cfg.role = .message →
          let moved : Word := match w with | .crawl _ => y.epoch + 1 | _ => y.epoch
          (y.cfg.enabled = false → u.epoch = y.epoch)
          ∧ (y.cfg.enabled = true → ¬ ends → u.epoch = moved)
          ∧ (y.cfg.enabled = true → ends → u.epoch = moved + 1)

/-! ### Alerts and brightness -/

/-- R47, R170, R171, R173: ALERT RAISE, ALERT CLEAR and ALERT STANDING SET, row by row; a raise in RELEASING is an
entry (R172). R159, R165: a record that the entry takes off the air, or that the release puts on it, bumps the MESSAGE
zone once. -/
def Obligations.AlertCuesFollowTheirTables : Prop :=
  ∀ (s : State) (tag : Half), s.bypass = false →
    (∀ addr : Quad,
      let fits (h : ScreenHeader) : Prop := addr.toNat + h.width * h.height * 4 ≤ 0x400000000
      (addr.toNat % 64 ≠ 0 ∨ 0x400000000 ≤ addr.toNat →
        exec (.alertRaise tag addr) s = .next (settleShort tag 0x51 .range 0 s))
      ∧ (addr.toNat % 64 = 0 → addr.toNat < 0x400000000 →
        (s.sweep.header = none → exec (.alertRaise tag addr) s = .next (settleShort tag 0x51 .geometry 0 s))
        ∧ ∀ h, s.sweep.header = some h →
          (¬ fits h → exec (.alertRaise tag addr) s = .next (settleShort tag 0x51 .range 0 s))
          ∧ (fits h →
            let raised : AlertUnit :=
              { s.alert with raised := some { raster := addr.toNat, width := h.width, height := h.height } }
            (s.alert.state = .quiet → exec (.alertRaise tag addr) s = .next (settleShort tag 0x51 .done 0
              { s with alert := { raised with state := .engaging } }))
            ∧ (s.alert.state = .engaging ∨ s.alert.state = .onAir → exec (.alertRaise tag addr) s = .next
              (settleShort tag 0x51 .done 0 { s with alert := raised }))
            ∧ (s.alert.state = .releasing → ∃ t, exec (.alertRaise tag addr) s = .next (settleShort tag 0x51 .done 0 t)
              ∧ AlertEntered { s with alert := raised } t))))
    ∧ (s.alert.state = .quiet → exec (.alertClear tag) s = .next (settleShort tag 0x52 .wrongState 0 s))
    ∧ (s.alert.state ≠ .quiet → s.pins.venue = true →
        exec (.alertClear tag) s = .next (settleShort tag 0x52 .lineActive 0 s))
    ∧ (s.alert.state = .engaging → s.pins.venue = false → exec (.alertClear tag) s = .next (settleShort tag 0x52 .done 0
        { s with alert := { s.alert with state := .quiet, latch := false, raised := none } }))
    ∧ (s.alert.state = .releasing → s.pins.venue = false →
        exec (.alertClear tag) s = .next (settleShort tag 0x52 .done 0 s))
    ∧ (s.alert.state = .onAir → s.pins.venue = false →
        ∃ t, exec (.alertClear tag) s = .next (settleShort tag 0x52 .done 0 t)
          ∧ t.alert = { s.alert with state := .releasing, latch := false, raised := none, chosen := none }
          ∧ t.brightness = { s.brightness with
              effective :=
                if s.brightness.state = .hold ∨ s.brightness.state = .cooling then
                  min s.brightness.requested s.brightness.thermal
                else s.brightness.requested }
          ∧ (s.messages.queue = [] → t.messages = s.messages)
          ∧ (∀ m rest z, s.messages.onAir = none → s.messages.queue = m :: rest → messageZone s = some z →
              z.h = m.height → t.messages = { s.messages with
                queue := rest, onAir := some { msg := m, showing := .notStarted } })
          ∧ Bumps (fun z => z.role = .message ∧ s.messages.onAir = none ∧ t.messages.onAir ≠ none)
              s.sweep.zones t.sweep.zones
          ∧ t = { s with
              alert := t.alert, brightness := t.brightness, messages := t.messages
              status := { s.status with flags := t.status.flags }
              decoder := { s.decoder with latches := t.decoder.latches }
              sweep := { s.sweep with zones := t.sweep.zones }
              path := { s.path with watch := t.path.watch } })
    ∧ ∀ (present : Byte) (addr : Quad) (colour : Pixel),
      let taken (a : Option Nat) : State := { s with alert := { s.alert with standing := a, colour := colour } }
      (present = 0 → exec (.alertStandingSet tag present addr colour) s = .next (settleShort tag 0x50 .done 0 (taken none)))
      ∧ (present = 1 → addr.toNat % 64 = 0 → addr.toNat < 0x400000000 →
          exec (.alertStandingSet tag present addr colour) s = .next (settleShort tag 0x50 .done 0 (taken (some addr.toNat))))
      ∧ (1 < present.toNat ∨ (present = 1 ∧ (addr.toNat % 64 ≠ 0 ∨ 0x400000000 ≤ addr.toNat)) →
          exec (.alertStandingSet tag present addr colour) s = .next (settleShort tag 0x50 .range 0 s))

/-- R172, R173: at a boundary ENGAGING becomes ON_AIR with ALERT_ON_AIR raised, the clip held and the air empty, and
RELEASING becomes QUIET with ALERT_CLEARED raised; QUIET and ON_AIR stay. The latch and the sources stay. R23, R129,
R141, R174: a boundary that finds the alert ON_AIR, with an alert frame or none in progress. The frame is an alert
frame with the raster that R174 chooses, the alert colour as it stands, and one run to fetch; every zone is STALE; the
ribbons hold; no exposure entry changes; and the frame header is sent where link-ready is high, else LINK_DOWN is
raised. -/
def Obligations.AlertAtTheBoundary : Prop :=
  (∀ (s : State) (order : List BoundaryTask) (hold : Bool), s.bypass = false →
    ∃ t, exec (.sweepBoundary order hold) s = .next t
      ∧ t.alert = { s.alert with state := t.alert.state, chosen := t.alert.chosen }
      ∧ (s.alert.state = .quiet → t.alert.state = .quiet)
      ∧ (s.alert.state = .onAir → t.alert.state = .onAir)
      ∧ (s.alert.state = .engaging → t.alert.state = .onAir ∧ flagUp .alertOnAir t = true
          ∧ t.messages.onAir = none
          ∧ ∀ c, s.replay.take = false → t.replay.current = some c → c.state ≠ .playing ∧ c.state ≠ .guarded)
      ∧ (s.alert.state = .releasing → t.alert.state = .quiet ∧ flagUp .alertCleared t = true
          ∧ ∀ h, t.sweep.header = some h → ∃ slots, t.sweep.frame = .zones slots))
  ∧ (∀ (s : State) (order : List BoundaryTask) (hold : Bool), s.bypass = false → s.alert.state = .onAir →
    (s.sweep.frame = .none ∨ ∃ x, s.sweep.frame = .alert x) →
    ∃ t, exec (.sweepBoundary order hold) s = .next t
      ∧ t.alert = { s.alert with chosen := t.alert.chosen }
      ∧ t.rotation = s.rotation ∧ t.exposure = s.exposure
      ∧ (t.sweep.header = none → t.sweep.frame = .none ∧ t.alert.chosen = s.alert.chosen)
      ∧ ∀ h, t.sweep.header = some h → ∃ x, t.sweep.frame = .alert x
        ∧ x.raster = t.alert.chosen ∧ x.colour = s.alert.colour ∧ x.closed = false ∧ x.sending = t.pins.linkReady
        ∧ x.fetch.got = []
        ∧ (16 ≤ h.width * h.height → x.fetch.runs =
            match t.alert.chosen, t.pins.linkReady with
            | some a, true => [{ addr := a, lines := h.width * h.height / 16 }]
            | _, _ => [])
        ∧ (∀ z ∈ t.sweep.zones, z.receiver = .stale)
        ∧ (∀ a, t.alert.chosen = some a ↔
            (t.alert.latch = true ∧ t.alert.standing = some a ∧ a + h.width * h.height * 4 ≤ 0x400000000)
              ∨ (t.alert.latch = false
                ∧ t.alert.raised = some { raster := a, width := h.width, height := h.height }))
        ∧ (t.pins.linkReady = false → flagUp .linkDown t = true ∧ t.sweep.link = [])
        ∧ (t.pins.linkReady = true → t.sweep.link = [.header
            { number := t.sweep.number, duty := t.brightness.effective, kind := .alert, width := h.width
              height := h.height, backdrop := h.backdrop }]))

/-- R169, R172, R173: the venue alert line. An assertion loads the debounce timer with 100 while the latch is clear
and no timer runs, and in RELEASING sets the latch and returns the alert to ON_AIR at once; a deassertion stops the
timer; the timer's last event sets the latch and engages a QUIET alert. In bypass only the level is kept. -/
def Obligations.VenueLineIsDebounced : Prop :=
  ∀ (s : State),
    let level (b : Bool) : State := { s with pins := { s.pins with venue := b } }
    let timed (b : Bool) (n : Option Nat) : State := { level b with alert := { s.alert with debounce := n } }
    (s.bypass = true → exec .venueAlertLineAsserted s = .next (level true)
      ∧ exec .venueAlertLineDeasserted s = .next (level false))
    ∧ (s.bypass = false →
      exec .venueAlertLineDeasserted s = .next (timed false none)
      ∧ (s.alert.latch = true ∨ (s.alert.state ≠ .releasing ∧ s.alert.debounce ≠ none) →
          exec .venueAlertLineAsserted s = .next (level true))
      ∧ (s.alert.latch = false → s.alert.state ≠ .releasing → s.alert.debounce = none →
          exec .venueAlertLineAsserted s = .next (timed true (some 100)))
      ∧ (s.alert.latch = false → s.alert.state = .releasing → ∃ t, exec .venueAlertLineAsserted s = .next t
          ∧ AlertEntered { level true with alert := { s.alert with latch := true, debounce := none } } t)
      ∧ (s.alert.latch = false → s.pins.venue = true → s.alert.debounce = some 1 →
        let latched : AlertUnit := { s.alert with latch := true, debounce := none }
        (s.alert.state = .quiet → exec .debounceExpiry s = .next { s with alert := { latched with state := .engaging } })
        ∧ (s.alert.state = .engaging ∨ s.alert.state = .onAir →
            exec .debounceExpiry s = .next { s with alert := latched })
        ∧ (s.alert.state = .releasing → ∃ t, exec .debounceExpiry s = .next t
            ∧ AlertEntered { s with alert := latched } t)))

/-- R176, with R178 for the effective duty: BRIGHTNESS SET. -/
def Obligations.BrightnessSetTakesDuties : Prop :=
  ∀ (s : State) (tag : Half) (requested thermal : Byte), s.bypass = false →
    let good : Prop := 1 ≤ requested.toNat ∧ requested.toNat ≤ 8 ∧ 1 ≤ thermal.toNat ∧ thermal.toNat ≤ 8
    let limited : Prop := s.brightness.state = .hold ∨ s.brightness.state = .cooling
    let taken (duty : Nat) (waiting : Option Nat) : State :=
      { s with brightness :=
          { s.brightness with
            requested := requested.toNat, thermal := duty, pendingThermal := waiting
            effective :=
              if limited then min requested.toNat duty
              else if s.alert.state = .onAir then 8 else requested.toNat } }
    (¬ good → exec (.brightnessSet tag requested thermal) s = .next (settleShort tag 0x60 .range 0 s))
    ∧ (good → ¬ limited ∨ thermal.toNat ≤ s.brightness.thermal →
        exec (.brightnessSet tag requested thermal) s = .next (settleShort tag 0x60 .done 0 (taken thermal.toNat none)))
    ∧ (good → limited → s.brightness.thermal < thermal.toNat →
        exec (.brightnessSet tag requested thermal) s = .next (settleShort tag 0x60 .done 0
          (taken s.brightness.thermal (some thermal.toNat))))

/-- R177, R178: the cabinet heat line and its two timers; WARM_TIMER_EXPIRY and COOL_TIMER_EXPIRY are the last
timebase events of their timers (log 9). In bypass only the level is kept. -/
def Obligations.HeatLineMovesTheThermalState : Prop :=
  ∀ (s : State),
    let b := s.brightness
    let level (x : Bool) : State := { s with pins := { s.pins with heat := x } }
    let free (d : Nat) : Nat := if s.alert.state = .onAir then 8 else d
    let moved (x : Bool) (g : BrightnessGovernor) : State := { level x with brightness := g }
    (s.bypass = true → exec .heatLineAsserted s = .next (level true) ∧ exec .heatLineDeasserted s = .next (level false))
    ∧ (s.bypass = false →
      (b.state = .normal → exec .heatLineAsserted s = .next
        (moved true { b with state := .warming, warm := some 2000, effective := free b.requested }))
      ∧ (b.state = .warming → exec .heatLineAsserted s = .next (moved true { b with effective := free b.requested })
        ∧ exec .heatLineDeasserted s = .next
          (moved false { b with state := .normal, warm := none, effective := free b.requested }))
      ∧ (b.state = .hold → exec .heatLineDeasserted s = .next
          (moved false { b with state := .cooling, cool := some 10000, effective := min b.requested b.thermal })
        ∧ exec .heatLineAsserted s = .next (moved true { b with effective := min b.requested b.thermal }))
      ∧ (b.state = .cooling → exec .heatLineAsserted s = .next
          (moved true { b with state := .hold, cool := none, effective := min b.requested b.thermal })
        ∧ exec .heatLineDeasserted s = .next (moved false { b with effective := min b.requested b.thermal }))
      ∧ (b.state = .normal → exec .heatLineDeasserted s = .next (moved false { b with effective := free b.requested }))
      ∧ (b.state = .warming → s.pins.heat = true → b.warm = some 1 → exec .warmTimerExpiry s = .next
          (raise .thermalHold { s with brightness :=
            { b with state := .hold, warm := none, effective := min b.requested b.thermal } }))
      ∧ (b.state = .cooling → s.pins.heat = false → b.cool = some 1 → exec .coolTimerExpiry s = .next
          (raise .thermalRelease { s with brightness :=
            { b with
              state := .normal, cool := none, thermal := b.pendingThermal.getD b.thermal, pendingThermal := none
              effective := free b.requested } })))

/-! ### Invariants -/

/-- Frame memory keeps its one canonical form: rising addresses, and no byte listed that reads as an unlisted one. -/
def Obligations.MemoryStaysCanonical : Prop := KeptByStep (fun s => Memory.wf s.mem)

/-- R18, R61, R65, R69, R178: clocks, slew remainders, the period, scores and underrun counts stay in range, the
effective duty is as the table gives it, and attention latches stand only for enabled flags that stand. -/
def Obligations.ValuesStayInRange : Prop := KeptByStep (fun s => ValuesInRange s ∧ DutyAsTable s ∧ LatchesCovered s)

/-- R26, R143 to R145, R148, R157, R163: every exposure entry balances, at most 64 stand, in ascending order of sponsor
ID; every sponsor ID that a list or a message names has an entry; the forwarding queue stays within 32; the message
queue within 16 and in its order. -/
def Obligations.TablesAndQueuesStayBounded : Prop :=
  KeptByStep (fun s => ExposureBalances s ∧ ExposureOrdered s ∧ SponsorsEntered s ∧ ForwardingBounded s
    ∧ MessagesOrdered s)

/-- R35 to R37: the watch list is always the one that the sources give, rebuilt whenever one of them changes: the ranges
and kinds of each enabled zone's role by zone ID, the HOUSE pairs merged from the highest zone ID down to 40 entries, and
the alert raster last; and a ribbon is always as its state says (R126, R128). -/
def Obligations.WatchListStaysDerived : Prop := KeptByStep WatchDerived

/-- The state after reset meets every invariant above. -/
def Obligations.ResetMeetsTheInvariants : Prop :=
  Memory.wf State.reset.mem ∧ ValuesInRange State.reset ∧ ExposureBalances State.reset ∧ ExposureOrdered State.reset
    ∧ SponsorsEntered State.reset ∧ DutyAsTable State.reset ∧ LatchesCovered State.reset
    ∧ ForwardingBounded State.reset
    ∧ MessagesOrdered State.reset ∧ WatchDerived State.reset
end

