-- ==== Sys2Proof/Laws/Fields.lean ====
section
/-! SUPPORT. Fields of records, bit by bit: what `place` and `field` do. -/

namespace Sys2Proof.Machine

theorem field_getLsbD {n : Nat} (l : BitVec n) (off w i : Nat) :
    (field l off w).getLsbD i = (decide (i < w) && l.getLsbD (8 * off + i)) := by
  simp [field, BitVec.getLsbD_extractLsb']

theorem place_getLsbD {n w : Nat} (l : BitVec n) (off : Nat) (v : BitVec w) (i : Nat) :
    (place l off v).getLsbD i
      = (l.getLsbD i || (decide (i < n) && decide (8 * off ≤ i) && v.getLsbD (i - 8 * off))) := by
  by_cases h1 : i < n
  · by_cases h2 : 8 * off ≤ i
    · have h3 : ¬ i < 8 * off := by omega
      simp [place, h1, h2, h3]
    · have h3 : i < 8 * off := by omega
      simp [place, h1, h2, h3]
  · simp [place, h1]

/-- A field whose bytes were still 0 reads as what is placed there. -/
theorem field_place_self {n w : Nat} (l : BitVec n) (off : Nat) (v : BitVec w) (h : field l off w = 0)
    (fit : 8 * off + w ≤ n) : field (place l off v) off w = v := by
  apply BitVec.eq_of_getLsbD_eq
  intro i hi
  have hl : l.getLsbD (8 * off + i) = false := by
    have e : (field l off w).getLsbD i = (0 : BitVec w).getLsbD i := by rw [h]
    rw [field_getLsbD] at e
    simpa [hi] using e
  have h1 : 8 * off + i < n := by omega
  rw [field_getLsbD, place_getLsbD]
  have e : 8 * off + i - 8 * off = i := by omega
  rw [hl, e]
  simp [h1, hi]

/-- A field that shares no byte with what is placed is left alone. -/
theorem field_place_other {n w w' : Nat} (l : BitVec n) (off off' : Nat) (v : BitVec w')
    (apart : 8 * off + w ≤ 8 * off' ∨ 8 * off' + w' ≤ 8 * off) :
    field (place l off' v) off w = field l off w := by
  apply BitVec.eq_of_getLsbD_eq
  intro i hi
  rw [field_getLsbD, field_getLsbD, place_getLsbD]
  by_cases h1 : 8 * off' ≤ 8 * off + i
  · have : v.getLsbD (8 * off + i - 8 * off') = false := by
      apply BitVec.getLsbD_of_ge
      omega
    simp [this]
  · simp [h1]

theorem field_zero {n : Nat} (off w : Nat) : field (0 : BitVec n) off w = 0 := by
  apply BitVec.eq_of_getLsbD_eq
  intro i hi
  rw [field_getLsbD]
  simp

end Sys2Proof.Machine
end

