-- ==== Sys2Proof/Laws/State.lean ====
section
/-! SUPPORT. What the shared updates of the state leave alone: one lemma a field an update, so that no later proof unfolds a record update. -/

namespace Sys2Proof.Machine

/-! ### raise -/

@[simp] theorem raise_pins (f : Flag) (s : State) :
    (raise f s).pins = s.pins := rfl

@[simp] theorem raise_bypass (f : Flag) (s : State) :
    (raise f s).bypass = s.bypass := rfl

@[simp] theorem raise_initCount (f : Flag) (s : State) :
    (raise f s).initCount = s.initCount := rfl

@[simp] theorem raise_segment (f : Flag) (s : State) :
    (raise f s).segment = s.segment := rfl

@[simp] theorem raise_mem (f : Flag) (s : State) :
    (raise f s).mem = s.mem := rfl

@[simp] theorem raise_path (f : Flag) (s : State) :
    (raise f s).path = s.path := rfl

@[simp] theorem raise_turn (f : Flag) (s : State) :
    (raise f s).turn = s.turn := rfl

@[simp] theorem raise_port (f : Flag) (s : State) :
    (raise f s).port = s.port := rfl

@[simp] theorem raise_sweep (f : Flag) (s : State) :
    (raise f s).sweep = s.sweep := rfl

@[simp] theorem raise_receivers (f : Flag) (s : State) :
    (raise f s).receivers = s.receivers := rfl

@[simp] theorem raise_clock (f : Flag) (s : State) :
    (raise f s).clock = s.clock := rfl

@[simp] theorem raise_figures (f : Flag) (s : State) :
    (raise f s).figures = s.figures := rfl

@[simp] theorem raise_replay (f : Flag) (s : State) :
    (raise f s).replay = s.replay := rfl

@[simp] theorem raise_rotation (f : Flag) (s : State) :
    (raise f s).rotation = s.rotation := rfl

@[simp] theorem raise_exposure (f : Flag) (s : State) :
    (raise f s).exposure = s.exposure := rfl

@[simp] theorem raise_messages (f : Flag) (s : State) :
    (raise f s).messages = s.messages := rfl

@[simp] theorem raise_alert (f : Flag) (s : State) :
    (raise f s).alert = s.alert := rfl

@[simp] theorem raise_brightness (f : Flag) (s : State) :
    (raise f s).brightness = s.brightness := rfl

@[simp] theorem raise_pending (f : Flag) (s : State) :
    (raise f s).pending = s.pending := rfl

@[simp] theorem raise_status_image (f : Flag) (s : State) :
    (raise f s).status.image = s.status.image := rfl

@[simp] theorem raise_status_lines (f : Flag) (s : State) :
    (raise f s).status.lines = s.status.lines := rfl

@[simp] theorem raise_status_captureDue (f : Flag) (s : State) :
    (raise f s).status.captureDue = s.status.captureDue := rfl

@[simp] theorem raise_decoder_lane (f : Flag) (s : State) :
    (raise f s).decoder.lane = s.decoder.lane := rfl

@[simp] theorem raise_decoder_last (f : Flag) (s : State) :
    (raise f s).decoder.last = s.decoder.last := rfl

@[simp] theorem raise_decoder_mask (f : Flag) (s : State) :
    (raise f s).decoder.mask = s.decoder.mask := rfl

/-! ### clearFlags -/

@[simp] theorem clearFlags_pins (m : BitVec 19) (s : State) :
    (clearFlags m s).pins = s.pins := rfl

@[simp] theorem clearFlags_bypass (m : BitVec 19) (s : State) :
    (clearFlags m s).bypass = s.bypass := rfl

@[simp] theorem clearFlags_initCount (m : BitVec 19) (s : State) :
    (clearFlags m s).initCount = s.initCount := rfl

@[simp] theorem clearFlags_segment (m : BitVec 19) (s : State) :
    (clearFlags m s).segment = s.segment := rfl

@[simp] theorem clearFlags_mem (m : BitVec 19) (s : State) :
    (clearFlags m s).mem = s.mem := rfl

@[simp] theorem clearFlags_path (m : BitVec 19) (s : State) :
    (clearFlags m s).path = s.path := rfl

@[simp] theorem clearFlags_turn (m : BitVec 19) (s : State) :
    (clearFlags m s).turn = s.turn := rfl

@[simp] theorem clearFlags_port (m : BitVec 19) (s : State) :
    (clearFlags m s).port = s.port := rfl

@[simp] theorem clearFlags_sweep (m : BitVec 19) (s : State) :
    (clearFlags m s).sweep = s.sweep := rfl

@[simp] theorem clearFlags_receivers (m : BitVec 19) (s : State) :
    (clearFlags m s).receivers = s.receivers := rfl

@[simp] theorem clearFlags_clock (m : BitVec 19) (s : State) :
    (clearFlags m s).clock = s.clock := rfl

@[simp] theorem clearFlags_figures (m : BitVec 19) (s : State) :
    (clearFlags m s).figures = s.figures := rfl

@[simp] theorem clearFlags_replay (m : BitVec 19) (s : State) :
    (clearFlags m s).replay = s.replay := rfl

@[simp] theorem clearFlags_rotation (m : BitVec 19) (s : State) :
    (clearFlags m s).rotation = s.rotation := rfl

@[simp] theorem clearFlags_exposure (m : BitVec 19) (s : State) :
    (clearFlags m s).exposure = s.exposure := rfl

@[simp] theorem clearFlags_messages (m : BitVec 19) (s : State) :
    (clearFlags m s).messages = s.messages := rfl

@[simp] theorem clearFlags_alert (m : BitVec 19) (s : State) :
    (clearFlags m s).alert = s.alert := rfl

@[simp] theorem clearFlags_brightness (m : BitVec 19) (s : State) :
    (clearFlags m s).brightness = s.brightness := rfl

@[simp] theorem clearFlags_pending (m : BitVec 19) (s : State) :
    (clearFlags m s).pending = s.pending := rfl

@[simp] theorem clearFlags_status_image (m : BitVec 19) (s : State) :
    (clearFlags m s).status.image = s.status.image := rfl

@[simp] theorem clearFlags_status_lines (m : BitVec 19) (s : State) :
    (clearFlags m s).status.lines = s.status.lines := rfl

@[simp] theorem clearFlags_status_captureDue (m : BitVec 19) (s : State) :
    (clearFlags m s).status.captureDue = s.status.captureDue := rfl

@[simp] theorem clearFlags_decoder_lane (m : BitVec 19) (s : State) :
    (clearFlags m s).decoder.lane = s.decoder.lane := rfl

@[simp] theorem clearFlags_decoder_last (m : BitVec 19) (s : State) :
    (clearFlags m s).decoder.last = s.decoder.last := rfl

@[simp] theorem clearFlags_decoder_mask (m : BitVec 19) (s : State) :
    (clearFlags m s).decoder.mask = s.decoder.mask := rfl

/-! ### replaceMask -/

@[simp] theorem replaceMask_pins (m : BitVec 19) (s : State) :
    (replaceMask m s).pins = s.pins := rfl

@[simp] theorem replaceMask_bypass (m : BitVec 19) (s : State) :
    (replaceMask m s).bypass = s.bypass := rfl

@[simp] theorem replaceMask_initCount (m : BitVec 19) (s : State) :
    (replaceMask m s).initCount = s.initCount := rfl

@[simp] theorem replaceMask_segment (m : BitVec 19) (s : State) :
    (replaceMask m s).segment = s.segment := rfl

@[simp] theorem replaceMask_mem (m : BitVec 19) (s : State) :
    (replaceMask m s).mem = s.mem := rfl

@[simp] theorem replaceMask_path (m : BitVec 19) (s : State) :
    (replaceMask m s).path = s.path := rfl

@[simp] theorem replaceMask_turn (m : BitVec 19) (s : State) :
    (replaceMask m s).turn = s.turn := rfl

@[simp] theorem replaceMask_port (m : BitVec 19) (s : State) :
    (replaceMask m s).port = s.port := rfl

@[simp] theorem replaceMask_status (m : BitVec 19) (s : State) :
    (replaceMask m s).status = s.status := rfl

@[simp] theorem replaceMask_sweep (m : BitVec 19) (s : State) :
    (replaceMask m s).sweep = s.sweep := rfl

@[simp] theorem replaceMask_receivers (m : BitVec 19) (s : State) :
    (replaceMask m s).receivers = s.receivers := rfl

@[simp] theorem replaceMask_clock (m : BitVec 19) (s : State) :
    (replaceMask m s).clock = s.clock := rfl

@[simp] theorem replaceMask_figures (m : BitVec 19) (s : State) :
    (replaceMask m s).figures = s.figures := rfl

@[simp] theorem replaceMask_replay (m : BitVec 19) (s : State) :
    (replaceMask m s).replay = s.replay := rfl

@[simp] theorem replaceMask_rotation (m : BitVec 19) (s : State) :
    (replaceMask m s).rotation = s.rotation := rfl

@[simp] theorem replaceMask_exposure (m : BitVec 19) (s : State) :
    (replaceMask m s).exposure = s.exposure := rfl

@[simp] theorem replaceMask_messages (m : BitVec 19) (s : State) :
    (replaceMask m s).messages = s.messages := rfl

@[simp] theorem replaceMask_alert (m : BitVec 19) (s : State) :
    (replaceMask m s).alert = s.alert := rfl

@[simp] theorem replaceMask_brightness (m : BitVec 19) (s : State) :
    (replaceMask m s).brightness = s.brightness := rfl

@[simp] theorem replaceMask_pending (m : BitVec 19) (s : State) :
    (replaceMask m s).pending = s.pending := rfl

@[simp] theorem replaceMask_decoder_lane (m : BitVec 19) (s : State) :
    (replaceMask m s).decoder.lane = s.decoder.lane := rfl

@[simp] theorem replaceMask_decoder_last (m : BitVec 19) (s : State) :
    (replaceMask m s).decoder.last = s.decoder.last := rfl

/-! ### restartFlags -/

@[simp] theorem restartFlags_pins (s : State) :
    (restartFlags s).pins = s.pins := rfl

@[simp] theorem restartFlags_bypass (s : State) :
    (restartFlags s).bypass = s.bypass := rfl

@[simp] theorem restartFlags_initCount (s : State) :
    (restartFlags s).initCount = s.initCount := rfl

@[simp] theorem restartFlags_segment (s : State) :
    (restartFlags s).segment = s.segment := rfl

@[simp] theorem restartFlags_mem (s : State) :
    (restartFlags s).mem = s.mem := rfl

@[simp] theorem restartFlags_path (s : State) :
    (restartFlags s).path = s.path := rfl

@[simp] theorem restartFlags_turn (s : State) :
    (restartFlags s).turn = s.turn := rfl

@[simp] theorem restartFlags_port (s : State) :
    (restartFlags s).port = s.port := rfl

@[simp] theorem restartFlags_sweep (s : State) :
    (restartFlags s).sweep = s.sweep := rfl

@[simp] theorem restartFlags_receivers (s : State) :
    (restartFlags s).receivers = s.receivers := rfl

@[simp] theorem restartFlags_clock (s : State) :
    (restartFlags s).clock = s.clock := rfl

@[simp] theorem restartFlags_figures (s : State) :
    (restartFlags s).figures = s.figures := rfl

@[simp] theorem restartFlags_replay (s : State) :
    (restartFlags s).replay = s.replay := rfl

@[simp] theorem restartFlags_rotation (s : State) :
    (restartFlags s).rotation = s.rotation := rfl

@[simp] theorem restartFlags_exposure (s : State) :
    (restartFlags s).exposure = s.exposure := rfl

@[simp] theorem restartFlags_messages (s : State) :
    (restartFlags s).messages = s.messages := rfl

@[simp] theorem restartFlags_alert (s : State) :
    (restartFlags s).alert = s.alert := rfl

@[simp] theorem restartFlags_brightness (s : State) :
    (restartFlags s).brightness = s.brightness := rfl

@[simp] theorem restartFlags_pending (s : State) :
    (restartFlags s).pending = s.pending := rfl

@[simp] theorem restartFlags_status_image (s : State) :
    (restartFlags s).status.image = s.status.image := rfl

@[simp] theorem restartFlags_status_lines (s : State) :
    (restartFlags s).status.lines = s.status.lines := rfl

@[simp] theorem restartFlags_status_captureDue (s : State) :
    (restartFlags s).status.captureDue = s.status.captureDue := rfl

@[simp] theorem restartFlags_decoder_lane (s : State) :
    (restartFlags s).decoder.lane = s.decoder.lane := rfl

@[simp] theorem restartFlags_decoder_last (s : State) :
    (restartFlags s).decoder.last = s.decoder.last := rfl

/-! ### writeLine -/

@[simp] theorem writeLine_pins (a : Nat) (d : Line) (k : Mask) (s : State) :
    (writeLine a d k s).pins = s.pins := rfl

@[simp] theorem writeLine_bypass (a : Nat) (d : Line) (k : Mask) (s : State) :
    (writeLine a d k s).bypass = s.bypass := rfl

@[simp] theorem writeLine_initCount (a : Nat) (d : Line) (k : Mask) (s : State) :
    (writeLine a d k s).initCount = s.initCount := rfl

@[simp] theorem writeLine_segment (a : Nat) (d : Line) (k : Mask) (s : State) :
    (writeLine a d k s).segment = s.segment := rfl

@[simp] theorem writeLine_path (a : Nat) (d : Line) (k : Mask) (s : State) :
    (writeLine a d k s).path = s.path := rfl

@[simp] theorem writeLine_turn (a : Nat) (d : Line) (k : Mask) (s : State) :
    (writeLine a d k s).turn = s.turn := rfl

@[simp] theorem writeLine_port (a : Nat) (d : Line) (k : Mask) (s : State) :
    (writeLine a d k s).port = s.port := rfl

@[simp] theorem writeLine_decoder (a : Nat) (d : Line) (k : Mask) (s : State) :
    (writeLine a d k s).decoder = s.decoder := rfl

@[simp] theorem writeLine_status (a : Nat) (d : Line) (k : Mask) (s : State) :
    (writeLine a d k s).status = s.status := rfl

@[simp] theorem writeLine_sweep (a : Nat) (d : Line) (k : Mask) (s : State) :
    (writeLine a d k s).sweep = s.sweep := rfl

@[simp] theorem writeLine_receivers (a : Nat) (d : Line) (k : Mask) (s : State) :
    (writeLine a d k s).receivers = s.receivers := rfl

@[simp] theorem writeLine_clock (a : Nat) (d : Line) (k : Mask) (s : State) :
    (writeLine a d k s).clock = s.clock := rfl

@[simp] theorem writeLine_figures (a : Nat) (d : Line) (k : Mask) (s : State) :
    (writeLine a d k s).figures = s.figures := rfl

@[simp] theorem writeLine_replay (a : Nat) (d : Line) (k : Mask) (s : State) :
    (writeLine a d k s).replay = s.replay := rfl

@[simp] theorem writeLine_rotation (a : Nat) (d : Line) (k : Mask) (s : State) :
    (writeLine a d k s).rotation = s.rotation := rfl

@[simp] theorem writeLine_exposure (a : Nat) (d : Line) (k : Mask) (s : State) :
    (writeLine a d k s).exposure = s.exposure := rfl

@[simp] theorem writeLine_messages (a : Nat) (d : Line) (k : Mask) (s : State) :
    (writeLine a d k s).messages = s.messages := rfl

@[simp] theorem writeLine_alert (a : Nat) (d : Line) (k : Mask) (s : State) :
    (writeLine a d k s).alert = s.alert := rfl

@[simp] theorem writeLine_brightness (a : Nat) (d : Line) (k : Mask) (s : State) :
    (writeLine a d k s).brightness = s.brightness := rfl

@[simp] theorem writeLine_pending (a : Nat) (d : Line) (k : Mask) (s : State) :
    (writeLine a d k s).pending = s.pending := rfl

/-! ### writeWhole -/

@[simp] theorem writeWhole_pins (a : Nat) (d : Line) (s : State) :
    (writeWhole a d s).pins = s.pins :=
  writeLine_pins a d fullMask s

@[simp] theorem writeWhole_bypass (a : Nat) (d : Line) (s : State) :
    (writeWhole a d s).bypass = s.bypass :=
  writeLine_bypass a d fullMask s

@[simp] theorem writeWhole_initCount (a : Nat) (d : Line) (s : State) :
    (writeWhole a d s).initCount = s.initCount :=
  writeLine_initCount a d fullMask s

@[simp] theorem writeWhole_segment (a : Nat) (d : Line) (s : State) :
    (writeWhole a d s).segment = s.segment :=
  writeLine_segment a d fullMask s

@[simp] theorem writeWhole_path (a : Nat) (d : Line) (s : State) :
    (writeWhole a d s).path = s.path :=
  writeLine_path a d fullMask s

@[simp] theorem writeWhole_turn (a : Nat) (d : Line) (s : State) :
    (writeWhole a d s).turn = s.turn :=
  writeLine_turn a d fullMask s

@[simp] theorem writeWhole_port (a : Nat) (d : Line) (s : State) :
    (writeWhole a d s).port = s.port :=
  writeLine_port a d fullMask s

@[simp] theorem writeWhole_decoder (a : Nat) (d : Line) (s : State) :
    (writeWhole a d s).decoder = s.decoder :=
  writeLine_decoder a d fullMask s

@[simp] theorem writeWhole_status (a : Nat) (d : Line) (s : State) :
    (writeWhole a d s).status = s.status :=
  writeLine_status a d fullMask s

@[simp] theorem writeWhole_sweep (a : Nat) (d : Line) (s : State) :
    (writeWhole a d s).sweep = s.sweep :=
  writeLine_sweep a d fullMask s

@[simp] theorem writeWhole_receivers (a : Nat) (d : Line) (s : State) :
    (writeWhole a d s).receivers = s.receivers :=
  writeLine_receivers a d fullMask s

@[simp] theorem writeWhole_clock (a : Nat) (d : Line) (s : State) :
    (writeWhole a d s).clock = s.clock :=
  writeLine_clock a d fullMask s

@[simp] theorem writeWhole_figures (a : Nat) (d : Line) (s : State) :
    (writeWhole a d s).figures = s.figures :=
  writeLine_figures a d fullMask s

@[simp] theorem writeWhole_replay (a : Nat) (d : Line) (s : State) :
    (writeWhole a d s).replay = s.replay :=
  writeLine_replay a d fullMask s

@[simp] theorem writeWhole_rotation (a : Nat) (d : Line) (s : State) :
    (writeWhole a d s).rotation = s.rotation :=
  writeLine_rotation a d fullMask s

@[simp] theorem writeWhole_exposure (a : Nat) (d : Line) (s : State) :
    (writeWhole a d s).exposure = s.exposure :=
  writeLine_exposure a d fullMask s

@[simp] theorem writeWhole_messages (a : Nat) (d : Line) (s : State) :
    (writeWhole a d s).messages = s.messages :=
  writeLine_messages a d fullMask s

@[simp] theorem writeWhole_alert (a : Nat) (d : Line) (s : State) :
    (writeWhole a d s).alert = s.alert :=
  writeLine_alert a d fullMask s

@[simp] theorem writeWhole_brightness (a : Nat) (d : Line) (s : State) :
    (writeWhole a d s).brightness = s.brightness :=
  writeLine_brightness a d fullMask s

@[simp] theorem writeWhole_pending (a : Nat) (d : Line) (s : State) :
    (writeWhole a d s).pending = s.pending :=
  writeLine_pending a d fullMask s

/-! ### acceptLong -/

@[simp] theorem acceptLong_pins (c : LongCue) (t : Half) (p : LanePhase) (s : State) :
    (acceptLong c t p s).pins = s.pins := rfl

@[simp] theorem acceptLong_bypass (c : LongCue) (t : Half) (p : LanePhase) (s : State) :
    (acceptLong c t p s).bypass = s.bypass := rfl

@[simp] theorem acceptLong_initCount (c : LongCue) (t : Half) (p : LanePhase) (s : State) :
    (acceptLong c t p s).initCount = s.initCount := rfl

@[simp] theorem acceptLong_segment (c : LongCue) (t : Half) (p : LanePhase) (s : State) :
    (acceptLong c t p s).segment = s.segment := rfl

@[simp] theorem acceptLong_mem (c : LongCue) (t : Half) (p : LanePhase) (s : State) :
    (acceptLong c t p s).mem = s.mem := rfl

@[simp] theorem acceptLong_path (c : LongCue) (t : Half) (p : LanePhase) (s : State) :
    (acceptLong c t p s).path = s.path := rfl

@[simp] theorem acceptLong_turn (c : LongCue) (t : Half) (p : LanePhase) (s : State) :
    (acceptLong c t p s).turn = s.turn := rfl

@[simp] theorem acceptLong_port (c : LongCue) (t : Half) (p : LanePhase) (s : State) :
    (acceptLong c t p s).port = s.port := rfl

@[simp] theorem acceptLong_status (c : LongCue) (t : Half) (p : LanePhase) (s : State) :
    (acceptLong c t p s).status = s.status := rfl

@[simp] theorem acceptLong_sweep (c : LongCue) (t : Half) (p : LanePhase) (s : State) :
    (acceptLong c t p s).sweep = s.sweep := rfl

@[simp] theorem acceptLong_receivers (c : LongCue) (t : Half) (p : LanePhase) (s : State) :
    (acceptLong c t p s).receivers = s.receivers := rfl

@[simp] theorem acceptLong_clock (c : LongCue) (t : Half) (p : LanePhase) (s : State) :
    (acceptLong c t p s).clock = s.clock := rfl

@[simp] theorem acceptLong_figures (c : LongCue) (t : Half) (p : LanePhase) (s : State) :
    (acceptLong c t p s).figures = s.figures := rfl

@[simp] theorem acceptLong_replay (c : LongCue) (t : Half) (p : LanePhase) (s : State) :
    (acceptLong c t p s).replay = s.replay := rfl

@[simp] theorem acceptLong_rotation (c : LongCue) (t : Half) (p : LanePhase) (s : State) :
    (acceptLong c t p s).rotation = s.rotation := rfl

@[simp] theorem acceptLong_exposure (c : LongCue) (t : Half) (p : LanePhase) (s : State) :
    (acceptLong c t p s).exposure = s.exposure := rfl

@[simp] theorem acceptLong_messages (c : LongCue) (t : Half) (p : LanePhase) (s : State) :
    (acceptLong c t p s).messages = s.messages := rfl

@[simp] theorem acceptLong_alert (c : LongCue) (t : Half) (p : LanePhase) (s : State) :
    (acceptLong c t p s).alert = s.alert := rfl

@[simp] theorem acceptLong_brightness (c : LongCue) (t : Half) (p : LanePhase) (s : State) :
    (acceptLong c t p s).brightness = s.brightness := rfl

@[simp] theorem acceptLong_pending (c : LongCue) (t : Half) (p : LanePhase) (s : State) :
    (acceptLong c t p s).pending = s.pending := rfl

@[simp] theorem acceptLong_decoder_last (c : LongCue) (t : Half) (p : LanePhase) (s : State) :
    (acceptLong c t p s).decoder.last = s.decoder.last := rfl

@[simp] theorem acceptLong_decoder_mask (c : LongCue) (t : Half) (p : LanePhase) (s : State) :
    (acceptLong c t p s).decoder.mask = s.decoder.mask := rfl

@[simp] theorem acceptLong_decoder_latches (c : LongCue) (t : Half) (p : LanePhase) (s : State) :
    (acceptLong c t p s).decoder.latches = s.decoder.latches := rfl

/-! ### setPhase -/

@[simp] theorem setPhase_pins (p : LanePhase) (s : State) :
    (setPhase p s).pins = s.pins := rfl

@[simp] theorem setPhase_bypass (p : LanePhase) (s : State) :
    (setPhase p s).bypass = s.bypass := rfl

@[simp] theorem setPhase_initCount (p : LanePhase) (s : State) :
    (setPhase p s).initCount = s.initCount := rfl

@[simp] theorem setPhase_segment (p : LanePhase) (s : State) :
    (setPhase p s).segment = s.segment := rfl

@[simp] theorem setPhase_mem (p : LanePhase) (s : State) :
    (setPhase p s).mem = s.mem := rfl

@[simp] theorem setPhase_path (p : LanePhase) (s : State) :
    (setPhase p s).path = s.path := rfl

@[simp] theorem setPhase_turn (p : LanePhase) (s : State) :
    (setPhase p s).turn = s.turn := rfl

@[simp] theorem setPhase_port (p : LanePhase) (s : State) :
    (setPhase p s).port = s.port := rfl

@[simp] theorem setPhase_status (p : LanePhase) (s : State) :
    (setPhase p s).status = s.status := rfl

@[simp] theorem setPhase_sweep (p : LanePhase) (s : State) :
    (setPhase p s).sweep = s.sweep := rfl

@[simp] theorem setPhase_receivers (p : LanePhase) (s : State) :
    (setPhase p s).receivers = s.receivers := rfl

@[simp] theorem setPhase_clock (p : LanePhase) (s : State) :
    (setPhase p s).clock = s.clock := rfl

@[simp] theorem setPhase_figures (p : LanePhase) (s : State) :
    (setPhase p s).figures = s.figures := rfl

@[simp] theorem setPhase_replay (p : LanePhase) (s : State) :
    (setPhase p s).replay = s.replay := rfl

@[simp] theorem setPhase_rotation (p : LanePhase) (s : State) :
    (setPhase p s).rotation = s.rotation := rfl

@[simp] theorem setPhase_exposure (p : LanePhase) (s : State) :
    (setPhase p s).exposure = s.exposure := rfl

@[simp] theorem setPhase_messages (p : LanePhase) (s : State) :
    (setPhase p s).messages = s.messages := rfl

@[simp] theorem setPhase_alert (p : LanePhase) (s : State) :
    (setPhase p s).alert = s.alert := rfl

@[simp] theorem setPhase_brightness (p : LanePhase) (s : State) :
    (setPhase p s).brightness = s.brightness := rfl

@[simp] theorem setPhase_pending (p : LanePhase) (s : State) :
    (setPhase p s).pending = s.pending := rfl

@[simp] theorem setPhase_decoder_last (p : LanePhase) (s : State) :
    (setPhase p s).decoder.last = s.decoder.last := rfl

@[simp] theorem setPhase_decoder_mask (p : LanePhase) (s : State) :
    (setPhase p s).decoder.mask = s.decoder.mask := rfl

@[simp] theorem setPhase_decoder_latches (p : LanePhase) (s : State) :
    (setPhase p s).decoder.latches = s.decoder.latches := rfl

/-! ### setRecords -/

@[simp] theorem setRecords_pins (n : Nat) (s : State) :
    (setRecords n s).pins = s.pins := rfl

@[simp] theorem setRecords_bypass (n : Nat) (s : State) :
    (setRecords n s).bypass = s.bypass := rfl

@[simp] theorem setRecords_initCount (n : Nat) (s : State) :
    (setRecords n s).initCount = s.initCount := rfl

@[simp] theorem setRecords_segment (n : Nat) (s : State) :
    (setRecords n s).segment = s.segment := rfl

@[simp] theorem setRecords_mem (n : Nat) (s : State) :
    (setRecords n s).mem = s.mem := rfl

@[simp] theorem setRecords_path (n : Nat) (s : State) :
    (setRecords n s).path = s.path := rfl

@[simp] theorem setRecords_turn (n : Nat) (s : State) :
    (setRecords n s).turn = s.turn := rfl

@[simp] theorem setRecords_port (n : Nat) (s : State) :
    (setRecords n s).port = s.port := rfl

@[simp] theorem setRecords_status (n : Nat) (s : State) :
    (setRecords n s).status = s.status := rfl

@[simp] theorem setRecords_sweep (n : Nat) (s : State) :
    (setRecords n s).sweep = s.sweep := rfl

@[simp] theorem setRecords_receivers (n : Nat) (s : State) :
    (setRecords n s).receivers = s.receivers := rfl

@[simp] theorem setRecords_clock (n : Nat) (s : State) :
    (setRecords n s).clock = s.clock := rfl

@[simp] theorem setRecords_figures (n : Nat) (s : State) :
    (setRecords n s).figures = s.figures := rfl

@[simp] theorem setRecords_replay (n : Nat) (s : State) :
    (setRecords n s).replay = s.replay := rfl

@[simp] theorem setRecords_rotation (n : Nat) (s : State) :
    (setRecords n s).rotation = s.rotation := rfl

@[simp] theorem setRecords_exposure (n : Nat) (s : State) :
    (setRecords n s).exposure = s.exposure := rfl

@[simp] theorem setRecords_messages (n : Nat) (s : State) :
    (setRecords n s).messages = s.messages := rfl

@[simp] theorem setRecords_alert (n : Nat) (s : State) :
    (setRecords n s).alert = s.alert := rfl

@[simp] theorem setRecords_brightness (n : Nat) (s : State) :
    (setRecords n s).brightness = s.brightness := rfl

@[simp] theorem setRecords_pending (n : Nat) (s : State) :
    (setRecords n s).pending = s.pending := rfl

@[simp] theorem setRecords_decoder_last (n : Nat) (s : State) :
    (setRecords n s).decoder.last = s.decoder.last := rfl

@[simp] theorem setRecords_decoder_mask (n : Nat) (s : State) :
    (setRecords n s).decoder.mask = s.decoder.mask := rfl

@[simp] theorem setRecords_decoder_latches (n : Nat) (s : State) :
    (setRecords n s).decoder.latches = s.decoder.latches := rfl

/-! ### settleLong -/

@[simp] theorem settleLong_pins (r : Result) (d : Nat) (s : State) :
    (settleLong r d s).pins = s.pins := rfl

@[simp] theorem settleLong_bypass (r : Result) (d : Nat) (s : State) :
    (settleLong r d s).bypass = s.bypass := rfl

@[simp] theorem settleLong_initCount (r : Result) (d : Nat) (s : State) :
    (settleLong r d s).initCount = s.initCount := rfl

@[simp] theorem settleLong_segment (r : Result) (d : Nat) (s : State) :
    (settleLong r d s).segment = s.segment := rfl

@[simp] theorem settleLong_mem (r : Result) (d : Nat) (s : State) :
    (settleLong r d s).mem = s.mem := rfl

@[simp] theorem settleLong_path (r : Result) (d : Nat) (s : State) :
    (settleLong r d s).path = s.path := rfl

@[simp] theorem settleLong_turn (r : Result) (d : Nat) (s : State) :
    (settleLong r d s).turn = s.turn := rfl

@[simp] theorem settleLong_port (r : Result) (d : Nat) (s : State) :
    (settleLong r d s).port = s.port := rfl

@[simp] theorem settleLong_status (r : Result) (d : Nat) (s : State) :
    (settleLong r d s).status = s.status := rfl

@[simp] theorem settleLong_sweep (r : Result) (d : Nat) (s : State) :
    (settleLong r d s).sweep = s.sweep := rfl

@[simp] theorem settleLong_receivers (r : Result) (d : Nat) (s : State) :
    (settleLong r d s).receivers = s.receivers := rfl

@[simp] theorem settleLong_clock (r : Result) (d : Nat) (s : State) :
    (settleLong r d s).clock = s.clock := rfl

@[simp] theorem settleLong_figures (r : Result) (d : Nat) (s : State) :
    (settleLong r d s).figures = s.figures := rfl

@[simp] theorem settleLong_replay (r : Result) (d : Nat) (s : State) :
    (settleLong r d s).replay = s.replay := rfl

@[simp] theorem settleLong_rotation (r : Result) (d : Nat) (s : State) :
    (settleLong r d s).rotation = s.rotation := rfl

@[simp] theorem settleLong_exposure (r : Result) (d : Nat) (s : State) :
    (settleLong r d s).exposure = s.exposure := rfl

@[simp] theorem settleLong_messages (r : Result) (d : Nat) (s : State) :
    (settleLong r d s).messages = s.messages := rfl

@[simp] theorem settleLong_alert (r : Result) (d : Nat) (s : State) :
    (settleLong r d s).alert = s.alert := rfl

@[simp] theorem settleLong_brightness (r : Result) (d : Nat) (s : State) :
    (settleLong r d s).brightness = s.brightness := rfl

@[simp] theorem settleLong_pending (r : Result) (d : Nat) (s : State) :
    (settleLong r d s).pending = s.pending := rfl

@[simp] theorem settleLong_decoder_last (r : Result) (d : Nat) (s : State) :
    (settleLong r d s).decoder.last = s.decoder.last := rfl

@[simp] theorem settleLong_decoder_mask (r : Result) (d : Nat) (s : State) :
    (settleLong r d s).decoder.mask = s.decoder.mask := rfl

@[simp] theorem settleLong_decoder_latches (r : Result) (d : Nat) (s : State) :
    (settleLong r d s).decoder.latches = s.decoder.latches := rfl

/-! ### discardWork -/

@[simp] theorem discardWork_pins (s : State) :
    (discardWork s).pins = s.pins := rfl

@[simp] theorem discardWork_bypass (s : State) :
    (discardWork s).bypass = s.bypass := rfl

@[simp] theorem discardWork_initCount (s : State) :
    (discardWork s).initCount = s.initCount := rfl

@[simp] theorem discardWork_segment (s : State) :
    (discardWork s).segment = s.segment := rfl

@[simp] theorem discardWork_mem (s : State) :
    (discardWork s).mem = s.mem := rfl

@[simp] theorem discardWork_path (s : State) :
    (discardWork s).path = s.path := rfl

@[simp] theorem discardWork_turn (s : State) :
    (discardWork s).turn = s.turn := rfl

@[simp] theorem discardWork_port (s : State) :
    (discardWork s).port = s.port := rfl

@[simp] theorem discardWork_decoder (s : State) :
    (discardWork s).decoder = s.decoder := rfl

@[simp] theorem discardWork_status (s : State) :
    (discardWork s).status = s.status := rfl

@[simp] theorem discardWork_receivers (s : State) :
    (discardWork s).receivers = s.receivers := rfl

@[simp] theorem discardWork_clock (s : State) :
    (discardWork s).clock = s.clock := rfl

@[simp] theorem discardWork_exposure (s : State) :
    (discardWork s).exposure = s.exposure := rfl

@[simp] theorem discardWork_messages (s : State) :
    (discardWork s).messages = s.messages := rfl

@[simp] theorem discardWork_alert (s : State) :
    (discardWork s).alert = s.alert := rfl

@[simp] theorem discardWork_brightness (s : State) :
    (discardWork s).brightness = s.brightness := rfl

@[simp] theorem discardWork_pending (s : State) :
    (discardWork s).pending = s.pending := rfl

@[simp] theorem discardWork_sweep_number (s : State) :
    (discardWork s).sweep.number = s.sweep.number := rfl

@[simp] theorem discardWork_sweep_header (s : State) :
    (discardWork s).sweep.header = s.sweep.header := rfl

@[simp] theorem discardWork_sweep_zones (s : State) :
    (discardWork s).sweep.zones = s.sweep.zones := rfl

@[simp] theorem discardWork_sweep_frame (s : State) :
    (discardWork s).sweep.frame = s.sweep.frame := rfl

@[simp] theorem discardWork_sweep_rate (s : State) :
    (discardWork s).sweep.rate = s.sweep.rate := rfl

@[simp] theorem discardWork_figures_glyphs (s : State) :
    (discardWork s).figures.glyphs = s.figures.glyphs := rfl

@[simp] theorem discardWork_figures_strings (s : State) :
    (discardWork s).figures.strings = s.figures.strings := rfl

@[simp] theorem discardWork_replay_current (s : State) :
    (discardWork s).replay.current = s.replay.current := rfl

@[simp] theorem discardWork_replay_onDeck (s : State) :
    (discardWork s).replay.onDeck = s.replay.onDeck := rfl

@[simp] theorem discardWork_replay_take (s : State) :
    (discardWork s).replay.take = s.replay.take := rfl

@[simp] theorem discardWork_rotation_a (s : State) :
    (discardWork s).rotation.a = s.rotation.a := rfl

@[simp] theorem discardWork_rotation_b (s : State) :
    (discardWork s).rotation.b = s.rotation.b := rfl

/-! ### dropSweep -/

@[simp] theorem dropSweep_pins (s : State) :
    (dropSweep s).pins = s.pins := rfl

@[simp] theorem dropSweep_bypass (s : State) :
    (dropSweep s).bypass = s.bypass := rfl

@[simp] theorem dropSweep_initCount (s : State) :
    (dropSweep s).initCount = s.initCount := rfl

@[simp] theorem dropSweep_segment (s : State) :
    (dropSweep s).segment = s.segment := rfl

@[simp] theorem dropSweep_mem (s : State) :
    (dropSweep s).mem = s.mem := rfl

@[simp] theorem dropSweep_path (s : State) :
    (dropSweep s).path = s.path := rfl

@[simp] theorem dropSweep_turn (s : State) :
    (dropSweep s).turn = s.turn := rfl

@[simp] theorem dropSweep_decoder (s : State) :
    (dropSweep s).decoder = s.decoder := rfl

@[simp] theorem dropSweep_status (s : State) :
    (dropSweep s).status = s.status := rfl

@[simp] theorem dropSweep_sweep (s : State) :
    (dropSweep s).sweep = s.sweep := rfl

@[simp] theorem dropSweep_receivers (s : State) :
    (dropSweep s).receivers = s.receivers := rfl

@[simp] theorem dropSweep_clock (s : State) :
    (dropSweep s).clock = s.clock := rfl

@[simp] theorem dropSweep_figures (s : State) :
    (dropSweep s).figures = s.figures := rfl

@[simp] theorem dropSweep_replay (s : State) :
    (dropSweep s).replay = s.replay := rfl

@[simp] theorem dropSweep_rotation (s : State) :
    (dropSweep s).rotation = s.rotation := rfl

@[simp] theorem dropSweep_exposure (s : State) :
    (dropSweep s).exposure = s.exposure := rfl

@[simp] theorem dropSweep_messages (s : State) :
    (dropSweep s).messages = s.messages := rfl

@[simp] theorem dropSweep_alert (s : State) :
    (dropSweep s).alert = s.alert := rfl

@[simp] theorem dropSweep_brightness (s : State) :
    (dropSweep s).brightness = s.brightness := rfl

@[simp] theorem dropSweep_pending (s : State) :
    (dropSweep s).pending = s.pending := rfl

/-! ### dropRecord -/

@[simp] theorem dropRecord_pins (s : State) :
    (dropRecord s).pins = s.pins := rfl

@[simp] theorem dropRecord_bypass (s : State) :
    (dropRecord s).bypass = s.bypass := rfl

@[simp] theorem dropRecord_initCount (s : State) :
    (dropRecord s).initCount = s.initCount := rfl

@[simp] theorem dropRecord_segment (s : State) :
    (dropRecord s).segment = s.segment := rfl

@[simp] theorem dropRecord_mem (s : State) :
    (dropRecord s).mem = s.mem := rfl

@[simp] theorem dropRecord_path (s : State) :
    (dropRecord s).path = s.path := rfl

@[simp] theorem dropRecord_turn (s : State) :
    (dropRecord s).turn = s.turn := rfl

@[simp] theorem dropRecord_decoder (s : State) :
    (dropRecord s).decoder = s.decoder := rfl

@[simp] theorem dropRecord_status (s : State) :
    (dropRecord s).status = s.status := rfl

@[simp] theorem dropRecord_sweep (s : State) :
    (dropRecord s).sweep = s.sweep := rfl

@[simp] theorem dropRecord_receivers (s : State) :
    (dropRecord s).receivers = s.receivers := rfl

@[simp] theorem dropRecord_clock (s : State) :
    (dropRecord s).clock = s.clock := rfl

@[simp] theorem dropRecord_figures (s : State) :
    (dropRecord s).figures = s.figures := rfl

@[simp] theorem dropRecord_replay (s : State) :
    (dropRecord s).replay = s.replay := rfl

@[simp] theorem dropRecord_rotation (s : State) :
    (dropRecord s).rotation = s.rotation := rfl

@[simp] theorem dropRecord_exposure (s : State) :
    (dropRecord s).exposure = s.exposure := rfl

@[simp] theorem dropRecord_messages (s : State) :
    (dropRecord s).messages = s.messages := rfl

@[simp] theorem dropRecord_alert (s : State) :
    (dropRecord s).alert = s.alert := rfl

@[simp] theorem dropRecord_brightness (s : State) :
    (dropRecord s).brightness = s.brightness := rfl

@[simp] theorem dropRecord_pending (s : State) :
    (dropRecord s).pending = s.pending := rfl

/-! ### dropFlight -/

@[simp] theorem dropFlight_pins (s : State) :
    (dropFlight s).pins = s.pins := rfl

@[simp] theorem dropFlight_bypass (s : State) :
    (dropFlight s).bypass = s.bypass := rfl

@[simp] theorem dropFlight_initCount (s : State) :
    (dropFlight s).initCount = s.initCount := rfl

@[simp] theorem dropFlight_segment (s : State) :
    (dropFlight s).segment = s.segment := rfl

@[simp] theorem dropFlight_mem (s : State) :
    (dropFlight s).mem = s.mem := rfl

@[simp] theorem dropFlight_path (s : State) :
    (dropFlight s).path = s.path := rfl

@[simp] theorem dropFlight_turn (s : State) :
    (dropFlight s).turn = s.turn := rfl

@[simp] theorem dropFlight_decoder (s : State) :
    (dropFlight s).decoder = s.decoder := rfl

@[simp] theorem dropFlight_status (s : State) :
    (dropFlight s).status = s.status := rfl

@[simp] theorem dropFlight_sweep (s : State) :
    (dropFlight s).sweep = s.sweep := rfl

@[simp] theorem dropFlight_receivers (s : State) :
    (dropFlight s).receivers = s.receivers := rfl

@[simp] theorem dropFlight_clock (s : State) :
    (dropFlight s).clock = s.clock := rfl

@[simp] theorem dropFlight_figures (s : State) :
    (dropFlight s).figures = s.figures := rfl

@[simp] theorem dropFlight_replay (s : State) :
    (dropFlight s).replay = s.replay := rfl

@[simp] theorem dropFlight_rotation (s : State) :
    (dropFlight s).rotation = s.rotation := rfl

@[simp] theorem dropFlight_exposure (s : State) :
    (dropFlight s).exposure = s.exposure := rfl

@[simp] theorem dropFlight_messages (s : State) :
    (dropFlight s).messages = s.messages := rfl

@[simp] theorem dropFlight_alert (s : State) :
    (dropFlight s).alert = s.alert := rfl

@[simp] theorem dropFlight_brightness (s : State) :
    (dropFlight s).brightness = s.brightness := rfl

@[simp] theorem dropFlight_pending (s : State) :
    (dropFlight s).pending = s.pending := rfl

/-! ### bumpZones -/

@[simp] theorem bumpZones_pins (p : ZoneRec → Bool) (s : State) :
    (bumpZones p s).pins = s.pins := rfl

@[simp] theorem bumpZones_bypass (p : ZoneRec → Bool) (s : State) :
    (bumpZones p s).bypass = s.bypass := rfl

@[simp] theorem bumpZones_initCount (p : ZoneRec → Bool) (s : State) :
    (bumpZones p s).initCount = s.initCount := rfl

@[simp] theorem bumpZones_segment (p : ZoneRec → Bool) (s : State) :
    (bumpZones p s).segment = s.segment := rfl

@[simp] theorem bumpZones_mem (p : ZoneRec → Bool) (s : State) :
    (bumpZones p s).mem = s.mem := rfl

@[simp] theorem bumpZones_path (p : ZoneRec → Bool) (s : State) :
    (bumpZones p s).path = s.path := rfl

@[simp] theorem bumpZones_turn (p : ZoneRec → Bool) (s : State) :
    (bumpZones p s).turn = s.turn := rfl

@[simp] theorem bumpZones_port (p : ZoneRec → Bool) (s : State) :
    (bumpZones p s).port = s.port := rfl

@[simp] theorem bumpZones_decoder (p : ZoneRec → Bool) (s : State) :
    (bumpZones p s).decoder = s.decoder := rfl

@[simp] theorem bumpZones_status (p : ZoneRec → Bool) (s : State) :
    (bumpZones p s).status = s.status := rfl

@[simp] theorem bumpZones_receivers (p : ZoneRec → Bool) (s : State) :
    (bumpZones p s).receivers = s.receivers := rfl

@[simp] theorem bumpZones_clock (p : ZoneRec → Bool) (s : State) :
    (bumpZones p s).clock = s.clock := rfl

@[simp] theorem bumpZones_figures (p : ZoneRec → Bool) (s : State) :
    (bumpZones p s).figures = s.figures := rfl

@[simp] theorem bumpZones_replay (p : ZoneRec → Bool) (s : State) :
    (bumpZones p s).replay = s.replay := rfl

@[simp] theorem bumpZones_rotation (p : ZoneRec → Bool) (s : State) :
    (bumpZones p s).rotation = s.rotation := rfl

@[simp] theorem bumpZones_exposure (p : ZoneRec → Bool) (s : State) :
    (bumpZones p s).exposure = s.exposure := rfl

@[simp] theorem bumpZones_messages (p : ZoneRec → Bool) (s : State) :
    (bumpZones p s).messages = s.messages := rfl

@[simp] theorem bumpZones_alert (p : ZoneRec → Bool) (s : State) :
    (bumpZones p s).alert = s.alert := rfl

@[simp] theorem bumpZones_brightness (p : ZoneRec → Bool) (s : State) :
    (bumpZones p s).brightness = s.brightness := rfl

@[simp] theorem bumpZones_pending (p : ZoneRec → Bool) (s : State) :
    (bumpZones p s).pending = s.pending := rfl

@[simp] theorem bumpZones_sweep_number (p : ZoneRec → Bool) (s : State) :
    (bumpZones p s).sweep.number = s.sweep.number := rfl

@[simp] theorem bumpZones_sweep_header (p : ZoneRec → Bool) (s : State) :
    (bumpZones p s).sweep.header = s.sweep.header := rfl

@[simp] theorem bumpZones_sweep_load (p : ZoneRec → Bool) (s : State) :
    (bumpZones p s).sweep.load = s.sweep.load := rfl

@[simp] theorem bumpZones_sweep_frame (p : ZoneRec → Bool) (s : State) :
    (bumpZones p s).sweep.frame = s.sweep.frame := rfl

@[simp] theorem bumpZones_sweep_duty (p : ZoneRec → Bool) (s : State) :
    (bumpZones p s).sweep.duty = s.sweep.duty := rfl

@[simp] theorem bumpZones_sweep_rate (p : ZoneRec → Bool) (s : State) :
    (bumpZones p s).sweep.rate = s.sweep.rate := rfl

@[simp] theorem bumpZones_sweep_link (p : ZoneRec → Bool) (s : State) :
    (bumpZones p s).sweep.link = s.sweep.link := rfl

/-! ### allStale -/

@[simp] theorem allStale_pins (s : State) :
    (allStale s).pins = s.pins := rfl

@[simp] theorem allStale_bypass (s : State) :
    (allStale s).bypass = s.bypass := rfl

@[simp] theorem allStale_initCount (s : State) :
    (allStale s).initCount = s.initCount := rfl

@[simp] theorem allStale_segment (s : State) :
    (allStale s).segment = s.segment := rfl

@[simp] theorem allStale_mem (s : State) :
    (allStale s).mem = s.mem := rfl

@[simp] theorem allStale_path (s : State) :
    (allStale s).path = s.path := rfl

@[simp] theorem allStale_turn (s : State) :
    (allStale s).turn = s.turn := rfl

@[simp] theorem allStale_port (s : State) :
    (allStale s).port = s.port := rfl

@[simp] theorem allStale_decoder (s : State) :
    (allStale s).decoder = s.decoder := rfl

@[simp] theorem allStale_status (s : State) :
    (allStale s).status = s.status := rfl

@[simp] theorem allStale_receivers (s : State) :
    (allStale s).receivers = s.receivers := rfl

@[simp] theorem allStale_clock (s : State) :
    (allStale s).clock = s.clock := rfl

@[simp] theorem allStale_figures (s : State) :
    (allStale s).figures = s.figures := rfl

@[simp] theorem allStale_replay (s : State) :
    (allStale s).replay = s.replay := rfl

@[simp] theorem allStale_rotation (s : State) :
    (allStale s).rotation = s.rotation := rfl

@[simp] theorem allStale_exposure (s : State) :
    (allStale s).exposure = s.exposure := rfl

@[simp] theorem allStale_messages (s : State) :
    (allStale s).messages = s.messages := rfl

@[simp] theorem allStale_alert (s : State) :
    (allStale s).alert = s.alert := rfl

@[simp] theorem allStale_brightness (s : State) :
    (allStale s).brightness = s.brightness := rfl

@[simp] theorem allStale_pending (s : State) :
    (allStale s).pending = s.pending := rfl

@[simp] theorem allStale_sweep_number (s : State) :
    (allStale s).sweep.number = s.sweep.number := rfl

@[simp] theorem allStale_sweep_header (s : State) :
    (allStale s).sweep.header = s.sweep.header := rfl

@[simp] theorem allStale_sweep_load (s : State) :
    (allStale s).sweep.load = s.sweep.load := rfl

@[simp] theorem allStale_sweep_frame (s : State) :
    (allStale s).sweep.frame = s.sweep.frame := rfl

@[simp] theorem allStale_sweep_duty (s : State) :
    (allStale s).sweep.duty = s.sweep.duty := rfl

@[simp] theorem allStale_sweep_rate (s : State) :
    (allStale s).sweep.rate = s.sweep.rate := rfl

@[simp] theorem allStale_sweep_link (s : State) :
    (allStale s).sweep.link = s.sweep.link := rfl

/-! ### rebuildWatch -/

@[simp] theorem rebuildWatch_pins (s : State) :
    (rebuildWatch s).pins = s.pins := rfl

@[simp] theorem rebuildWatch_bypass (s : State) :
    (rebuildWatch s).bypass = s.bypass := rfl

@[simp] theorem rebuildWatch_initCount (s : State) :
    (rebuildWatch s).initCount = s.initCount := rfl

@[simp] theorem rebuildWatch_segment (s : State) :
    (rebuildWatch s).segment = s.segment := rfl

@[simp] theorem rebuildWatch_mem (s : State) :
    (rebuildWatch s).mem = s.mem := rfl

@[simp] theorem rebuildWatch_turn (s : State) :
    (rebuildWatch s).turn = s.turn := rfl

@[simp] theorem rebuildWatch_port (s : State) :
    (rebuildWatch s).port = s.port := rfl

@[simp] theorem rebuildWatch_decoder (s : State) :
    (rebuildWatch s).decoder = s.decoder := rfl

@[simp] theorem rebuildWatch_status (s : State) :
    (rebuildWatch s).status = s.status := rfl

@[simp] theorem rebuildWatch_sweep (s : State) :
    (rebuildWatch s).sweep = s.sweep := rfl

@[simp] theorem rebuildWatch_receivers (s : State) :
    (rebuildWatch s).receivers = s.receivers := rfl

@[simp] theorem rebuildWatch_clock (s : State) :
    (rebuildWatch s).clock = s.clock := rfl

@[simp] theorem rebuildWatch_figures (s : State) :
    (rebuildWatch s).figures = s.figures := rfl

@[simp] theorem rebuildWatch_replay (s : State) :
    (rebuildWatch s).replay = s.replay := rfl

@[simp] theorem rebuildWatch_rotation (s : State) :
    (rebuildWatch s).rotation = s.rotation := rfl

@[simp] theorem rebuildWatch_exposure (s : State) :
    (rebuildWatch s).exposure = s.exposure := rfl

@[simp] theorem rebuildWatch_messages (s : State) :
    (rebuildWatch s).messages = s.messages := rfl

@[simp] theorem rebuildWatch_alert (s : State) :
    (rebuildWatch s).alert = s.alert := rfl

@[simp] theorem rebuildWatch_brightness (s : State) :
    (rebuildWatch s).brightness = s.brightness := rfl

@[simp] theorem rebuildWatch_pending (s : State) :
    (rebuildWatch s).pending = s.pending := rfl

@[simp] theorem rebuildWatch_path_queue (s : State) :
    (rebuildWatch s).path.queue = s.path.queue := rfl

@[simp] theorem rebuildWatch_path_offered (s : State) :
    (rebuildWatch s).path.offered = s.path.offered := rfl

@[simp] theorem rebuildWatch_path_headAnswered (s : State) :
    (rebuildWatch s).path.headAnswered = s.path.headAnswered := rfl

@[simp] theorem rebuildWatch_path_reply (s : State) :
    (rebuildWatch s).path.reply = s.path.reply := rfl

@[simp] theorem rebuildWatch_path_houses (s : State) :
    (rebuildWatch s).path.houses = s.path.houses := rfl

/-! ### reportSlot -/

@[simp] theorem reportSlot_pins (r : SlotReport) (s : State) :
    (reportSlot r s).pins = s.pins := rfl

@[simp] theorem reportSlot_bypass (r : SlotReport) (s : State) :
    (reportSlot r s).bypass = s.bypass := rfl

@[simp] theorem reportSlot_initCount (r : SlotReport) (s : State) :
    (reportSlot r s).initCount = s.initCount := rfl

@[simp] theorem reportSlot_segment (r : SlotReport) (s : State) :
    (reportSlot r s).segment = s.segment := rfl

@[simp] theorem reportSlot_mem (r : SlotReport) (s : State) :
    (reportSlot r s).mem = s.mem := rfl

@[simp] theorem reportSlot_path (r : SlotReport) (s : State) :
    (reportSlot r s).path = s.path := rfl

@[simp] theorem reportSlot_turn (r : SlotReport) (s : State) :
    (reportSlot r s).turn = s.turn := rfl

@[simp] theorem reportSlot_port (r : SlotReport) (s : State) :
    (reportSlot r s).port = s.port := rfl

@[simp] theorem reportSlot_decoder (r : SlotReport) (s : State) :
    (reportSlot r s).decoder = s.decoder := rfl

@[simp] theorem reportSlot_status (r : SlotReport) (s : State) :
    (reportSlot r s).status = s.status := rfl

@[simp] theorem reportSlot_sweep (r : SlotReport) (s : State) :
    (reportSlot r s).sweep = s.sweep := rfl

@[simp] theorem reportSlot_receivers (r : SlotReport) (s : State) :
    (reportSlot r s).receivers = s.receivers := rfl

@[simp] theorem reportSlot_clock (r : SlotReport) (s : State) :
    (reportSlot r s).clock = s.clock := rfl

@[simp] theorem reportSlot_figures (r : SlotReport) (s : State) :
    (reportSlot r s).figures = s.figures := rfl

@[simp] theorem reportSlot_replay (r : SlotReport) (s : State) :
    (reportSlot r s).replay = s.replay := rfl

@[simp] theorem reportSlot_rotation (r : SlotReport) (s : State) :
    (reportSlot r s).rotation = s.rotation := rfl

@[simp] theorem reportSlot_messages (r : SlotReport) (s : State) :
    (reportSlot r s).messages = s.messages := rfl

@[simp] theorem reportSlot_alert (r : SlotReport) (s : State) :
    (reportSlot r s).alert = s.alert := rfl

@[simp] theorem reportSlot_brightness (r : SlotReport) (s : State) :
    (reportSlot r s).brightness = s.brightness := rfl

@[simp] theorem reportSlot_pending (r : SlotReport) (s : State) :
    (reportSlot r s).pending = s.pending := rfl

@[simp] theorem reportSlot_exposure_snapshot (r : SlotReport) (s : State) :
    (reportSlot r s).exposure.snapshot = s.exposure.snapshot := rfl

/-! ### sendItem -/

@[simp] theorem sendItem_pins (i : LinkItem) (s : State) :
    (sendItem i s).pins = s.pins := rfl

@[simp] theorem sendItem_bypass (i : LinkItem) (s : State) :
    (sendItem i s).bypass = s.bypass := rfl

@[simp] theorem sendItem_initCount (i : LinkItem) (s : State) :
    (sendItem i s).initCount = s.initCount := rfl

@[simp] theorem sendItem_segment (i : LinkItem) (s : State) :
    (sendItem i s).segment = s.segment := rfl

@[simp] theorem sendItem_mem (i : LinkItem) (s : State) :
    (sendItem i s).mem = s.mem := rfl

@[simp] theorem sendItem_path (i : LinkItem) (s : State) :
    (sendItem i s).path = s.path := rfl

@[simp] theorem sendItem_turn (i : LinkItem) (s : State) :
    (sendItem i s).turn = s.turn := rfl

@[simp] theorem sendItem_port (i : LinkItem) (s : State) :
    (sendItem i s).port = s.port := rfl

@[simp] theorem sendItem_decoder (i : LinkItem) (s : State) :
    (sendItem i s).decoder = s.decoder := rfl

@[simp] theorem sendItem_status (i : LinkItem) (s : State) :
    (sendItem i s).status = s.status := rfl

@[simp] theorem sendItem_clock (i : LinkItem) (s : State) :
    (sendItem i s).clock = s.clock := rfl

@[simp] theorem sendItem_figures (i : LinkItem) (s : State) :
    (sendItem i s).figures = s.figures := rfl

@[simp] theorem sendItem_replay (i : LinkItem) (s : State) :
    (sendItem i s).replay = s.replay := rfl

@[simp] theorem sendItem_rotation (i : LinkItem) (s : State) :
    (sendItem i s).rotation = s.rotation := rfl

@[simp] theorem sendItem_exposure (i : LinkItem) (s : State) :
    (sendItem i s).exposure = s.exposure := rfl

@[simp] theorem sendItem_messages (i : LinkItem) (s : State) :
    (sendItem i s).messages = s.messages := rfl

@[simp] theorem sendItem_alert (i : LinkItem) (s : State) :
    (sendItem i s).alert = s.alert := rfl

@[simp] theorem sendItem_brightness (i : LinkItem) (s : State) :
    (sendItem i s).brightness = s.brightness := rfl

@[simp] theorem sendItem_pending (i : LinkItem) (s : State) :
    (sendItem i s).pending = s.pending := rfl

@[simp] theorem sendItem_sweep_number (i : LinkItem) (s : State) :
    (sendItem i s).sweep.number = s.sweep.number := rfl

@[simp] theorem sendItem_sweep_header (i : LinkItem) (s : State) :
    (sendItem i s).sweep.header = s.sweep.header := rfl

@[simp] theorem sendItem_sweep_zones (i : LinkItem) (s : State) :
    (sendItem i s).sweep.zones = s.sweep.zones := rfl

@[simp] theorem sendItem_sweep_frame (i : LinkItem) (s : State) :
    (sendItem i s).sweep.frame = s.sweep.frame := rfl

@[simp] theorem sendItem_sweep_duty (i : LinkItem) (s : State) :
    (sendItem i s).sweep.duty = s.sweep.duty := rfl

/-! ### recomputeDuty -/

@[simp] theorem recomputeDuty_pins (s : State) :
    (recomputeDuty s).pins = s.pins := rfl

@[simp] theorem recomputeDuty_bypass (s : State) :
    (recomputeDuty s).bypass = s.bypass := rfl

@[simp] theorem recomputeDuty_initCount (s : State) :
    (recomputeDuty s).initCount = s.initCount := rfl

@[simp] theorem recomputeDuty_segment (s : State) :
    (recomputeDuty s).segment = s.segment := rfl

@[simp] theorem recomputeDuty_mem (s : State) :
    (recomputeDuty s).mem = s.mem := rfl

@[simp] theorem recomputeDuty_path (s : State) :
    (recomputeDuty s).path = s.path := rfl

@[simp] theorem recomputeDuty_turn (s : State) :
    (recomputeDuty s).turn = s.turn := rfl

@[simp] theorem recomputeDuty_port (s : State) :
    (recomputeDuty s).port = s.port := rfl

@[simp] theorem recomputeDuty_decoder (s : State) :
    (recomputeDuty s).decoder = s.decoder := rfl

@[simp] theorem recomputeDuty_status (s : State) :
    (recomputeDuty s).status = s.status := rfl

@[simp] theorem recomputeDuty_sweep (s : State) :
    (recomputeDuty s).sweep = s.sweep := rfl

@[simp] theorem recomputeDuty_receivers (s : State) :
    (recomputeDuty s).receivers = s.receivers := rfl

@[simp] theorem recomputeDuty_clock (s : State) :
    (recomputeDuty s).clock = s.clock := rfl

@[simp] theorem recomputeDuty_figures (s : State) :
    (recomputeDuty s).figures = s.figures := rfl

@[simp] theorem recomputeDuty_replay (s : State) :
    (recomputeDuty s).replay = s.replay := rfl

@[simp] theorem recomputeDuty_rotation (s : State) :
    (recomputeDuty s).rotation = s.rotation := rfl

@[simp] theorem recomputeDuty_exposure (s : State) :
    (recomputeDuty s).exposure = s.exposure := rfl

@[simp] theorem recomputeDuty_messages (s : State) :
    (recomputeDuty s).messages = s.messages := rfl

@[simp] theorem recomputeDuty_alert (s : State) :
    (recomputeDuty s).alert = s.alert := rfl

@[simp] theorem recomputeDuty_pending (s : State) :
    (recomputeDuty s).pending = s.pending := rfl

@[simp] theorem recomputeDuty_brightness_requested (s : State) :
    (recomputeDuty s).brightness.requested = s.brightness.requested := rfl

@[simp] theorem recomputeDuty_brightness_thermal (s : State) :
    (recomputeDuty s).brightness.thermal = s.brightness.thermal := rfl

@[simp] theorem recomputeDuty_brightness_pendingThermal (s : State) :
    (recomputeDuty s).brightness.pendingThermal = s.brightness.pendingThermal := rfl

@[simp] theorem recomputeDuty_brightness_state (s : State) :
    (recomputeDuty s).brightness.state = s.brightness.state := rfl

/-! ### capture -/

@[simp] theorem capture_pins (s : State) :
    (capture s).pins = s.pins := rfl

@[simp] theorem capture_bypass (s : State) :
    (capture s).bypass = s.bypass := rfl

@[simp] theorem capture_initCount (s : State) :
    (capture s).initCount = s.initCount := rfl

@[simp] theorem capture_segment (s : State) :
    (capture s).segment = s.segment := rfl

@[simp] theorem capture_mem (s : State) :
    (capture s).mem = s.mem := rfl

@[simp] theorem capture_path (s : State) :
    (capture s).path = s.path := rfl

@[simp] theorem capture_turn (s : State) :
    (capture s).turn = s.turn := rfl

@[simp] theorem capture_port (s : State) :
    (capture s).port = s.port := rfl

@[simp] theorem capture_decoder (s : State) :
    (capture s).decoder = s.decoder := rfl

@[simp] theorem capture_sweep (s : State) :
    (capture s).sweep = s.sweep := rfl

@[simp] theorem capture_receivers (s : State) :
    (capture s).receivers = s.receivers := rfl

@[simp] theorem capture_clock (s : State) :
    (capture s).clock = s.clock := rfl

@[simp] theorem capture_figures (s : State) :
    (capture s).figures = s.figures := rfl

@[simp] theorem capture_replay (s : State) :
    (capture s).replay = s.replay := rfl

@[simp] theorem capture_rotation (s : State) :
    (capture s).rotation = s.rotation := rfl

@[simp] theorem capture_exposure (s : State) :
    (capture s).exposure = s.exposure := rfl

@[simp] theorem capture_messages (s : State) :
    (capture s).messages = s.messages := rfl

@[simp] theorem capture_alert (s : State) :
    (capture s).alert = s.alert := rfl

@[simp] theorem capture_brightness (s : State) :
    (capture s).brightness = s.brightness := rfl

@[simp] theorem capture_pending (s : State) :
    (capture s).pending = s.pending := rfl

@[simp] theorem capture_status_flags (s : State) :
    (capture s).status.flags = s.status.flags := rfl

/-! ### decideHead -/

@[simp] theorem decideHead_pins (s : State) :
    (decideHead s).pins = s.pins := rfl

@[simp] theorem decideHead_bypass (s : State) :
    (decideHead s).bypass = s.bypass := rfl

@[simp] theorem decideHead_initCount (s : State) :
    (decideHead s).initCount = s.initCount := rfl

@[simp] theorem decideHead_segment (s : State) :
    (decideHead s).segment = s.segment := rfl

@[simp] theorem decideHead_mem (s : State) :
    (decideHead s).mem = s.mem := rfl

@[simp] theorem decideHead_turn (s : State) :
    (decideHead s).turn = s.turn := rfl

@[simp] theorem decideHead_port (s : State) :
    (decideHead s).port = s.port := rfl

@[simp] theorem decideHead_decoder (s : State) :
    (decideHead s).decoder = s.decoder := rfl

@[simp] theorem decideHead_status (s : State) :
    (decideHead s).status = s.status := rfl

@[simp] theorem decideHead_sweep (s : State) :
    (decideHead s).sweep = s.sweep := rfl

@[simp] theorem decideHead_receivers (s : State) :
    (decideHead s).receivers = s.receivers := rfl

@[simp] theorem decideHead_clock (s : State) :
    (decideHead s).clock = s.clock := rfl

@[simp] theorem decideHead_figures (s : State) :
    (decideHead s).figures = s.figures := rfl

@[simp] theorem decideHead_replay (s : State) :
    (decideHead s).replay = s.replay := rfl

@[simp] theorem decideHead_rotation (s : State) :
    (decideHead s).rotation = s.rotation := rfl

@[simp] theorem decideHead_exposure (s : State) :
    (decideHead s).exposure = s.exposure := rfl

@[simp] theorem decideHead_messages (s : State) :
    (decideHead s).messages = s.messages := rfl

@[simp] theorem decideHead_alert (s : State) :
    (decideHead s).alert = s.alert := rfl

@[simp] theorem decideHead_brightness (s : State) :
    (decideHead s).brightness = s.brightness := rfl

@[simp] theorem decideHead_pending (s : State) :
    (decideHead s).pending = s.pending := rfl

@[simp] theorem decideHead_path_queue (s : State) :
    (decideHead s).path.queue = s.path.queue := rfl

@[simp] theorem decideHead_path_offered (s : State) :
    (decideHead s).path.offered = s.path.offered := rfl

@[simp] theorem decideHead_path_reply (s : State) :
    (decideHead s).path.reply = s.path.reply := rfl

@[simp] theorem decideHead_path_watch (s : State) :
    (decideHead s).path.watch = s.path.watch := rfl

@[simp] theorem decideHead_path_houses (s : State) :
    (decideHead s).path.houses = s.path.houses := rfl

/-! ### leaveQueue -/

@[simp] theorem leaveQueue_pins (s : State) :
    (leaveQueue s).pins = s.pins := rfl

@[simp] theorem leaveQueue_bypass (s : State) :
    (leaveQueue s).bypass = s.bypass := rfl

@[simp] theorem leaveQueue_initCount (s : State) :
    (leaveQueue s).initCount = s.initCount := rfl

@[simp] theorem leaveQueue_segment (s : State) :
    (leaveQueue s).segment = s.segment := rfl

@[simp] theorem leaveQueue_mem (s : State) :
    (leaveQueue s).mem = s.mem := rfl

@[simp] theorem leaveQueue_turn (s : State) :
    (leaveQueue s).turn = s.turn := rfl

@[simp] theorem leaveQueue_port (s : State) :
    (leaveQueue s).port = s.port := rfl

@[simp] theorem leaveQueue_decoder (s : State) :
    (leaveQueue s).decoder = s.decoder := rfl

@[simp] theorem leaveQueue_status (s : State) :
    (leaveQueue s).status = s.status := rfl

@[simp] theorem leaveQueue_sweep (s : State) :
    (leaveQueue s).sweep = s.sweep := rfl

@[simp] theorem leaveQueue_receivers (s : State) :
    (leaveQueue s).receivers = s.receivers := rfl

@[simp] theorem leaveQueue_clock (s : State) :
    (leaveQueue s).clock = s.clock := rfl

@[simp] theorem leaveQueue_figures (s : State) :
    (leaveQueue s).figures = s.figures := rfl

@[simp] theorem leaveQueue_replay (s : State) :
    (leaveQueue s).replay = s.replay := rfl

@[simp] theorem leaveQueue_rotation (s : State) :
    (leaveQueue s).rotation = s.rotation := rfl

@[simp] theorem leaveQueue_exposure (s : State) :
    (leaveQueue s).exposure = s.exposure := rfl

@[simp] theorem leaveQueue_messages (s : State) :
    (leaveQueue s).messages = s.messages := rfl

@[simp] theorem leaveQueue_alert (s : State) :
    (leaveQueue s).alert = s.alert := rfl

@[simp] theorem leaveQueue_brightness (s : State) :
    (leaveQueue s).brightness = s.brightness := rfl

@[simp] theorem leaveQueue_pending (s : State) :
    (leaveQueue s).pending = s.pending := rfl

@[simp] theorem leaveQueue_path_reply (s : State) :
    (leaveQueue s).path.reply = s.path.reply := rfl

@[simp] theorem leaveQueue_path_watch (s : State) :
    (leaveQueue s).path.watch = s.path.watch := rfl

@[simp] theorem leaveQueue_path_houses (s : State) :
    (leaveQueue s).path.houses = s.path.houses := rfl

/-! ### onHouse -/

@[simp] theorem onHouse_pins (z : Nat) (f : House → House) (s : State) :
    (onHouse z f s).pins = s.pins := rfl

@[simp] theorem onHouse_bypass (z : Nat) (f : House → House) (s : State) :
    (onHouse z f s).bypass = s.bypass := rfl

@[simp] theorem onHouse_initCount (z : Nat) (f : House → House) (s : State) :
    (onHouse z f s).initCount = s.initCount := rfl

@[simp] theorem onHouse_segment (z : Nat) (f : House → House) (s : State) :
    (onHouse z f s).segment = s.segment := rfl

@[simp] theorem onHouse_mem (z : Nat) (f : House → House) (s : State) :
    (onHouse z f s).mem = s.mem := rfl

@[simp] theorem onHouse_turn (z : Nat) (f : House → House) (s : State) :
    (onHouse z f s).turn = s.turn := rfl

@[simp] theorem onHouse_port (z : Nat) (f : House → House) (s : State) :
    (onHouse z f s).port = s.port := rfl

@[simp] theorem onHouse_decoder (z : Nat) (f : House → House) (s : State) :
    (onHouse z f s).decoder = s.decoder := rfl

@[simp] theorem onHouse_status (z : Nat) (f : House → House) (s : State) :
    (onHouse z f s).status = s.status := rfl

@[simp] theorem onHouse_sweep (z : Nat) (f : House → House) (s : State) :
    (onHouse z f s).sweep = s.sweep := rfl

@[simp] theorem onHouse_receivers (z : Nat) (f : House → House) (s : State) :
    (onHouse z f s).receivers = s.receivers := rfl

@[simp] theorem onHouse_clock (z : Nat) (f : House → House) (s : State) :
    (onHouse z f s).clock = s.clock := rfl

@[simp] theorem onHouse_figures (z : Nat) (f : House → House) (s : State) :
    (onHouse z f s).figures = s.figures := rfl

@[simp] theorem onHouse_replay (z : Nat) (f : House → House) (s : State) :
    (onHouse z f s).replay = s.replay := rfl

@[simp] theorem onHouse_rotation (z : Nat) (f : House → House) (s : State) :
    (onHouse z f s).rotation = s.rotation := rfl

@[simp] theorem onHouse_exposure (z : Nat) (f : House → House) (s : State) :
    (onHouse z f s).exposure = s.exposure := rfl

@[simp] theorem onHouse_messages (z : Nat) (f : House → House) (s : State) :
    (onHouse z f s).messages = s.messages := rfl

@[simp] theorem onHouse_alert (z : Nat) (f : House → House) (s : State) :
    (onHouse z f s).alert = s.alert := rfl

@[simp] theorem onHouse_brightness (z : Nat) (f : House → House) (s : State) :
    (onHouse z f s).brightness = s.brightness := rfl

@[simp] theorem onHouse_pending (z : Nat) (f : House → House) (s : State) :
    (onHouse z f s).pending = s.pending := rfl

@[simp] theorem onHouse_path_queue (z : Nat) (f : House → House) (s : State) :
    (onHouse z f s).path.queue = s.path.queue := rfl

@[simp] theorem onHouse_path_offered (z : Nat) (f : House → House) (s : State) :
    (onHouse z f s).path.offered = s.path.offered := rfl

@[simp] theorem onHouse_path_watch (z : Nat) (f : House → House) (s : State) :
    (onHouse z f s).path.watch = s.path.watch := rfl

/-! ### exchangeFlips -/

@[simp] theorem exchangeFlips_pins (s : State) :
    (exchangeFlips s).pins = s.pins := rfl

@[simp] theorem exchangeFlips_bypass (s : State) :
    (exchangeFlips s).bypass = s.bypass := rfl

@[simp] theorem exchangeFlips_initCount (s : State) :
    (exchangeFlips s).initCount = s.initCount := rfl

@[simp] theorem exchangeFlips_segment (s : State) :
    (exchangeFlips s).segment = s.segment := rfl

@[simp] theorem exchangeFlips_mem (s : State) :
    (exchangeFlips s).mem = s.mem := rfl

@[simp] theorem exchangeFlips_turn (s : State) :
    (exchangeFlips s).turn = s.turn := rfl

@[simp] theorem exchangeFlips_port (s : State) :
    (exchangeFlips s).port = s.port := rfl

@[simp] theorem exchangeFlips_decoder (s : State) :
    (exchangeFlips s).decoder = s.decoder := rfl

@[simp] theorem exchangeFlips_status (s : State) :
    (exchangeFlips s).status = s.status := rfl

@[simp] theorem exchangeFlips_sweep (s : State) :
    (exchangeFlips s).sweep = s.sweep := rfl

@[simp] theorem exchangeFlips_receivers (s : State) :
    (exchangeFlips s).receivers = s.receivers := rfl

@[simp] theorem exchangeFlips_clock (s : State) :
    (exchangeFlips s).clock = s.clock := rfl

@[simp] theorem exchangeFlips_figures (s : State) :
    (exchangeFlips s).figures = s.figures := rfl

@[simp] theorem exchangeFlips_replay (s : State) :
    (exchangeFlips s).replay = s.replay := rfl

@[simp] theorem exchangeFlips_rotation (s : State) :
    (exchangeFlips s).rotation = s.rotation := rfl

@[simp] theorem exchangeFlips_exposure (s : State) :
    (exchangeFlips s).exposure = s.exposure := rfl

@[simp] theorem exchangeFlips_messages (s : State) :
    (exchangeFlips s).messages = s.messages := rfl

@[simp] theorem exchangeFlips_alert (s : State) :
    (exchangeFlips s).alert = s.alert := rfl

@[simp] theorem exchangeFlips_brightness (s : State) :
    (exchangeFlips s).brightness = s.brightness := rfl

@[simp] theorem exchangeFlips_pending (s : State) :
    (exchangeFlips s).pending = s.pending := rfl

@[simp] theorem exchangeFlips_path_queue (s : State) :
    (exchangeFlips s).path.queue = s.path.queue := rfl

@[simp] theorem exchangeFlips_path_offered (s : State) :
    (exchangeFlips s).path.offered = s.path.offered := rfl

@[simp] theorem exchangeFlips_path_watch (s : State) :
    (exchangeFlips s).path.watch = s.path.watch := rfl

/-! ### setRibbon -/

@[simp] theorem setRibbon_pins (r : RibbonId) (x : Ribbon) (s : State) :
    (setRibbon r x s).pins = s.pins := by cases r <;> rfl

@[simp] theorem setRibbon_bypass (r : RibbonId) (x : Ribbon) (s : State) :
    (setRibbon r x s).bypass = s.bypass := by cases r <;> rfl

@[simp] theorem setRibbon_initCount (r : RibbonId) (x : Ribbon) (s : State) :
    (setRibbon r x s).initCount = s.initCount := by cases r <;> rfl

@[simp] theorem setRibbon_segment (r : RibbonId) (x : Ribbon) (s : State) :
    (setRibbon r x s).segment = s.segment := by cases r <;> rfl

@[simp] theorem setRibbon_mem (r : RibbonId) (x : Ribbon) (s : State) :
    (setRibbon r x s).mem = s.mem := by cases r <;> rfl

@[simp] theorem setRibbon_path (r : RibbonId) (x : Ribbon) (s : State) :
    (setRibbon r x s).path = s.path := by cases r <;> rfl

@[simp] theorem setRibbon_turn (r : RibbonId) (x : Ribbon) (s : State) :
    (setRibbon r x s).turn = s.turn := by cases r <;> rfl

@[simp] theorem setRibbon_port (r : RibbonId) (x : Ribbon) (s : State) :
    (setRibbon r x s).port = s.port := by cases r <;> rfl

@[simp] theorem setRibbon_decoder (r : RibbonId) (x : Ribbon) (s : State) :
    (setRibbon r x s).decoder = s.decoder := by cases r <;> rfl

@[simp] theorem setRibbon_status (r : RibbonId) (x : Ribbon) (s : State) :
    (setRibbon r x s).status = s.status := by cases r <;> rfl

@[simp] theorem setRibbon_sweep (r : RibbonId) (x : Ribbon) (s : State) :
    (setRibbon r x s).sweep = s.sweep := by cases r <;> rfl

@[simp] theorem setRibbon_receivers (r : RibbonId) (x : Ribbon) (s : State) :
    (setRibbon r x s).receivers = s.receivers := by cases r <;> rfl

@[simp] theorem setRibbon_clock (r : RibbonId) (x : Ribbon) (s : State) :
    (setRibbon r x s).clock = s.clock := by cases r <;> rfl

@[simp] theorem setRibbon_figures (r : RibbonId) (x : Ribbon) (s : State) :
    (setRibbon r x s).figures = s.figures := by cases r <;> rfl

@[simp] theorem setRibbon_replay (r : RibbonId) (x : Ribbon) (s : State) :
    (setRibbon r x s).replay = s.replay := by cases r <;> rfl

@[simp] theorem setRibbon_exposure (r : RibbonId) (x : Ribbon) (s : State) :
    (setRibbon r x s).exposure = s.exposure := by cases r <;> rfl

@[simp] theorem setRibbon_messages (r : RibbonId) (x : Ribbon) (s : State) :
    (setRibbon r x s).messages = s.messages := by cases r <;> rfl

@[simp] theorem setRibbon_alert (r : RibbonId) (x : Ribbon) (s : State) :
    (setRibbon r x s).alert = s.alert := by cases r <;> rfl

@[simp] theorem setRibbon_brightness (r : RibbonId) (x : Ribbon) (s : State) :
    (setRibbon r x s).brightness = s.brightness := by cases r <;> rfl

@[simp] theorem setRibbon_pending (r : RibbonId) (x : Ribbon) (s : State) :
    (setRibbon r x s).pending = s.pending := by cases r <;> rfl

@[simp] theorem setRibbon_rotation_gather (r : RibbonId) (x : Ribbon) (s : State) :
    (setRibbon r x s).rotation.gather = s.rotation.gather := by cases r <;> rfl

/-! ### raiseIf -/

@[simp] theorem raiseIf_pins (c : Bool) (f : Flag) (s : State) :
    (raiseIf c f s).pins = s.pins := by unfold raiseIf; split <;> rfl

@[simp] theorem raiseIf_bypass (c : Bool) (f : Flag) (s : State) :
    (raiseIf c f s).bypass = s.bypass := by unfold raiseIf; split <;> rfl

@[simp] theorem raiseIf_initCount (c : Bool) (f : Flag) (s : State) :
    (raiseIf c f s).initCount = s.initCount := by unfold raiseIf; split <;> rfl

@[simp] theorem raiseIf_segment (c : Bool) (f : Flag) (s : State) :
    (raiseIf c f s).segment = s.segment := by unfold raiseIf; split <;> rfl

@[simp] theorem raiseIf_mem (c : Bool) (f : Flag) (s : State) :
    (raiseIf c f s).mem = s.mem := by unfold raiseIf; split <;> rfl

@[simp] theorem raiseIf_path (c : Bool) (f : Flag) (s : State) :
    (raiseIf c f s).path = s.path := by unfold raiseIf; split <;> rfl

@[simp] theorem raiseIf_turn (c : Bool) (f : Flag) (s : State) :
    (raiseIf c f s).turn = s.turn := by unfold raiseIf; split <;> rfl

@[simp] theorem raiseIf_port (c : Bool) (f : Flag) (s : State) :
    (raiseIf c f s).port = s.port := by unfold raiseIf; split <;> rfl

@[simp] theorem raiseIf_sweep (c : Bool) (f : Flag) (s : State) :
    (raiseIf c f s).sweep = s.sweep := by unfold raiseIf; split <;> rfl

@[simp] theorem raiseIf_receivers (c : Bool) (f : Flag) (s : State) :
    (raiseIf c f s).receivers = s.receivers := by unfold raiseIf; split <;> rfl

@[simp] theorem raiseIf_clock (c : Bool) (f : Flag) (s : State) :
    (raiseIf c f s).clock = s.clock := by unfold raiseIf; split <;> rfl

@[simp] theorem raiseIf_figures (c : Bool) (f : Flag) (s : State) :
    (raiseIf c f s).figures = s.figures := by unfold raiseIf; split <;> rfl

@[simp] theorem raiseIf_replay (c : Bool) (f : Flag) (s : State) :
    (raiseIf c f s).replay = s.replay := by unfold raiseIf; split <;> rfl

@[simp] theorem raiseIf_rotation (c : Bool) (f : Flag) (s : State) :
    (raiseIf c f s).rotation = s.rotation := by unfold raiseIf; split <;> rfl

@[simp] theorem raiseIf_exposure (c : Bool) (f : Flag) (s : State) :
    (raiseIf c f s).exposure = s.exposure := by unfold raiseIf; split <;> rfl

@[simp] theorem raiseIf_messages (c : Bool) (f : Flag) (s : State) :
    (raiseIf c f s).messages = s.messages := by unfold raiseIf; split <;> rfl

@[simp] theorem raiseIf_alert (c : Bool) (f : Flag) (s : State) :
    (raiseIf c f s).alert = s.alert := by unfold raiseIf; split <;> rfl

@[simp] theorem raiseIf_brightness (c : Bool) (f : Flag) (s : State) :
    (raiseIf c f s).brightness = s.brightness := by unfold raiseIf; split <;> rfl

@[simp] theorem raiseIf_pending (c : Bool) (f : Flag) (s : State) :
    (raiseIf c f s).pending = s.pending := by unfold raiseIf; split <;> rfl

@[simp] theorem raiseIf_status_image (c : Bool) (f : Flag) (s : State) :
    (raiseIf c f s).status.image = s.status.image := by unfold raiseIf; split <;> rfl

@[simp] theorem raiseIf_status_lines (c : Bool) (f : Flag) (s : State) :
    (raiseIf c f s).status.lines = s.status.lines := by unfold raiseIf; split <;> rfl

@[simp] theorem raiseIf_status_captureDue (c : Bool) (f : Flag) (s : State) :
    (raiseIf c f s).status.captureDue = s.status.captureDue := by unfold raiseIf; split <;> rfl

@[simp] theorem raiseIf_decoder_lane (c : Bool) (f : Flag) (s : State) :
    (raiseIf c f s).decoder.lane = s.decoder.lane := by unfold raiseIf; split <;> rfl

@[simp] theorem raiseIf_decoder_last (c : Bool) (f : Flag) (s : State) :
    (raiseIf c f s).decoder.last = s.decoder.last := by unfold raiseIf; split <;> rfl

@[simp] theorem raiseIf_decoder_mask (c : Bool) (f : Flag) (s : State) :
    (raiseIf c f s).decoder.mask = s.decoder.mask := by unfold raiseIf; split <;> rfl

/-! ### settleShort -/

@[simp] theorem settleShort_pins (t : Half) (c : Byte) (r : Result) (d : Nat) (s : State) :
    (settleShort t c r d s).pins = s.pins := by unfold settleShort raiseIf; split <;> rfl

@[simp] theorem settleShort_bypass (t : Half) (c : Byte) (r : Result) (d : Nat) (s : State) :
    (settleShort t c r d s).bypass = s.bypass := by unfold settleShort raiseIf; split <;> rfl

@[simp] theorem settleShort_initCount (t : Half) (c : Byte) (r : Result) (d : Nat) (s : State) :
    (settleShort t c r d s).initCount = s.initCount := by unfold settleShort raiseIf; split <;> rfl

@[simp] theorem settleShort_segment (t : Half) (c : Byte) (r : Result) (d : Nat) (s : State) :
    (settleShort t c r d s).segment = s.segment := by unfold settleShort raiseIf; split <;> rfl

@[simp] theorem settleShort_mem (t : Half) (c : Byte) (r : Result) (d : Nat) (s : State) :
    (settleShort t c r d s).mem = s.mem := by unfold settleShort raiseIf; split <;> rfl

@[simp] theorem settleShort_path (t : Half) (c : Byte) (r : Result) (d : Nat) (s : State) :
    (settleShort t c r d s).path = s.path := by unfold settleShort raiseIf; split <;> rfl

@[simp] theorem settleShort_turn (t : Half) (c : Byte) (r : Result) (d : Nat) (s : State) :
    (settleShort t c r d s).turn = s.turn := by unfold settleShort raiseIf; split <;> rfl

@[simp] theorem settleShort_port (t : Half) (c : Byte) (r : Result) (d : Nat) (s : State) :
    (settleShort t c r d s).port = s.port := by unfold settleShort raiseIf; split <;> rfl

@[simp] theorem settleShort_sweep (t : Half) (c : Byte) (r : Result) (d : Nat) (s : State) :
    (settleShort t c r d s).sweep = s.sweep := by unfold settleShort raiseIf; split <;> rfl

@[simp] theorem settleShort_receivers (t : Half) (c : Byte) (r : Result) (d : Nat) (s : State) :
    (settleShort t c r d s).receivers = s.receivers := by unfold settleShort raiseIf; split <;> rfl

@[simp] theorem settleShort_clock (t : Half) (c : Byte) (r : Result) (d : Nat) (s : State) :
    (settleShort t c r d s).clock = s.clock := by unfold settleShort raiseIf; split <;> rfl

@[simp] theorem settleShort_figures (t : Half) (c : Byte) (r : Result) (d : Nat) (s : State) :
    (settleShort t c r d s).figures = s.figures := by unfold settleShort raiseIf; split <;> rfl

@[simp] theorem settleShort_replay (t : Half) (c : Byte) (r : Result) (d : Nat) (s : State) :
    (settleShort t c r d s).replay = s.replay := by unfold settleShort raiseIf; split <;> rfl

@[simp] theorem settleShort_rotation (t : Half) (c : Byte) (r : Result) (d : Nat) (s : State) :
    (settleShort t c r d s).rotation = s.rotation := by unfold settleShort raiseIf; split <;> rfl

@[simp] theorem settleShort_exposure (t : Half) (c : Byte) (r : Result) (d : Nat) (s : State) :
    (settleShort t c r d s).exposure = s.exposure := by unfold settleShort raiseIf; split <;> rfl

@[simp] theorem settleShort_messages (t : Half) (c : Byte) (r : Result) (d : Nat) (s : State) :
    (settleShort t c r d s).messages = s.messages := by unfold settleShort raiseIf; split <;> rfl

@[simp] theorem settleShort_alert (t : Half) (c : Byte) (r : Result) (d : Nat) (s : State) :
    (settleShort t c r d s).alert = s.alert := by unfold settleShort raiseIf; split <;> rfl

@[simp] theorem settleShort_brightness (t : Half) (c : Byte) (r : Result) (d : Nat) (s : State) :
    (settleShort t c r d s).brightness = s.brightness := by unfold settleShort raiseIf; split <;> rfl

@[simp] theorem settleShort_pending (t : Half) (c : Byte) (r : Result) (d : Nat) (s : State) :
    (settleShort t c r d s).pending = s.pending := by unfold settleShort raiseIf; split <;> rfl

@[simp] theorem settleShort_status_image (t : Half) (c : Byte) (r : Result) (d : Nat) (s : State) :
    (settleShort t c r d s).status.image = s.status.image := by unfold settleShort raiseIf; split <;> rfl

@[simp] theorem settleShort_status_lines (t : Half) (c : Byte) (r : Result) (d : Nat) (s : State) :
    (settleShort t c r d s).status.lines = s.status.lines := by unfold settleShort raiseIf; split <;> rfl

@[simp] theorem settleShort_status_captureDue (t : Half) (c : Byte) (r : Result) (d : Nat) (s : State) :
    (settleShort t c r d s).status.captureDue = s.status.captureDue := by unfold settleShort raiseIf; split <;> rfl

@[simp] theorem settleShort_decoder_lane (t : Half) (c : Byte) (r : Result) (d : Nat) (s : State) :
    (settleShort t c r d s).decoder.lane = s.decoder.lane := by unfold settleShort raiseIf; split <;> rfl

@[simp] theorem settleShort_decoder_mask (t : Half) (c : Byte) (r : Result) (d : Nat) (s : State) :
    (settleShort t c r d s).decoder.mask = s.decoder.mask := by unfold settleShort raiseIf; split <;> rfl

/-! ### What the updates write -/

@[simp] theorem raise_flags (f : Flag) (s : State) :
    (raise f s).status.flags = s.status.flags ||| flagMask f := rfl

@[simp] theorem raise_latches (f : Flag) (s : State) :
    (raise f s).decoder.latches
      = s.decoder.latches ||| (flagMask f &&& ~~~s.status.flags &&& s.decoder.mask) := rfl

@[simp] theorem clearFlags_flags (m : BitVec 19) (s : State) :
    (clearFlags m s).status.flags = s.status.flags &&& ~~~m := rfl

@[simp] theorem clearFlags_latches (m : BitVec 19) (s : State) :
    (clearFlags m s).decoder.latches = s.decoder.latches &&& ~~~m := rfl

@[simp] theorem replaceMask_mask (m : BitVec 19) (s : State) : (replaceMask m s).decoder.mask = m := rfl

@[simp] theorem replaceMask_latches (m : BitVec 19) (s : State) :
    (replaceMask m s).decoder.latches = s.decoder.latches &&& m := rfl

@[simp] theorem settleShort_last (t : Half) (c : Byte) (r : Result) (d : Nat) (s : State) :
    (settleShort t c r d s).decoder.last = { tag := t, code := c, result := r, detail := d } := by
  unfold settleShort raiseIf; split <;> rfl

@[simp] theorem writeLine_mem (a : Nat) (d : Line) (k : Mask) (s : State) :
    (writeLine a d k s).mem = memWriteBytes s.mem a d k 64 := rfl

@[simp] theorem bumpZones_zones (p : ZoneRec → Bool) (s : State) :
    (bumpZones p s).sweep.zones = s.sweep.zones.map (bumpZone p) := rfl

@[simp] theorem rebuildWatch_watch (s : State) : (rebuildWatch s).path.watch = deriveWatch s := rfl

@[simp] theorem reportSlot_entries (r : SlotReport) (s : State) :
    (reportSlot r s).exposure.entries = takeReport r s.exposure.entries := rfl

@[simp] theorem recomputeDuty_effective (s : State) :
    (recomputeDuty s).brightness.effective = dutyOf s.brightness (alertOnAir s) := rfl

end Sys2Proof.Machine
end

