-- ==== Sys2Proof/Laws/Memory.lean ====
section
/-! SUPPORT. Frame memory: reads after writes, and that every write keeps the canonical form. -/

namespace Sys2Proof.Machine

/-- Every listed address lies above `a`. -/
def allAbove (a : Nat) (m : List Host.Cell) : Prop := ∀ c ∈ m, a < c.1

theorem memory_wf_cons (k : Nat) (v : Byte) (m : List Host.Cell) :
    Memory.wf ((k, v) :: m) ↔ allAbove k m ∧ v ≠ unlisted ∧ Memory.wf m := by
  simp only [Memory.wf, allAbove, List.pairwise_cons, List.mem_cons, forall_eq_or_imp]
  tauto

/-- An address below every listed one reads as unlisted. -/
theorem memRead_below {m : List Host.Cell} {a : Nat} (h : allAbove a m) : memRead m a = unlisted := by
  induction m with
  | nil => rfl
  | cons c m ih =>
    obtain ⟨k, v⟩ := c
    have hk : a < k := h (k, v) (by simp)
    have : k ≠ a := by omega
    simp only [memRead, this, if_false]
    exact ih (fun c hc => h c (by simp [hc]))

/-- A write lists nothing below what was listed, but for its own address. -/
theorem memWrite_above {m : List Host.Cell} {a k : Nat} {b : Byte} (hk : k < a) (h : allAbove k m) :
    allAbove k (memWrite m a b) := by
  induction m with
  | nil => unfold memWrite; split <;> simp [allAbove, hk]
  | cons c m ih =>
    obtain ⟨k', v⟩ := c
    have h' : allAbove k m := fun c hc => h c (by simp [hc])
    have hk' : k < k' := h (k', v) (by simp)
    unfold memWrite
    intro c hc
    split at hc
    · split at hc
      · exact h c hc
      · rcases List.mem_cons.1 hc with rfl | hc
        · exact hk
        · exact h c hc
    · split at hc
      · split at hc
        · exact h' c hc
        · rcases List.mem_cons.1 hc with rfl | hc
          · exact hk
          · exact h' c hc
      · rcases List.mem_cons.1 hc with rfl | hc
        · exact hk'
        · exact ih h' c hc

/-- A write of one byte keeps the canonical form. -/
theorem memWrite_wf {m : List Host.Cell} (a : Nat) (b : Byte) (h : Memory.wf m) : Memory.wf (memWrite m a b) := by
  induction m with
  | nil =>
    unfold memWrite
    split
    · exact h
    · rw [memory_wf_cons]; exact ⟨by simp [allAbove], ‹_›, h⟩
  | cons c m ih =>
    obtain ⟨k, v⟩ := c
    obtain ⟨hk, hv, hm⟩ := (memory_wf_cons k v m).1 h
    unfold memWrite
    split
    · split
      · exact h
      · rw [memory_wf_cons]
        refine ⟨fun c hc => ?_, ‹_›, h⟩
        rcases List.mem_cons.1 hc with rfl | hc
        · assumption
        · have := hk c hc; omega
    · split
      · split
        · exact hm
        · rw [memory_wf_cons]
          refine ⟨fun c hc => ?_, ‹_›, hm⟩
          have := hk c hc; omega
      · rw [memory_wf_cons]
        exact ⟨memWrite_above (by omega) hk, hv, ih hm⟩

/-- What a byte reads as after a write: the byte written at its address, what it was elsewhere. -/
theorem memRead_memWrite {m : List Host.Cell} (a x : Nat) (b : Byte) (h : Memory.wf m) :
    memRead (memWrite m a b) x = if x = a then b else memRead m x := by
  induction m with
  | nil =>
    unfold memWrite
    split
    · next hb => split <;> simp [memRead, hb]
    · by_cases hx : x = a
      · subst hx; simp [memRead]
      · have : a ≠ x := fun e => hx e.symm
        simp [memRead, hx, this]
  | cons c m ih =>
    obtain ⟨k, v⟩ := c
    obtain ⟨hk, hv, hm⟩ := (memory_wf_cons k v m).1 h
    have above : ∀ {y}, y < k → memRead ((k, v) :: m) y = unlisted := fun {y} hy =>
      memRead_below (fun c hc => by
        rcases List.mem_cons.1 hc with rfl | hc
        · exact hy
        · have := hk c hc; omega)
    unfold memWrite
    split
    · next hak =>
      split
      · next hb => split
                   · next hx => rw [hx, hb]; exact above hak
                   · rfl
      · by_cases hx : x = a
        · subst hx; simp [memRead]
        · have : a ≠ x := fun e => hx e.symm
          simp only [memRead, this, hx, if_false]
    · split
      · next hak =>
        subst hak
        split
        · next hb =>
          split
          · next hx => rw [hx, hb]; exact memRead_below hk
          · next hx =>
            have : a ≠ x := fun e => hx e.symm
            simp only [memRead, this, if_false]
        · by_cases hx : x = a
          · subst hx; simp [memRead]
          · have : a ≠ x := fun e => hx e.symm
            simp only [memRead, this, hx, if_false]
      · next hak =>
        by_cases hkx : k = x
        · subst hkx
          have : ¬ k = a := fun e => hak e.symm
          simp [memRead, this]
        · simp only [memRead, hkx, if_false]
          exact ih hm

/-- A line write keeps the canonical form. -/
theorem memWriteBytes_wf {m : List Host.Cell} (a : Nat) (d : Line) (k : Mask) (n : Nat) (h : Memory.wf m) :
    Memory.wf (memWriteBytes m a d k n) := by
  induction n with
  | zero => exact h
  | succ n ih =>
    simp only [memWriteBytes]
    split
    · exact memWrite_wf _ _ ih
    · exact ih

/-- What a byte reads as after the first `n` bytes of a line write. -/
theorem memRead_memWriteBytes {m : List Host.Cell} (a : Nat) (d : Line) (k : Mask) (n x : Nat) (h : Memory.wf m) :
    memRead (memWriteBytes m a d k n) x
      = if a ≤ x ∧ x < a + n ∧ k.getLsbD (x - a) then byteAt d (x - a) else memRead m x := by
  induction n with
  | zero =>
    have : ¬ (a ≤ x ∧ x < a + 0 ∧ k.getLsbD (x - a) = true) := by omega
    rw [if_neg this]; rfl
  | succ n ih =>
    simp only [memWriteBytes]
    split
    · next hb =>
      rw [memRead_memWrite _ _ _ (memWriteBytes_wf a d k n h), ih]
      by_cases hx : x = a + n
      · subst hx
        have e : a + n - a = n := by omega
        simp [hb, e]
      · rw [if_neg hx]
        congr 1
        apply propext
        constructor <;> rintro ⟨h1, h2, h3⟩ <;> exact ⟨h1, by omega, h3⟩
    · next hb =>
      rw [ih]
      congr 1
      apply propext
      constructor
      · rintro ⟨h1, h2, h3⟩; exact ⟨h1, by omega, h3⟩
      · rintro ⟨h1, h2, h3⟩
        refine ⟨h1, ?_, h3⟩
        by_contra hc
        have e : x - a = n := by omega
        rw [e] at h3; exact hb h3

/-- R27: a line write keeps the canonical form of memory. -/
theorem writeLine_wf (a : Nat) (d : Line) (k : Mask) (s : State) (h : Memory.wf s.mem) :
    Memory.wf (writeLine a d k s).mem := memWriteBytes_wf a d k 64 h

/-- R27: enabled bytes replace memory, every other byte is as it was. -/
theorem memRead_writeLine (a : Nat) (d : Line) (k : Mask) (s : State) (x : Nat) (h : Memory.wf s.mem) :
    memRead (writeLine a d k s).mem x
      = if a ≤ x ∧ x < a + 64 ∧ k.getLsbD (x - a) then byteAt d (x - a) else memRead s.mem x :=
  memRead_memWriteBytes a d k 64 x h

/-- A whole-line write keeps the canonical form of memory. -/
theorem writeWhole_wf (a : Nat) (d : Line) (s : State) (h : Memory.wf s.mem) : Memory.wf (writeWhole a d s).mem :=
  writeLine_wf a d fullMask s h

/-- The memory of the reset state has the canonical form. -/
theorem reset_wf : Memory.wf State.reset.mem := by decide

end Sys2Proof.Machine
end

