-- ==== Sys2Proof/Laws/Ops.lean ====
section
/-! SUPPORT. One lemma for each shared operation that says once everything it can do. -/

namespace Sys2Proof.Machine

/-! ### Steps and commands -/

/-- A step takes the front command, or idles. -/
theorem step_cases {s : State} {o : Host.Outcome State Fault Refusal} (h : step s = o) :
    (s.pending = [] ∧ o = .next s) ∨ ∃ c rest, s.pending = c :: rest ∧ o = exec c { s with pending := rest } := by
  unfold step at h
  split at h
  · exact .inl ⟨‹_›, h.symm⟩
  · exact .inr ⟨_, _, ‹_›, h.symm⟩

theorem outOfBypass_cases (f : State → State) (s : State) :
    (s.bypass = true ∧ outOfBypass f s = s) ∨ (s.bypass = false ∧ outOfBypass f s = f s) := by
  unfold outOfBypass
  cases h : s.bypass <;> simp

theorem outOfBypass_out {f : State → State} {s : State} (h : s.bypass = false) : outOfBypass f s = f s := by
  simp [outOfBypass, h]

/-! ### Flags (R58, R61) -/

@[simp] theorem raiseIf_true (f : Flag) (s : State) : raiseIf true f s = raise f s := rfl

@[simp] theorem raiseIf_false (f : Flag) (s : State) : raiseIf false f s = s := rfl

theorem raiseIf_cases (c : Bool) (f : Flag) (s : State) :
    (c = true ∧ raiseIf c f s = raise f s) ∨ (c = false ∧ raiseIf c f s = s) := by
  cases c <;> simp

/-- A raised flag stands, every other flag stands exactly if it stood. -/
theorem flagUp_raise (f g : Flag) (s : State) : flagUp g (raise f s) = (g = f || flagUp g s) := by
  cases f <;> cases g <;> simp [flagUp, flagMask, flagBit]

/-! ### Results (R48, R52) -/

/-- A result that is not a refusal only replaces the record. -/
theorem settleShort_taken (t : Half) (c : Byte) (r : Result) (d : Nat) (s : State) (h : refuses r = false) :
    settleShort t c r d s = { s with decoder.last := { tag := t, code := c, result := r, detail := d } } := by
  simp [settleShort, h]

/-- A refusal replaces the record and raises CUE_REFUSED. -/
theorem settleShort_refused (t : Half) (c : Byte) (r : Result) (d : Nat) (s : State) (h : refuses r = true) :
    settleShort t c r d s
      = raise .cueRefused { s with decoder.last := { tag := t, code := c, result := r, detail := d } } := by
  simp [settleShort, h]

/-- R52: a settled lane is not settled again. -/
theorem settleLane_settled (r : Result) (d : Nat) (l : Lane) (h : l.final.isSome = true) : settleLane r d l = l := by
  simp [settleLane, h]

/-- R52: an unsettled lane moves to WRITING with its final record. -/
theorem settleLane_open (r : Result) (d : Nat) (l : Lane) (h : l.final = none) :
    settleLane r d l = { l with phase := .writing, final := some { result := r, detail := d } } := by
  simp [settleLane, h]

/-! ### Long cues (R47, R49) -/

/-- R47, R49: a long cue is refused BUSY, accepted and settled RANGE for an address, or handed to its owner. -/
theorem longCue_cases (c : LongCue) (t : Half) (p : LanePhase) (as : List Quad) (f : State → State) (s : State) :
    (laneOccupied s = true ∧ longCue c t p as f s = settleShort t (longCode c) .busy 0 s)
      ∨ (laneOccupied s = false ∧ as.all addressOk = false ∧ longCue c t p as f s = settleLong .range 0 (acceptLong c t p s))
      ∨ (laneOccupied s = false ∧ as.all addressOk = true ∧ longCue c t p as f s = f (acceptLong c t p s)) := by
  unfold longCue
  cases h1 : laneOccupied s <;> cases h2 : as.all addressOk <;> simp

/-! ### Lines in flight (R17, R44, R50) -/

/-- An arrival does nothing, frees the port of a dropped line, or frees it and uses the line. -/
theorem arrival_cases (mine : FlightOrigin → Bool) (use : Line → State → State) (s : State) :
    (arrival mine use s = s)
      ∨ (∃ f, s.port = some f ∧ mine f.origin = true ∧ f.dropped = true ∧ arrival mine use s = { s with port := none })
      ∨ (∃ f, s.port = some f ∧ mine f.origin = true ∧ f.dropped = false
          ∧ arrival mine use s = use f.data { s with port := none }) := by
  unfold arrival
  split
  · next f hf =>
    cases hm : mine f.origin
    · simp
    · cases hd : f.dropped
      · exact .inr (.inr ⟨f, hf, hm, hd, by simp⟩)
      · exact .inr (.inl ⟨f, hf, hm, hd, by simp⟩)
  · exact .inl rfl

/-! ### The arbiter (R44) -/

/-- R44: a position that is granted has a requester that waits. -/
theorem grantedPosition_waits {s : State} {p : Fin 4} (h : grantedPosition s = some p) :
    waits (requesterAt p) s = true := by
  have := List.find?_some h
  simpa using this

/-- R44: no grant is made only if no requester waits. -/
theorem grantedPosition_none {s : State} (h : grantedPosition s = none) (p : Fin 4) :
    waits (requesterAt p) s = false := by
  have hp : p ∈ positionsFrom s.turn := by
    generalize s.turn = t
    revert p t
    decide
  have := List.find?_eq_none.1 h p hp
  simpa using this

/-! ### The queue of messages (R157, R158) -/

theorem insertTail_length (m : Message) (q : List Message) : (insertTail m q).length = q.length + 1 := by
  induction q with
  | nil => rfl
  | cons x q ih => unfold insertTail; split <;> simp [ih]

theorem insertHead_length (m : Message) (q : List Message) : (insertHead m q).length = q.length + 1 := by
  induction q with
  | nil => rfl
  | cons x q ih => unfold insertHead; split <;> simp [ih]

/-- R158: an overflow leaves one record fewer. -/
theorem evict_length (q : List Message) :
    (evict q).1.length = if Config.messageCapacity < q.length then q.length - 1 else q.length := by
  unfold evict; split <;> simp

/-- R158: what a joining record leaves in the queue. -/
theorem joinQueue_queue (q : List Message) (s : State) : (joinQueue q s).messages.queue = (evict q).1 := by
  unfold joinQueue
  generalize evict q = p
  obtain ⟨kept, gone⟩ := p
  cases gone <;> rfl

/-! ### The aperture (R62) -/

/-- R62: before the first status image no final record lands. -/
theorem finalNext_unimaged {s : State} (h : s.status.image = none) : finalNext s = none := by
  simp [finalNext, apertureOpen, h]

/-- R62: before the first status image no snapshot line lands in the aperture. -/
theorem snapshotNext_unimaged {s : State} {p : Snapshot} {x : SnapshotLine} {rest : List SnapshotLine}
    (h : s.status.image = none) (hx : snapshotNext s = some (.snapshot p x rest)) :
    inAperture (snapshotAddr p x) s = false := by
  unfold snapshotNext at hx
  split at hx
  · split at hx
    · split at hx
      · cases hx
      · next hc => cases hx; simpa [apertureOpen, h] using hc
    · cases hx
  · cases hx

/-! ### Controller writes (R27, R34) -/

/-- R27, R29: what a granted write does: it lands, and in bypass that is all; out of it a late write raises its flag,
and a write with an enabled byte has its checks made. -/
theorem forwardWrite_cases (n : LineNo) (d : Line) (m : Mask) (s : State) :
    (s.bypass = true ∧ forwardWrite n d m s = writeLine (forwardAddr (lineAddr n) s) d m s)
      ∨ (s.bypass = false ∧ m = 0
          ∧ forwardWrite n d m s
            = (let s1 := writeLine (forwardAddr (lineAddr n) s) d m s
               raiseIf (isLateWrite (lineAddr n) s1) .lateWrite s1))
      ∨ (s.bypass = false ∧ m ≠ 0
          ∧ forwardWrite n d m s
            = (let s1 := writeLine (forwardAddr (lineAddr n) s) d m s
               writeChecks (lineAddr n) (forwardAddr (lineAddr n) s) m
                 (raiseIf (isLateWrite (lineAddr n) s1) .lateWrite s1))) := by
  unfold forwardWrite
  cases h : s.bypass
  · by_cases hm : m = 0
    · exact .inr (.inl ⟨rfl, hm, by simp [h, hm]⟩)
    · exact .inr (.inr ⟨rfl, hm, by simp [h]; exact fun h0 => absurd h0 hm⟩)
  · exact .inl ⟨rfl, by simp [h]⟩

/-! ### The head of the queue (R28, R51) -/

/-- R28, R51: what the Cue Decoder answers: a read of the progress line, out of bypass, while the lane is occupied. -/
theorem decoderAnswers_iff (t : Transaction) (s : State) :
    decoderAnswers t s = true
      ↔ s.bypass = false ∧ laneOccupied s = true ∧ ∃ line, t = .read line ∧ lineAddr line = apertureLine 1 s := by
  cases t with
  | read line => simp [decoderAnswers, isApertureLine]; tauto
  | write line data mask => simp [decoderAnswers]

/-- R28: the decision is that of the entry at the head. -/
theorem decideHead_iff (s : State) :
    (decideHead s).path.headAnswered = true ↔ ∃ t rest, s.path.queue = t :: rest ∧ decoderAnswers t s = true := by
  unfold decideHead
  cases h : s.path.queue <;> simp

/-- R61: the attention line follows the latches. -/
theorem attention_iff (s : State) : attention s = true ↔ s.decoder.latches ≠ 0 := by simp [attention]

/-! ### Pixels (R16, R161) -/

@[simp] theorem linePixels_length (l : Line) : (linePixels l).length = 16 := by simp [linePixels]

/-- A row whose pixels fit in the zone is as long as the zone is wide. -/
theorem rowOf_length (z : ZoneRec) (start : Nat) (px : List Pixel) (h : start + px.length ≤ z.w) :
    (rowOf z start px).length = z.w := by
  simp [rowOf]; omega

/-! ### Ribbons at a boundary (R133) -/

/-- R133: an outcome is handed on exactly where it commits a list or leaves another entry than `old`. -/
def HandedOn (old : RibbonEntry) (o : RibbonOutcome) : Prop := o.bumped = (o.committed || old != o.ribbon.entry)

theorem startRibbon_handedOn (p : ClockPhase) (r : Ribbon) : HandedOn r.entry (startRibbon p r) := by
  obtain ⟨_, c, g, _, _, _⟩ := r
  cases c <;> cases g <;> simp [HandedOn, startRibbon, commitOutcome, entryOutcome]

theorem advanceRibbon_handedOn (p : ClockPhase) (r : Ribbon) : HandedOn r.entry (advanceRibbon p r) := by
  obtain ⟨_, c, g, _, _, _⟩ := r
  cases c <;> cases g <;> simp only [HandedOn, advanceRibbon]
  case some.some => split <;> simp [commitOutcome, entryOutcome]
  all_goals simp [entryOutcome]

theorem turnOff_handedOn (r : Ribbon) : HandedOn r.entry (turnOff r) := by
  obtain ⟨_, c, g, _, _, _⟩ := r
  cases g <;> simp [HandedOn, turnOff, commitOff, commitOutcome, entryOutcome]

/-- R133: so is a ribbon's work at a boundary. -/
theorem ribbonBoundary_handedOn (p : ClockPhase) (r : Ribbon) : HandedOn r.entry (ribbonBoundary p r) := by
  unfold ribbonBoundary
  dsimp only
  split
  · simp [HandedOn]
  · exact startRibbon_handedOn p r
  · split
    · exact advanceRibbon_handedOn p { r with dwell := r.dwell - 1 }
    · simp [HandedOn]
  · split
    · exact turnOff_handedOn { r with dwell := r.dwell - 1 }
    · simp [HandedOn]

/-- R44, R50: the arrival of a line whose data are dropped frees the port. -/
theorem arrival_dropped {mine : FlightOrigin → Bool} {use : Line → State → State} {s : State} {f : Flight}
    (h : s.port = some f) (hm : mine f.origin = true) (hd : f.dropped = true) :
    arrival mine use s = { s with port := none } := by
  simp [arrival, h, hm, hd]

/-! ### The air (R159) -/

/-- R159, R161: the choice at the end of an event, with the MESSAGE zone's bump exactly where a record left the air or
one came on. -/
theorem settleAirIn_cases (zone : Option ZoneRec) (left : Bool) (s : State) :
    (settleAirIn zone left s = airChanged (putOnAirIn zone s)
        ∧ (left = true ∨ s.messages.onAir = none ∧ (putOnAirIn zone s).messages.onAir.isSome = true))
      ∨ (settleAirIn zone left s = putOnAirIn zone s ∧ left = false) := by
  unfold settleAirIn
  cases left
  · cases h : s.messages.onAir <;> cases h' : (putOnAirIn zone s).messages.onAir <;> simp [h']
  · simp

/-- R159: nothing is chosen while a record is on air, with no MESSAGE zone, or while the alert is ON_AIR. -/
theorem putOnAirIn_idle {zone : Option ZoneRec} {s : State}
    (h : s.messages.onAir.isSome = true ∨ zone = none ∨ alertOnAir s = true) : putOnAirIn zone s = s := by
  unfold putOnAirIn
  split
  · next h1 h2 h3 => simp_all
  · rfl

/-- With no layout waiting for the boundary, the zone the boundary leaves is the current MESSAGE zone (log 31). -/
theorem boundaryZone_settled {s : State} (h : s.sweep.load = none) : boundaryZone s = messageZone s := by
  simp [boundaryZone, h]

/-! ### The clip at a boundary (R111) -/

/-- R111: only a PLAYING clip takes a step. -/
theorem stepPlaying_other {c : Clip} (h : c.state ≠ .playing) : stepPlaying c = (c, false) := by
  simp [stepPlaying, h]

/-- R111: applying the pending values leaves the index alone. -/
@[simp] theorem readyClip_index (p : ClockPhase) (c : Clip) : (readyClip p c).index = c.index := by
  unfold readyClip releaseGuard; split <;> rfl

/-- R111: applying the pending values applies the pending angle. -/
@[simp] theorem readyClip_angle (p : ClockPhase) (c : Clip) : (readyClip p c).angle = c.pendingAngle.getD c.angle := by
  unfold readyClip releaseGuard; split <;> rfl

/-! ### Exposure entries (R145) -/

/-- R145: an entry balances. -/
def Balanced (e : ExposureEntry) : Prop := e.credited + e.unshown + e.occluded + e.dimmed = e.scheduled

theorem newEntry_balanced (n : Nat) : Balanced (newEntry n) := rfl

/-- R145, R148: a scheduled unit keeps the balance, whatever its settlement. -/
theorem scheduleUnit_balanced (u : UnitSettlement) (e : ExposureEntry) (h : Balanced e) : Balanced (scheduleUnit u e) := by
  unfold scheduleUnit
  split
  · exact h
  · simp only [Balanced] at *
    cases u <;> simp <;> omega

theorem creditMoment_balanced (e : ExposureEntry) (h : Balanced e) : Balanced (creditMoment e) := by
  unfold creditMoment; split <;> simpa [Balanced] using h

end Sys2Proof.Machine
end

