-- ==== Sys2Proof/Tests/Slice0.lean ====
section
/-! SUPPORT. The model's own tests: ill-formed commands refused, cue lines read from bytes written out by hand, values of
the spec's worked examples, and a witness for the hypotheses of each statement. -/

namespace Sys2Proof.Tests

open Sys2Proof Sys2Proof.Machine Sys2Proof.Safety

/-! ### Helpers -/

/-- The part after initialisation, with nothing loaded. -/
def bare : State :=
  { State.reset with bypass := false, pins := { reset := false, venue := false, heat := false, linkReady := true } }

/-- The state that a command answers. -/
def after (i : Instr) (s : State) : State :=
  match exec i s with
  | .next t => t
  | _ => s

/-- A line from its first bytes, byte 0 first; the rest are 0. -/
def lineOf (bytes : List Nat) : Line := BitVec.ofNat 512 (bytes.foldr (fun b n => b + 256 * n) 0)

/-- `n` commands alike. -/
def times (n : Nat) (i : Instr) (s : State) : State := (after i)^[n] s

def rec16 (id : Nat) (role : Role) (layer : Nat) : ZoneRec :=
  { id := id, role := role, layer := layer, enabled := true, x := 0, y := 0, w := 64, h := 16, backdrop := 0 }

def zoneOf (r : ZoneRec) : Zone :=
  { cfg := r, epoch := 7, receiver := .stale, lastEpoch := 0, lastIdent := none, underruns := 0 }

def screen : ScreenHeader := { width := 1280, height := 640, rate := 50, backdrop := 0 }

/-- A current layout of these zones. -/
def shown (l : List ZoneRec) (s : State) : State :=
  { s with sweep := { s.sweep with header := some screen, zones := l.map zoneOf, rate := 50 } }

def clipA : Clip :=
  { state := .armed, endedDark := false, id := 300, bases := [0x10000000, 0x20000000, 0x30000000], stride := 4096
    frames := 600, inPoint := 100, outPoint := 400, behaviour := .haltHold, growing := false, index := 100, angle := 0
    pendingAngle := none, rate := 256, pendingRate := none, acc := 0, mark := -1, window := 0, chase := none
    heldByAlert := false }

def withClip (c : Clip) (s : State) : State := { s with replay := { s.replay with current := some c } }

def laneOf (cue : LongCue) (phase : LanePhase) (final : Option FinalRecord) : Lane :=
  { cue := cue, tag := 41, phase := phase, records := 0, toggle := false, final := final }

def withLane (l : Lane) (s : State) : State := { s with decoder := { s.decoder with lane := some l } }

def withPort (origin : FlightOrigin) (data : Line) (s : State) : State :=
  { s with port := some { origin := origin, data := data, dropped := false } }

def withQueue (l : List Transaction) (s : State) : State := { s with path := { s.path with queue := l } }

def clockAt (v : Nat) (d : Direction) : Clock :=
  { value := v, running := true, direction := d, slew := 0, slewPhase := 0 }

def withGame (c : Clock) (k : ConsoleState) (s : State) : State :=
  { s with clock := { s.clock with game := c, console := k } }

def house12 : House :=
  { zone := 12, bufA := 0x100000000, bufB := 0x100100000, size := 409600, onAir := .a, flip := .steady
    timeout := 0, idle := none, stale := false }

def withHouse (h : House) (s : State) : State := { s with path := { s.path with houses := [h] } }

def msg (id priority remaining : Nat) : Message :=
  { id := id, priority := priority, sponsor := 0, mode := .still 250, width := 64, height := 16, repeats := remaining
    addr := 0x40000000, remaining := remaining }

def postOf (id : Half) (priority : Byte) : MessageOperand :=
  { id := id, priority := priority, sponsor := 0, mode := 0, speed := 0, width := 64, height := 16, duration := 250
    repeats := 1, addr := 0x40000000 }

def withMessages (onAir : Option OnAir) (q : List Message) (s : State) : State :=
  { s with messages := { s.messages with queue := q, onAir := onAir } }

def slotAt (id duty dwell : Nat) (p : PhaseSet) : SlotRec :=
  { content := .sponsor id duty 0x50000000, phases := p, dwell := dwell }

/-- The list of the rotation example of 07, at a small creative size. -/
def fourSlots : SlotList :=
  { slots := [slotAt 17 5 250 .any, slotAt 23 3 500 .stopped, { content := .skip, phases := .any, dwell := 125 },
      slotAt 31 4 250 .running]
    house := 0x58000000, w := 64, h := 16 }

def ribbonIn (state : RibbonState) (entry : RibbonEntry) (dwell search : Nat) : Ribbon :=
  { state := state, committed := some fourSlots, staged := none, entry := entry, dwell := dwell, search := search }

def withRibbon (r : Ribbon) (s : State) : State := { s with rotation := { s.rotation with a := r } }

def entryOf (sponsor : Nat) : ExposureEntry :=
  { sponsor := sponsor, scheduled := 0, credited := 0, unshown := 0, occluded := 0, dimmed := 0, moment := 0
    frozen := false }

def withEntries (l : List ExposureEntry) (s : State) : State := { s with exposure := { s.exposure with entries := l } }

def slotOf (r : ZoneRec) (settlement : Settlement) (ident : Ident) (runs : List Run) : Slot :=
  { zone := r, active := true, visible := true, ident := ident, epoch := 7, settlement := settlement, shape := .whole
    fetch := { runs := runs, got := [] }, closed := none }

/-- What SPONSOR zone 3 and MESSAGE zone 9 of the tests show. -/
def sponsorIdent (raster : Nat) : Ident := .shown 1 (.sponsor .a) (.sponsorSlot 0 17 5 raster)

def messageIdent : Ident := .shown 4 .message (.message 900 17 0x40000000 0)

def inFrame (l : List Slot) (s : State) : State := { s with sweep := { s.sweep with frame := .zones l } }

def withAlert (a : AlertState) (s : State) : State := { s with alert := { s.alert with state := a } }

def withDebounce (n : Option Nat) (s : State) : State :=
  { s with alert := { s.alert with debounce := n }, pins := { s.pins with venue := true } }

def heated (state : ThermalState) (b : Bool) (warm cool : Option Nat) (s : State) : State :=
  { s with
    pins := { s.pins with heat := b }
    brightness := { s.brightness with state := state, warm := warm, cool := cool } }

/-- The units' work in one order. -/
def order : List BoundaryTask := [.layout, .alert, .replay, .rotation, .message]

/-- A boundary in that order. -/
def boundary : Instr := .sweepBoundary order false

/-! ### Ill-formed commands -/

theorem test_wellFormed_order : (Instr.sweepBoundary [.layout, .layout] false).wellFormed = false
    ∧ boundary.wellFormed = true := by decide

theorem test_wellFormed_beacon :
    (Instr.beacon { gameValue := 0, gameRunning := 2, direction := 0, secondaryValue := 0, secondaryRunning := 0, period := 1 }
      ).wellFormed = false := by decide

theorem test_wellFormed_zone : (Instr.idleTimerExpiry 24).wellFormed = false
    ∧ (Instr.idleTimerExpiry 23).wellFormed = true := by decide

theorem test_wellFormed_target : (Instr.cancelStaged 1 0).wellFormed = false := by decide

/-! ### Cue lines, byte by byte from the tables of 03 section 3.11 -/

/-- LAYOUT LOAD, ROTATION AMEND, EXPOSURE SNAPSHOT. -/
theorem test_decode_long_cues :
    decodeCue (lineOf [0xA7, 0x51, 0x01, 0, 0x02, 0x01, 0, 0, 0x40, 0x89, 0x67, 0x45, 0x03])
      = .cue (.layoutLoad 0x0102 0x345678940)
      ∧ decodeCue (lineOf [0xA7, 0x51, 0x04, 0, 9, 0, 1, 1, 0, 4, 0x00, 0x05, 0x40, 0x01, 0, 0,
        0, 0, 0x10, 0, 0, 0, 0, 0, 0, 0xF4, 0xFF, 0xBF])
      = .cue (.rotationAmend 9 { ribbon := 1, mode := 1, commitPoint := 0, count := 4, width := 1280, height := 320
                                 house := 0x100000, slots := 0xBFFFF400 })
      ∧ decodeCue (lineOf [0xA7, 0x51, 0x05, 0, 70, 0, 1, 0, 0, 0xF4, 0xFF, 0xBF])
      = .cue (.exposureSnapshot 70 1 0 0xBFFFF400) := by
  decide +kernel

/-- FLIP, CLIP PLAY, RIBBON DISABLE, MESSAGE POST, SCORE SET. -/
theorem test_decode_content_cues :
    decodeCue (lineOf [0xA7, 0x51, 0x10, 0, 1, 0, 12]) = .cue (.flip 1 12)
      ∧ decodeCue (lineOf [0xA7, 0x51, 0x21, 0, 2, 0, 0x80, 0x01, 1]) = .cue (.clipPlay 2 384 1)
      ∧ decodeCue (lineOf [0xA7, 0x51, 0x31, 0, 3, 0, 1]) = .cue (.ribbonDisable 3 1)
      ∧ decodeCue (lineOf [0xA7, 0x51, 0x40, 0, 4, 0, 0, 0, 0x9C, 0x01, 1, 17, 1, 8, 0xA0, 0x0F,
        0xA0, 0, 0, 0, 2, 0, 0, 0, 0x40, 0, 0, 0, 1])
      = .cue (.messagePost 4 { id := 412, priority := 1, sponsor := 17, mode := 1, speed := 8, width := 4000, height := 160
                               duration := 0, repeats := 2, addr := 0x100000040 })
      ∧ decodeCue (lineOf [0xA7, 0x51, 0x73, 0, 8, 0, 24, 0, 17, 0, 1, 2])
      = .cue (.scoreSet 8 { home := 24, guest := 17, homeAux := 1, guestAux := 2 }) := by
  decide +kernel

/-- ALERT STANDING SET, BRIGHTNESS SET, CLOCK SET, STATUS CLEAR, both CANCEL rows. -/
theorem test_decode_system_cues :
    decodeCue (lineOf [0xA7, 0x51, 0x50, 0, 5, 0, 1, 0, 0, 0, 0, 0x10, 0, 0, 0, 0, 0x11, 0x22, 0x33, 0x44])
      = .cue (.alertStandingSet 5 1 0x10000000 0x44332211)
      ∧ decodeCue (lineOf [0xA7, 0x51, 0x60, 0, 6, 0, 6, 4]) = .cue (.brightnessSet 6 6 4)
      ∧ decodeCue (lineOf [0xA7, 0x51, 0x70, 0, 7, 0, 0, 0, 0xE0, 0x2E, 0, 0, 1, 1, 0, 3, 1, 0, 0, 0, 0xC0, 0x5D])
      = .cue (.clockSet 7 { gameValue := 12000, direction := 1, gameRunning := 1, tenths := 0, period := 3, source := 1
                            secondaryRunning := 0, secondaryValue := 24000 })
      ∧ decodeCue (lineOf [0xA7, 0x51, 0x80, 0, 8, 0, 0, 0, 0x00, 0x22]) = .cue (.statusClear 8 0x2200)
      ∧ decodeCue (lineOf [0xA7, 0x51, 0x82, 0, 8, 0, 0]) = .cue (.cancelLong 8)
      ∧ decodeCue (lineOf [0xA7, 0x51, 0x82, 0, 8, 0, 2]) = .cue (.cancelStaged 8 2) := by
  decide +kernel

/-- A wrong signature, a flags byte of 1, and a code that no cue has. -/
theorem test_decode_no_cue :
    decodeCue (lineOf [0xA7, 0x52, 0x10]) = .notCue
      ∧ decodeCue (lineOf [0xA7, 0x51, 0x10, 1, 5]) = .unknown 0x10 5
      ∧ decodeCue (lineOf [0xA7, 0x51, 0x27, 0, 5]) = .unknown 0x27 5 := by
  decide +kernel

/-! ### Values of the spec's worked examples -/

/-- 04, "display values". -/
theorem test_display_values :
    gameText true (clockAt 754001 .down) = [.digit 1, .digit 2, .colon, .digit 3, .digit 5]
      ∧ gameText true (clockAt 59950 .down) = [.blank, .digit 1, .colon, .digit 0, .digit 0]
      ∧ gameText true (clockAt 59900 .down) = [.blank, .digit 5, .digit 9, .dot, .digit 9]
      ∧ gameText true (clockAt 1 .down) = [.blank, .blank, .digit 0, .dot, .digit 1]
      ∧ gameText false (clockAt 1001 .down) = [.blank, .digit 0, .colon, .digit 0, .digit 2]
      ∧ gameText true (clockAt 61999 .up) = [.blank, .digit 1, .colon, .digit 0, .digit 1]
      ∧ secondaryText true (clockAt 4950 .down) = [.blank, .blank, .digit 5]
      ∧ secondaryText true (clockAt 4999 .up) = [.digit 4, .dot, .digit 9] := by decide

/-- 04 section 4.1: the SCORE frame for home 21, guest 17, home aux 3, guest aux 0. -/
theorem test_score_frame_bytes :
    (match runCommands
        ([0x7E, 0x02, 0x06, 0x15, 0x00, 0x11, 0x00, 0x03, 0x00, 0x31, 0x7F].map (fun b => .timingLineByte b false)) bare with
      | .next t => some (t.figures.home, t.figures.guest, t.figures.homeAux, t.figures.guestAux)
      | _ => none) = some (21, 17, 3, 0) := by decide

/-- 04, "a slew worked off": the beacon, and the tenth event. -/
theorem test_slew :
    let p : BeaconPayload :=
      { gameValue := 45300, gameRunning := 1, direction := 0, secondaryValue := 0, secondaryRunning := 0, period := 1 }
    let s := after (.beacon p) (withGame (clockAt 45327 .down) .locked bare)
    s.clock.game.slew = -27 ∧ (times 9 .clockTimebaseStep s).clock.game.value = 45318
      ∧ (times 10 .clockTimebaseStep s).clock.game.value = 45316
      ∧ (times 10 .clockTimebaseStep s).clock.game.slew = -26 := by decide

/-- 04, "snaps". -/
theorem test_snap :
    let p : BeaconPayload :=
      { gameValue := 12400, gameRunning := 1, direction := 0, secondaryValue := 0, secondaryRunning := 0, period := 1 }
    let s := after (.beacon p) (withGame (clockAt 12000 .down) .locked bare)
    s.clock.game.value = 12400 ∧ flagUp .clockSnap s = true := by decide

/-- 02, "a flip with a late write": where the host view leads before and after the boundary. -/
theorem test_flip_exchanges :
    let s := after (.flip 1 12) (withHouse house12 bare)
    redirect 0x100000040 s = 0x100100040 ∧ redirect 0x100000040 (after boundary s) = 0x100000040 := by decide

/-- 02, "the chase window": frames 101, 102, 100, 170, 103. -/
theorem test_chase_window :
    let c : Clip := { clipA with growing := true, frames := 500, mark := 99 }
    let d := recordFrame 100 (recordFrame 102 (recordFrame 101 c))
    (recordFrame 102 (recordFrame 101 c)).mark = 99 ∧ d.mark = 102 ∧ recordFrame 170 d = d
      ∧ (recordFrame 103 d).mark = 103 := by decide

/-- 03, "attention latches": the first three rows and the second underrun. -/
theorem test_attention_latches :
    let s := after (.attentionMask 1 0x2200) (raise .zoneUnderrun bare)
    attention s = false ∧ (raise .alertOnAir s).decoder.latches = 0x200#19
      ∧ (raise .zoneUnderrun (after (.statusClear 2 0x2000) (raise .alertOnAir s))).decoder.latches = 0x2200#19 := by
  decide

/-- 06, "a loop" and "an angle sweep": the new index, angle and state. -/
theorem test_cadence :
    let loop : Clip :=
      { clipA with state := .playing, inPoint := 10, outPoint := 12, index := 12, rate := 512, behaviour := .loop }
    let sweep : Clip :=
      { clipA with state := .playing, inPoint := 40, outPoint := 43, index := 42, angle := 2, rate := 512
                   behaviour := .angleSweep }
    ((after boundary (withClip loop bare)).replay.current.map (·.index) = some 11)
      ∧ ((after boundary (withClip sweep bare)).replay.current.map (fun c => (c.index, c.angle, c.state))
          = some (43, 2, .ended)) := by decide

/-- 07, "a rotation through the clock phases": boundaries 1,250 and 1,375. -/
theorem test_rotation :
    let s := withGame (clockAt 60000 .down) .locked (withRibbon (ribbonIn .on (.slot 0) 1 0) bare)
    let t := withRibbon (ribbonIn .on (.slot 2) 1 2) bare
    (after boundary s).rotation.a = ribbonIn .on (.slot 2) 125 2
      ∧ (after boundary t).rotation.a = ribbonIn .on (.slot 0) 250 0 := by decide

/-- 09, "a queue at work": step 3, the preempting post, and the queue it leaves. -/
theorem test_preempting_post :
    let q := [msg 500 2 1, msg 501 2 1, msg 503 1 1, msg 502 0 1]
    let s := withMessages (some { msg := msg 412 1 2, showing := .crawl 80 }) q bare
    ((after (.messagePost 1 (postOf 600 3)) s).messages.queue.map (·.id) = [500, 501, 412, 503, 502]) := by decide

/-- 08, "crediting over four frames": frame N + 1, zone 3 visible at duty 4 below 5. -/
theorem test_dimmed_unit :
    let x := slotOf (rec16 3 (.sponsor .a) 1) .held (sponsorIdent 0x50000000) []
    let s := inFrame [x] (withEntries [entryOf 17] bare)
    (after .slotDeadline { s with sweep := { s.sweep with duty := 4 } }).exposure.entries
      = [{ entryOf 17 with scheduled := 1, dimmed := 1 }] := by decide

/-- 10, "the cabinet runs hot": the 2,000th event, and BRIGHTNESS SET 8, 7 in HOLD. -/
theorem test_hot_cabinet :
    let s := after .warmTimerExpiry (heated .warming true (some 1) none bare)
    let t := after (.brightnessSet 1 8 7) s
    s.brightness.effective = 4 ∧ flagUp .thermalHold s = true
      ∧ t.brightness.pendingThermal = some 7 ∧ t.brightness.effective = 4 := by decide

/-- 02, "grants under load": the pointer after grants 1 to 3. -/
theorem test_grant_order :
    let x := slotOf (rec16 3 (.sponsor .a) 1) .toFetch (sponsorIdent 0) [{ addr := 0, lines := 64 }]
    let s := withQueue [.read 5, .read 6, .read 7] (inFrame [x] bare)
    let g (s : State) : State := { after .mportGrant s with port := none }
    (g s).turn = 1 ∧ (g (g s)).turn = 2 ∧ (g (g (g s))).turn = 0 ∧ (g (g (g s))).path.queue = [.read 6, .read 7] := by
  decide

/-! ### Witnesses: states that meet the hypotheses of each statement, clause by clause -/

theorem witness_StepRunsFrontCommand :
    ({ bare with pending := [.mportGrant, .coldReset] } : State).pending = .mportGrant :: [.coldReset]
      ∧ bare.pending = [] := ⟨rfl, rfl⟩

theorem witness_InitialisationTakesTenEvents :
    State.reset.pins.reset = true ∧ State.reset.bypass = true ∧ 0 < 9 ∧ 8 < 9
      ∧ ({ State.reset with initCount := some 1 } : State).initCount = some 1 ∧ 1 ≤ 1 := by decide

def gather (n left : Nat) (timer : Option Nat) : Gather :=
  { ribbon := .a, list := { fourSlots with slots := List.replicate n { content := .skip, phases := .any, dwell := 25 } }
    point := .atSlot, next := 0, left := left, timer := timer }

def finalDone : FinalRecord := { result := .done, detail := 3 }

def snapOf (lines : List SnapshotLine) : Snapshot :=
  { image := [entryOf 17, entryOf 23, entryOf 31], number := 5, tag := 41, zero := false, purge := false
    dest := 0x20000000, lines := lines, written := 0 }

def withSnapshot (p : Snapshot) (s : State) : State := { s with exposure := { s.exposure with snapshot := some p } }

/-- A lane with no cue, with a settled one, with one in flight, and with a snapshot in flight. -/
theorem witness_RestartTakesWarmValues :
    let running := withLane (laneOf .layoutLoad .fetching none) bare
    let writing := withSnapshot (snapOf [.header .complete]) (withLane (laneOf .exposureSnapshot .writing none) bare)
    bare.bypass = false ∧ bare.decoder.lane = none
      ∧ (withLane (laneOf .layoutLoad .writing (some finalDone)) bare).decoder.lane
          = some (laneOf .layoutLoad .writing (some finalDone))
      ∧ running.decoder.lane = some (laneOf .layoutLoad .fetching none) ∧ running.exposure.snapshot = none
      ∧ writing.decoder.lane = some (laneOf .exposureSnapshot .writing none)
      ∧ writing.exposure.snapshot = some (snapOf [.header .complete]) := by decide

/-- Masks at both ends of the reserved bits, a mask of every flag, and a flag that it names; then a flag that is clear
with its latch clear and its mask bit clear. -/
theorem witness_StatusClearAndAttentionMask :
    bare.bypass = false ∧ (0x80000 : Word).getLsbD 19 = true ∧ (0x80000000 : Word).getLsbD 31 = true
      ∧ (∀ n, 19 ≤ n → n < 32 → (0x7FFFF : Word).getLsbD n = false)
      ∧ (0x7FFFF : Word).getLsbD (flagBit .longCueDone) = true ∧ flagUp .longCueDone bare = false
      ∧ bare.decoder.latches.getLsbD (flagBit .longCueDone) = false
      ∧ bare.decoder.mask.getLsbD (flagBit .longCueDone) = false := by
  refine ⟨by decide, by decide, by decide, ?_, by decide, by decide, by decide, by decide⟩
  intro n h k
  interval_cases n <;> decide

/-- A queue of 31 and one of 32; a write and a read at the head, in bypass and out of it. -/
theorem witness_TransactionsJoinAndAreForwarded :
    (withQueue (List.replicate 31 (.read 5)) bare).path.queue.length < 32
      ∧ 32 ≤ (withQueue (List.replicate 32 (.read 5)) bare).path.queue.length
      ∧ Memory.wf bare.mem ∧ bare.port = none ∧ bare.turn = 0 ∧ State.reset.port = none ∧ State.reset.turn = 0
      ∧ HeadWrite 5 1 fullMask [] (withQueue [.write 5 1 fullMask] bare)
      ∧ HeadWrite 5 1 fullMask [] (withQueue [.write 5 1 fullMask] State.reset)
      ∧ bare.status.captureDue = false ∧ (withQueue [.read 5] bare).path.queue = .read 5 :: []
      ∧ (withQueue [.read 5] bare).path.headAnswered = false :=
  ⟨by decide, by decide, by decide, rfl, rfl, rfl, rfl, ⟨rfl, rfl⟩, ⟨rfl, rfl⟩, rfl, rfl, rfl⟩

/-- R28, R51: with a long cue in flight a read of line 1 that joins an empty queue, or follows a read that leaves it, is
to be answered; a read of line 2 is not, nor one of line 1 with the lane idle. -/
theorem test_progress_read_is_decided_at_the_head :
    let busy := withLane (laneOf .layoutLoad .fetching none) bare
    let joined (line : LineNo) (s : State) := (after (.transactionAccepted (.read line)) s).path.headAnswered
    HeadIsProgressRead (withQueue [.read 0xFFFFC1] busy)
      ∧ joined 0xFFFFC1 busy = true ∧ joined 0xFFFFC2 busy = false ∧ joined 0xFFFFC1 bare = false
      ∧ (after .mportGrant (withQueue [.read 5, .read 0xFFFFC1] busy)).path.headAnswered = true :=
  ⟨⟨rfl, nofun, _, _, rfl, by decide⟩, by decide, by decide, by decide, by decide +kernel⟩

/-- The last byte of a host view, and the byte after it. -/
theorem witness_RedirectMissesTheBufferOnAir :
    hostOf (0x100000000 + 409599) (withHouse house12 bare) = some house12
      ∧ house12.bufA + house12.size ≤ house12.bufB
      ∧ hostOf (0x100000000 + 409600) (withHouse house12 bare) = none := by decide

/-- The first line of the host view, and a line outside it; with no byte enabled, in FLIP_PENDING. -/
theorem witness_GrantedWritesReachTheirZones :
    let inside := withQueue [.write 0x4000000 1 1] (withHouse house12 bare)
    let outside := withQueue [.write 5 1 0] (withHouse house12 bare)
    let empty := withQueue [.write 0x4000000 1 0] (withHouse { house12 with flip := .flipPending } bare)
    PortReady 0 inside ∧ HeadWrite 0x4000000 1 1 [] inside ∧ (1 : Mask) ≠ 0
      ∧ lineAddr 0x4000000 ≠ apertureLine 0 inside ∧ hostOf (lineAddr 0x4000000) inside = some house12
      ∧ PortReady 0 outside ∧ HeadWrite 5 1 0 [] outside
      ∧ lineAddr 5 ≠ apertureLine 0 outside ∧ hostOf (lineAddr 5) outside = none
      ∧ PortReady 0 empty ∧ HeadWrite 0x4000000 1 0 [] empty
      ∧ hostOf (lineAddr 0x4000000) empty = some { house12 with flip := .flipPending }
      ∧ flagUp .lateWrite (after .mportGrant empty) = true :=
  ⟨⟨rfl, rfl, rfl, rfl⟩, ⟨rfl, rfl⟩, by decide, by decide, by decide, ⟨rfl, rfl, rfl, rfl⟩, ⟨rfl, rfl⟩,
    by decide, by decide, ⟨rfl, rfl, rfl, rfl⟩, ⟨rfl, rfl⟩, by decide, by decide +kernel⟩

/-- The frame at the mark, the first and the last of the window, and the one above it. -/
theorem witness_ChaseWindowAdvancesOverSetRun :
    let c : Clip := { clipA with growing := true, mark := 99 }
    ((99 : Nat) : Int) ≤ c.mark ∧ c.mark + 64 < (164 : Nat)
      ∧ (0 < 64 ∧ ((100 : Nat) : Int) = c.mark + 1 + (0 : Nat)) ∧ (63 < 64 ∧ ((163 : Nat) : Int) = c.mark + 1 + (63 : Nat)) := by
  decide

/-- A growing clip in chase wait, current and, with its mark at 598, on deck; and the two marks and chase timers after a
write to a line. -/
def growsOnDeck (line : LineNo) : State :=
  let g : Clip := { clipA with growing := true, mark := -1, chase := some 5 }
  withQueue [.write line 1 1] (shown [rec16 1 .replay 0]
    { bare with replay := { bare.replay with current := some g, onDeck := some { g with mark := 598 } } })

def marksAfter (line : LineNo) : List (Int × Option Nat) :=
  let r := (after .mportGrant (growsOnDeck line)).replay
  (r.current.toList ++ r.onDeck.toList).map (fun c => (c.mark, c.chase))

/-- Writes to the last line of the first and of the last frame, and to the line before that of the first. -/
theorem witness_ChaseSnoop :
    marksAfter 0x40003F = [(0, some 2000), (598, some 5)] ∧ marksAfter 0x4095FF = [(-1, some 5), (599, some 5)]
      ∧ marksAfter 0x40003E = [(-1, some 5), (598, some 5)] := by decide +kernel

/-- Zone 3's slot, with 64 lines to fetch. -/
def fetchSlot : Slot :=
  slotOf (rec16 3 (.sponsor .a) 1) .toFetch (sponsorIdent 0) [{ addr := 0x50000000, lines := 64 }]

/-- A read that waits with the pointer at 0, a sweep fetch with it at 2, and no requester waiting. -/
theorem witness_GrantFollowsTurnPointer :
    PortReady 0 (withQueue [.read 5] bare) ∧ waits (requesterAt (0 + 0)) (withQueue [.read 5] bare) = true
      ∧ PortReady 2 { inFrame [fetchSlot] bare with turn := 2 }
      ∧ waits (requesterAt (2 + 1)) { inFrame [fetchSlot] bare with turn := 2 } = true
      ∧ (∀ j : Fin 4, j < 1 → waits (requesterAt (2 + j)) { inFrame [fetchSlot] bare with turn := 2 } = false)
      ∧ ∀ k : Fin 4, waits (requesterAt k) bare = false :=
  ⟨⟨rfl, rfl, rfl, rfl⟩, by decide, ⟨rfl, rfl, rfl, rfl⟩, by decide, by decide, by decide⟩

/-- An alert slot with a raster of 64 lines to fetch. -/
def alertSlot : AlertSlot :=
  { raster := some 0x50000000, colour := 0xFF, fetch := { runs := [{ addr := 0x50000000, lines := 64 }], got := [] }
    sending := true, closed := false }

def inAlertFrame (x : AlertSlot) (s : State) : State := { s with sweep := { s.sweep with frame := .alert x } }

theorem witness_SweepLinesAreGrantedAndArrive :
    let s : State := { inFrame [fetchSlot] bare with turn := 1 }
    let t : State := { inAlertFrame alertSlot bare with turn := 1 }
    PortReady 1 s ∧ s.sweep.frame = .zones ([] ++ fetchSlot :: [])
      ∧ List.find? Slot.fetching [fetchSlot] = some fetchSlot
      ∧ fetchSlot.fetch.runs = { addr := 0x50000000, lines := 64 } :: [] ∧ fetchSlot.fetching = true
      ∧ (withPort (.slot 3) 1 s).port = some { origin := .slot 3, data := 1, dropped := false }
      ∧ PortReady 1 t ∧ t.sweep.frame = .alert alertSlot ∧ alertSlot.closed = false ∧ alertSlot.sending = true
      ∧ alertSlot.fetch.runs = { addr := 0x50000000, lines := 64 } :: []
      ∧ (withPort .alertSlot 1 t).port = some { origin := .alertSlot, data := 1, dropped := false } :=
  ⟨⟨rfl, rfl, rfl, rfl⟩, rfl, by decide, rfl, by decide, rfl, ⟨rfl, rfl, rfl, rfl⟩, rfl, rfl, rfl, rfl, rfl⟩

/-- The part's turn after the first status image: a record line of each owner, a status line, a final record with a
settled snapshot standing, and a snapshot's lines; and before the image, a final record and a snapshot line in aperture
line 8. -/
theorem witness_PartLinesLandInOrder :
    let s : State := { bare with turn := 2, status := { bare.status with image := some 0 } }
    let record (c : LongCue) (u : State) : State := withLane (laneOf c .fetching none) u
    let load : State := { s with
      sweep := { s.sweep with load := some { addr := 64, lines := [1], count := 3, pending := none } }
      figures := { s.figures with load := some { addr := 128, lines := [1, 2] } }
      replay := { s.replay with arm := some { addr := 256, header := some 1 } }
      rotation := { s.rotation with gather := some (gather 0 2 none) } }
    let status : State := { s with status := { s.status with lines := [{ number := 2, data := 1 }] } }
    let snap (l : List SnapshotLine) := withSnapshot (snapOf l) (withLane (laneOf .exposureSnapshot .writing none) s)
    let final := withSnapshot (snapOf []) (withLane (laneOf .exposureSnapshot .writing (some finalDone)) s)
    let early (p : Snapshot) : State := withSnapshot p { final with status := bare.status }
    PortReady 2 load ∧ (∀ c, (record c load).decoder.lane = some (laneOf c .fetching none))
      ∧ load.sweep.load = some { addr := 64, lines := [1], count := 3, pending := none }
      ∧ load.figures.load = some { addr := 128, lines := [1, 2] }
      ∧ load.replay.arm = some { addr := 256, header := some 1 } ∧ load.rotation.gather = some (gather 0 2 none)
      ∧ PortReady 2 status ∧ Memory.wf status.mem ∧ status.decoder.lane = none ∧ status.exposure.snapshot = none
      ∧ status.status.lines = { number := 2, data := 1 } :: []
      ∧ PortReady 2 final ∧ final.exposure.snapshot = some (snapOf []) ∧ (snapOf []).lines = []
      ∧ final.status.lines = [] ∧ final.status.image ≠ none
      ∧ final.decoder.lane = some (laneOf .exposureSnapshot .writing (some finalDone))
      ∧ (∀ l, PortReady 2 (snap l)
          ∧ (snap l).decoder.lane = some (laneOf .exposureSnapshot .writing none)
          ∧ (snap l).exposure.snapshot = some (snapOf l))
      ∧ (early (snapOf [])).status.image = none ∧ waits .part (early (snapOf [])) = false
      ∧ waits .part (early { snapOf [.header .inProgress] with dest := 0x3FFFF200 }) = false
      ∧ waits .part (early (snapOf [.header .inProgress])) = true :=
  ⟨⟨rfl, rfl, rfl, rfl⟩, fun _ => rfl, rfl, rfl, rfl, rfl, ⟨rfl, rfl, rfl, rfl⟩, by decide, rfl, rfl, rfl,
    ⟨rfl, rfl, rfl, rfl⟩, rfl, rfl, rfl, nofun, rfl,
    fun _ => ⟨⟨rfl, rfl, rfl, rfl⟩, rfl, rfl⟩, rfl, by decide, by decide, by decide⟩

/-- A lane with no final record, and one with it. -/
theorem witness_ProgressReadIsAnswered :
    let answered (l : Lane) : State :=
      { withLane l bare with path := { bare.path with queue := [.read 0xFFFFC1], headAnswered := true } }
    (answered (laneOf .layoutLoad .fetching none)).path.headAnswered = true
      ∧ (answered (laneOf .layoutLoad .fetching none)).decoder.lane = some (laneOf .layoutLoad .fetching none)
      ∧ (laneOf .layoutLoad .fetching none).records < 2 ^ 32
      ∧ (answered (laneOf .layoutLoad .writing (some finalDone))).decoder.lane
          = some (laneOf .layoutLoad .writing (some finalDone))
      ∧ finalDone.detail < 2 ^ 32 := by decide

theorem witness_CueLineReadsBack :
    (Instr.cancelStaged 8 2).wellFormed = true
      ∧ encodeCue (.cancelStaged 8 2) = some (lineOf [0xA7, 0x51, 0x82, 0, 8, 0, 2]) := by decide +kernel

/-- The cue line of segment 0 is line 0xFFFFC0. -/
theorem witness_CueLineRunsItsCue :
    let data := lineOf [0xA7, 0x51, 0x10, 0, 1, 0, 12]
    let s := withQueue [.write 0xFFFFC0 data fullMask] bare
    PortReady 0 s ∧ HeadWrite 0xFFFFC0 data fullMask [] s ∧ lineAddr 0xFFFFC0 = apertureLine 0 s
      ∧ (Instr.flip 1 12).wellFormed = true ∧ encodeCue (.flip 1 12) = some data
      ∧ (1 : Mask) ≠ fullMask ∧ halfAt (lineOf [0xA7, 0x52]) 0 ≠ 0x51A7
      ∧ halfAt (lineOf [0xA7, 0x51, 0x10, 1]) 0 = 0x51A7 ∧ byteAt (lineOf [0xA7, 0x51, 0x10, 1]) 3 ≠ 0
      ∧ byteNat (lineOf [0xA7, 0x51, 0x27]) 2 = 0x27 :=
  ⟨⟨rfl, rfl, rfl, rfl⟩, ⟨rfl, rfl⟩, by decide, by decide, by decide +kernel, by decide, by decide +kernel,
    by decide +kernel, by decide +kernel, by decide +kernel⟩

/-- The highest address whose record of 128 bytes fits, one 64 bytes higher, and a misaligned one. -/
theorem witness_LongCuesTakeTheLaneOrAreBusy :
    let good (a n : Nat) : Prop := a < 0x400000000 ∧ a % 64 = 0 ∧ a + n ≤ 0x400000000
    bare.bypass = false ∧ bare.decoder.lane = none ∧ good 0x3FFFFFFC0 0 ∧ good 0x3FFFFFF80 128 ∧ good 0x3FFFFFF40 192
      ∧ ¬ good 0x3FFFFFFC0 128 ∧ ¬ good 0x3FFFFFF80 192 ∧ ¬ good 0x400000000 0 ∧ ¬ good 32 0
      ∧ (withLane (laneOf .rotationAmend .fetching none) bare).decoder.lane
          = some (laneOf .rotationAmend .fetching none) := by decide

/-- Layout headers of 1, 24 and 25 zones, a glyph header at its smallest; a clip header good and bad, with no REPLAY
zone, with one of its stride, and with a larger one. -/
theorem witness_RecordHeaderArrivals :
    let lane := laneOf .layoutLoad .fetching none
    let h (n : Nat) := lineOf [0, 5, 128, 2, 50, n]
    let s (l : Line) : State :=
      withPort .layout l { withLane lane bare with
        sweep := { bare.sweep with load := some { addr := 64, lines := [], count := 0, pending := none } } }
    let clip := lineOf [44, 1, 1, 0, 0, 0, 0, 0, 0, 16, 0, 0, 2, 0, 0, 0, 1, 0]
    let final (l : Line) (u : State) :=
      let arm : ClipArm := { addr := 64, header := none }
      let t := after .clipDescriptorLineArrival (withPort .clip l (withLane (laneOf .clipArm .fetching none)
        { u with replay := { u.replay with arm := some arm } }))
      (t.decoder.lane.bind (·.final)).map (·.result)
    (s (h 1)).decoder.lane = some lane ∧ lane.final = none
      ∧ byteNat (h 1) 5 = 1 ∧ byteNat (h 24) 5 = 24 ∧ byteNat (h 25) 5 = 25 ∧ 64 + 64 * 24 < 0x400000000
      ∧ (s (h 1)).sweep.load = some { addr := 64, lines := [], count := 0, pending := none }
      ∧ halfNat (lineOf [16, 0, 16, 0, 7]) 0 = 16 ∧ halfNat (lineOf [16, 0, 16, 0, 7]) 2 = 16
      ∧ byteNat (lineOf [16, 0, 16, 0, 7]) 4 < 8 ∧ ¬ byteNat (lineOf [16, 0, 16, 0, 8]) 4 < 8
      ∧ final 0 bare = some .range ∧ final clip bare = some .noZone
      ∧ final clip (shown [rec16 1 .replay 0] bare) = none
      ∧ final clip (shown [{ rec16 1 .replay 0 with w := 80 }] bare) = some .geometry := by decide +kernel

/-- Line 1 of a layout of two zones and of a glyph set; a record line of each kind with its data dropped. -/
theorem witness_RecordLinesFollow :
    let busy (origin : FlightOrigin) := withPort origin 9 (withLane (laneOf .layoutLoad .fetching none) bare)
    let layout : State :=
      { busy .layout with sweep := { bare.sweep with load := some { addr := 64, lines := [5], count := 2, pending := none } } }
    let glyph : State := { busy .glyph with figures := { bare.figures with load := some { addr := 64, lines := [5] } } }
    let dropped (origin : FlightOrigin) : State := { bare with port := some { origin := origin, data := 9, dropped := true } }
    ([] : List Line).length + 1 < 2
      ∧ (after .layoutLineArrival layout).sweep.load = some { addr := 64, lines := [5, 9], count := 2, pending := none }
      ∧ (after .layoutLineArrival layout).decoder.lane.map (·.records) = some 2
      ∧ (after .glyphLineArrival glyph).figures.load = some { addr := 64, lines := [5, 9] }
      ∧ (after .layoutLineArrival (dropped .layout)).port = none
      ∧ (after .slotRecordLineArrival (dropped .slotRecords)).port = none := by decide +kernel

/-- A screen header of 256 by 64 at 50 frames, and a zone record of the whole screen, which passes every check; a rate
of 51, a zone ID of 24, and a zone 272 wide, which do not. -/
theorem witness_LayoutIsJudgedByItsLastLine :
    let hd (rate : Nat) := lineOf [0, 1, 64, 0, rate, 1]
    let z (id w : Nat) := lineOf [id, 0, 7, 1, 0, 0, 0, 0, w % 256, w / 256, 64, 0]
    let s (h l : Line) : State :=
      withPort .layout l { withLane (laneOf .layoutLoad .fetching none) bare with
        sweep := { bare.sweep with load := some { addr := 64, lines := [h], count := 1, pending := none } } }
    let lane (h l : Line) := (after .layoutLineArrival (s h l)).decoder.lane.map (fun x => (x.phase, x.records, x.final))
    lane (hd 50) (z 23 256) = some (.waiting, 1, none)
      ∧ lane (hd 51) (z 23 256) = some (.writing, 2, some { result := .range, detail := 0 })
      ∧ lane (hd 60) (z 24 256) = some (.writing, 2, some { result := .range, detail := 1 })
      ∧ lane (hd 60) (z 23 272) = some (.writing, 2, some { result := .geometry, detail := 1 }) := by decide +kernel

/-- A pending layout that keeps HOUSE zone 12, on its buffer B, and MESSAGE zone 9 narrowed, in a frame whose slots have
closed; and the crawl in it, which ends by the new width whichever work comes first. -/
theorem witness_LayoutIsAppliedAtTheBoundary :
    let house := rec16 12 (.house 0x100000000 0x100100000 5) 0
    let narrow : ZoneRec := { rec16 9 .message 4 with w := 32 }
    let new : Layout := { header := screen, zones := [house, narrow] }
    let load : LayoutLoad := { addr := 64, lines := [], count := 2, pending := some new }
    let closed : Slot := { fetchSlot with closed := some .fresh }
    let crawl : Message := { msg 412 1 1 with mode := .crawl 8 }
    let s (o : Nat) : State := withMessages (some { msg := crawl, showing := .crawl o }) []
      (withHouse { house12 with onAir := .b } (inFrame [closed]
        (withLane (laneOf .layoutLoad .waiting none) (shown [house, rec16 9 .message 4] bare))))
    let s (o : Nat) : State := { s o with sweep := { (s o).sweep with load := some load } }
    let air (l : List BoundaryTask) (o : Nat) := (after (.sweepBoundary l false) (s o)).messages.onAir.map (·.showing)
    (s 0).bypass = false ∧ (s 0).alert.state = .quiet ∧ (s 0).sweep.frame = .zones [closed] ∧ closed.closed ≠ none
      ∧ (s 0).decoder.lane = some (laneOf .layoutLoad .waiting none) ∧ (s 0).sweep.load = some load
      ∧ load.pending = some new ∧ (s 0).sweep.header = some new.header
      ∧ (s 0).sweep.zones.map (·.cfg) = [house, rec16 9 .message 4] ∧ (s 0).pins.linkReady = true
      ∧ (after boundary (s 0)).path.houses.map (·.onAir) = [.b]
      ∧ air order 80 = some (.crawl 88) ∧ air order.reverse 80 = some (.crawl 88)
      ∧ air order 88 = none ∧ air order.reverse 88 = none := by decide

/-- R7: a kept zone whose layer alone changed is fetched, not held. -/
theorem test_layer_change_is_fetched :
    let z (layer : Nat) : Zone := { zoneOf (rec16 3 (.sponsor .a) layer) with
      receiver := .holdsCurrent, lastEpoch := 7, lastIdent := some (.shown 1 (.sponsor .a) (.houseMark 0x58000000)) }
    let s := withRibbon (ribbonIn .on .house 9 0) bare
    settleSlot true s (z 1) = .held ∧ settleSlot true s (z 2) = .toFetch := by decide

/-- Every spare glyph and no spare glyph; a glyph address that is not a multiple of 64; a zone that 16-pixel cells
do not fit, and one that they do. -/
theorem witness_GlyphSetReplacesTheOneInUse :
    let l0 (spare : Nat) := lineOf [16, 0, 16, 0, spare]
    let s (spare : Nat) (l2 : Line) (zones : List ZoneRec) : State :=
      withPort .glyph l2 { withLane (laneOf .glyphLoad .fetching none) (shown zones bare) with
        figures := { bare.figures with load := some { addr := 64, lines := [l0 spare, 0] } } }
    let final (s : State) := (after .glyphLineArrival s).decoder.lane.map (·.final)
    final (s 7 0 []) = some (some { result := .done, detail := 16 })
      ∧ final (s 0 0 [rec16 4 (.figure .homeScore) 0]) = some (some { result := .done, detail := 13 })
      ∧ final (s 0 (lineOf [32]) []) = some (some { result := .range, detail := 9 })
      ∧ final (s 0 0 [rec16 4 (.figure .gameClock) 0]) = some (some { result := .geometry, detail := 4 }) := by
  decide +kernel

/-- One angle: with no current clip, with one, and with a base that is not a multiple of 64. -/
theorem witness_ClipIsPlacedByItsSecondLine :
    let hd := lineOf [44, 1, 1, 0, 0, 0, 0, 0, 0, 16, 0, 0, 2, 0, 0, 0, 1, 0]
    let s (l : Line) (s : State) : State :=
      withPort .clip l { withLane (laneOf .clipArm .fetching none) (shown [rec16 1 .replay 0] s) with
        replay := { s.replay with arm := some { addr := 64, header := some hd } } }
    let final (s : State) := (after .clipDescriptorLineArrival s).decoder.lane.map (·.final)
    replayZone (s 0 bare) = some (rec16 1 .replay 0) ∧ byteNat hd 2 = 1
      ∧ final (s 0 bare) = some (some { result := .done, detail := 1 })
      ∧ final (s 0 (withClip clipA bare)) = some (some { result := .done, detail := 2 })
      ∧ final (s (lineOf [32]) bare) = some (some { result := .range, detail := 1 }) := by decide +kernel

def amend (ribbon mode count : Byte) : AmendOperand :=
  { ribbon := ribbon, mode := mode, commitPoint := 0, count := count, width := 16, height := 16, house := 0
    slots := 0x3FFFFFFC0 }

def gathering (n left : Nat) (timer : Option Nat) (phase : LanePhase) (s : State) : State :=
  { withLane (laneOf .rotationAmend phase none) s with rotation := { s.rotation with gather := some (gather n left timer) } }

/-- On an idle lane: taken, an address of 16 GiB, no records, a staged list, 41 slots; in a gathering: joined, the
other ribbon, no records, 41 slots. -/
theorem witness_AmendsTakeTheLaneOrJoin :
    let result (op : AmendOperand) (s : State) :=
      let t := after (.rotationAmend 1 op) s
      (t.decoder.lane.bind (·.final) |>.map (·.result), t.decoder.last.result)
    let long : SlotList := { fourSlots with slots := List.replicate 40 { content := .skip, phases := .any, dwell := 25 } }
    let held := withRibbon { ribbonIn .on .house 1 0 with committed := some long } bare
    let staged := withRibbon { ribbonIn .on .house 1 0 with staged := some { list := long, point := .atSlot } } bare
    result (amend 1 0 1) bare = (none, .none)
      ∧ result { amend 0 0 1 with house := 0x400000000 } bare = (some .range, .none)
      ∧ result (amend 0 0 0) bare = (some .range, .none) ∧ result (amend 0 0 1) staged = (some .stagedPending, .none)
      ∧ result (amend 0 1 1) held = (some .range, .none)
      ∧ result (amend 0 0 4) (gathering 36 0 (some 5) .gathering bare) = (none, .done)
      ∧ result (amend 1 0 1) (gathering 36 0 (some 5) .gathering bare) = (none, .busy)
      ∧ result (amend 0 0 0) (gathering 36 0 (some 5) .gathering bare) = (none, .range)
      ∧ result (amend 0 0 4) (gathering 37 0 (some 5) .gathering bare) = (some .range, .range) := by decide

/-- One record left: a skip, a sponsor with an entry, one without, one with a full table, a bad record; and five left. -/
theorem witness_SlotRecordsJoin :
    let line := lineOf [17, 8, 2, 0, 25, 0]
    let skips := lineOf [0, 0, 0, 1, 25, 0, 0, 0, 0, 0, 0, 0, 0, 0, 0, 0, 0, 0, 0, 1, 25, 0, 0, 0, 0, 0, 0, 0, 0, 0, 0, 0,
      0, 0, 0, 1, 25, 0, 0, 0, 0, 0, 0, 0, 0, 0, 0, 0, 0, 0, 0, 1, 0x70, 0x17]
    let s (left : Nat) (l : Line) (e : List ExposureEntry) :=
      withPort .slotRecords l (gathering 2 left none .fetching (withEntries e bare))
    let out (s : State) :=
      let t := after .slotRecordLineArrival s
      (t.decoder.lane.map (fun l => (l.records, l.final)), t.exposure.entries.map (·.sponsor))
    out (s 1 skips []) = (some (3, none), [])
      ∧ out (s 1 line [entryOf 17]) = (some (3, none), [17])
      ∧ out (s 1 line [entryOf 16, entryOf 18]) = (some (3, none), [16, 17, 18])
      ∧ (out (s 1 line ((List.range 64).map (fun k => entryOf (k + 18))))).1
          = some (0, some { result := .tableFull, detail := 3 })
      ∧ out (s 1 0 []) = (some (0, some { result := .range, detail := 3 }), [])
      ∧ out (s 5 skips []) = (some (6, none), []) := by decide +kernel

/-- Of two or three left: a sponsor behind a skip, a full table behind a sponsor with an entry, and a bad record behind
a sponsor. -/
theorem witness_SlotRecordsInOrder :
    let skip := [0, 0, 0, 1, 25, 0, 0, 0, 0, 0, 0, 0, 0, 0, 0, 0]
    let sponsor (id : Nat) := [id, 8, 2, 0, 25, 0, 0, 0, 0, 0, 0, 0, 0, 0, 0, 0]
    let out (left : Nat) (l : List Nat) (e : List ExposureEntry) :=
      let t := after .slotRecordLineArrival
        (withPort .slotRecords (lineOf l) (gathering 2 left none .fetching (withEntries e bare)))
      (t.decoder.lane.map (fun l => (l.records, l.final)), (t.exposure.entries.map (·.sponsor)).head?)
    out 2 (skip ++ sponsor 9) [] = (some (4, none), some 9)
      ∧ out 3 (skip ++ sponsor 18 ++ sponsor 9) ((List.range 64).map (fun k => entryOf (k + 18)))
          = (some (4, some { result := .tableFull, detail := 5 }), some 18)
      ∧ out 2 (sponsor 9 ++ sponsor 0) [] = (some (3, some { result := .range, detail := 4 }), some 9) := by decide +kernel

/-- A zone of another size; an ON ribbon; an OFF ribbon. -/
theorem witness_GatherExpiryStagesOrCommits :
    let wide : ZoneRec := { rec16 23 (.sponsor .a) 0 with w := 128 }
    let s := gathering 2 0 (some 1) .gathering bare
    let out (s : State) :=
      let t := after .gatherTimerExpiry s
      (t.decoder.lane.bind (·.final), t.rotation.a.staged.isSome, t.rotation.a.committed.isSome)
    out (shown [wide] s) = (some { result := .geometry, detail := 23 }, false, false)
      ∧ out (shown [rec16 23 (.sponsor .a) 0] s) = (some { result := .done, detail := 2 }, false, true)
      ∧ out { s with rotation := { s.rotation with a := { ribbonIn .on .house 1 0 with committed := none } } }
          = (some { result := .done, detail := 2 }, true, false) := by decide

/-- A good snapshot with purging, an address in the first 8 lines of the aperture, and zeroing under an alert. -/
theorem witness_SnapshotTakesItsImage :
    let s := withEntries [entryOf 17, entryOf 23] (withRibbon (ribbonIn .on .house 1 0) bare)
    let s := withEntries [entryOf 17, entryOf 60] s
    let final (t : State) := t.decoder.lane.bind (·.final) |>.map (·.result)
    bare.decoder.lane = none
      ∧ (after (.exposureSnapshot 1 0 1 0x20000000) s).exposure.entries = [entryOf 17]
      ∧ final (after (.exposureSnapshot 1 0 1 0x3FFFF1C0) s) = some .range
      ∧ final (after (.exposureSnapshot 1 1 0 0x20000000) (withAlert .onAir s)) = some .wrongState := by decide

/-- An idle lane, a cue in flight, a snapshot before and after its first line, and staged lists. -/
theorem witness_CancelEndsTheCueItNames :
    let snap (l : List SnapshotLine) := withSnapshot (snapOf l) (withLane (laneOf .exposureSnapshot .writing none) bare)
    let staged := withRibbon { ribbonIn .on .house 1 0 with staged := some { list := fourSlots, point := .atSlot } } bare
    bare.decoder.lane = none
      ∧ (withLane (laneOf .clipArm .fetching none) bare).exposure.snapshot = none
      ∧ (snap [.header .inProgress, .entries 0]).exposure.snapshot = some (snapOf [.header .inProgress, .entries 0])
      ∧ (∀ x ∈ [SnapshotLine.entries 0], x ≠ .header .inProgress)
      ∧ (ribbonOf .a staged).staged ≠ none ∧ (ribbonOf .b staged).staged = none ∧ 2 < (3 : Byte).toNat := by decide

/-- A HOUSE zone that flips at the boundary. -/
theorem witness_BoundaryNumbersAndCaptures :
    let s := withHouse { house12 with flip := .flipPending } bare
    s.bypass = false ∧ s.status.captureDue = false ∧ s.sweep.load = none
      ∧ (after boundary s).path.houses = [{ house12 with onAir := .b }] := by decide

/-- A layout with a zone of each role, link-ready high and low, and no layout: the sources that are active, and what is
fetched of them. -/
theorem witness_FramePlanIsOrderedAndVisible :
    let zones := [rec16 23 .message 1, rec16 0 (.figure .period) 0, rec16 3 (.sponsor .a) 2, rec16 12 (.house 0 8192 0) 3,
      rec16 1 .replay 4]
    let set : GlyphSet :=
      { cellWidth := 16, cellHeight := 16, hasO := false, hasT := false, hasDash := false
        addrs := (List.range 13).map (fun g => 1024 * g) }
    let s := withHouse house12 (withClip clipA (withRibbon (ribbonIn .on .house 9 0)
      (withMessages (some { msg := { msg 5 1 1 with mode := .crawl 8 }, showing := .crawl 32 }) [] (shown zones bare))))
    let s : State := { s with figures := { s.figures with glyphs := some set } }
    let low : State := { s with pins := { s.pins with linkReady := false } }
    let slots := match (after boundary s).sweep.frame with
      | .zones l => l
      | _ => []
    s.bypass = false ∧ slots.map (·.zone.id) = [0, 1, 3, 12, 23] ∧ slots.map (·.settlement) = List.replicate 5 .toFetch
      ∧ slots.map (fun x => x.fetch.runs.head?) = [some { addr := 12288, lines := 16 }, some { addr := 0x10064000, lines := 64 },
          some { addr := 0x58000000, lines := 64 }, some { addr := 0x100000000, lines := 64 },
          some { addr := 0x40000000, lines := 3 }]
      ∧ (after boundary low).pins.linkReady = false ∧ flagUp .linkDown (after boundary low) = true
      ∧ (after boundary bare).sweep.header = none := by decide

/-- A slot behind a closed one, in each settlement; a sponsor's slot; a message's slot; a slot of neither; an alert slot;
and the receivers after each kind of frame header. -/
theorem witness_SlotClosesAndReports :
    let closed : Slot := { fetchSlot with closed := some .fresh }
    let s := inFrame [closed, fetchSlot] bare
    let missed := { fetchSlot with settlement := .unsent }
    let text := slotOf (rec16 9 .message 4) .held messageIdent []
    s.bypass = false ∧ s.sweep.frame = .zones ([closed] ++ fetchSlot :: []) ∧ (∀ y ∈ [closed], y.closed ≠ none)
      ∧ fetchSlot.closed = none ∧ fetchSlot.settlement = .toFetch ∧ fetchSlot.fetch.runs ≠ []
      ∧ missed.closed = none ∧ missed.settlement = .unsent
      ∧ fetchSlot.zone.role = .sponsor .a ∧ fetchSlot.ident = .shown 1 (.sponsor .a) (.sponsorSlot 0 17 5 0)
      ∧ text.zone.role = .message ∧ text.ident = .shown 4 .message (.message 900 17 0x40000000 0) ∧ text.settlement = .held
      ∧ (inAlertFrame alertSlot bare).sweep.frame = .alert alertSlot ∧ alertSlot.closed = false
      ∧ (after boundary (shown [rec16 3 (.sponsor .a) 1] bare)).receivers.header.map (·.kind) = some .zones
      ∧ (after boundary (withAlert .onAir (shown [] bare))).receivers.header.map (·.kind) = some .alert := by decide

/-- The last pixel of each shape: of a raster, of the zone's second cell, of the backdrop beside the cells, of a window
and of the backdrop on either side of it. -/
theorem witness_SlotPixels :
    let z : ZoneRec := { rec16 9 .message 4 with h := 2, backdrop := 7 }
    let got : List Line := (List.range 8).map (fun k => BitVec.ofNat 512 ((k + 1) * 2 ^ 480 + k + 1))
    let place (shape : Shape) (i j : Nat) : Option Pixel := (zonePixels z shape got)[j * z.w + i]?
    2 * 16 ≤ z.w ∧ 2 * (16 * z.h / 16) ≤ got.length ∧ 20 + (43 - 30) < z.w ∧ z.h * (43 / 16 - 30 / 16 + 1) ≤ got.length
      ∧ place .whole 63 1 = some 8 ∧ place (.cells 2 16 z.h) 31 1 = some 4 ∧ place (.cells 2 16 z.h) 32 1 = some 7
      ∧ place (.window 30 43 20) 19 1 = some 7 ∧ place (.window 30 43 20) 21 1 = some 3
      ∧ place (.window 30 43 20) 22 1 = some 4 ∧ place (.window 30 43 20) 34 1 = some 7
      ∧ place .blank 0 0 = some 7 := by decide +kernel

/-- R171, R174: ALERT STANDING SET between the boundary and the deadline leaves the fill of that frame's slot alone. -/
theorem test_alert_colour_of_the_frame :
    let s := after boundary (withAlert .onAir (shown [] bare))
    let t := after .slotDeadline (after (.alertStandingSet 1 0 0 5) s)
    t.receivers.alert = some (.fill 0x00FF0000) ∧ t.alert.colour = 5 := by decide

/-- With a frame of an open slot behind a closed one, with an alert frame, and with none. -/
theorem witness_LinkLossUnsendsTheFrame :
    let closed : Slot := { fetchSlot with closed := some .fresh }
    let s := inFrame [closed, fetchSlot] bare
    s.bypass = false ∧ s.sweep.frame = .zones ([closed] ++ fetchSlot :: []) ∧ (∀ y ∈ [closed], y.closed ≠ none)
      ∧ fetchSlot.closed = none ∧ bare.sweep.frame = .none
      ∧ (inAlertFrame alertSlot bare).sweep.frame = .alert alertSlot := by decide

/-- 04, "expiry at the last tenth": value 3, remainder -1, phase 7, with no other timer running. -/
theorem witness_TimebaseStepCountsClocks :
    let s := withGame { clockAt 3 .down with slew := -1, slewPhase := 7 } .locked bare
    s.bypass = false ∧ s.clock.receiver.gap = none ∧ s.clock.watchdog = none ∧ s.path.houses = []
      ∧ s.replay.current = none ∧ s.rotation.gather = none ∧ s.alert.debounce = none ∧ s.pins.venue = false
      ∧ s.brightness.state = .normal ∧ s.pins.heat = false
      ∧ ({ s with clock := { s.clock with watchdog := some 500 } } : State).clock.console = .locked
      ∧ (times 2 .clockTimebaseStep s).clock.game.value = 1
      ∧ (times 3 .clockTimebaseStep s).clock.game.running = false := by decide

/-- Every timer at 2 and at 1, and the two clocks one step from their limits. -/
theorem witness_TimersRunDownAndExpire :
    let s (n : Nat) : State :=
      withDebounce (some n) (withHouse { house12 with idle := some n, timeout := 500 }
        (withClip { clipA with chase := some n } (gathering 2 0 (some n) .gathering
          { bare with clock := { bare.clock with
              watchdog := some n, receiver := { bare.clock.receiver with gap := some n } } })))
    let limit := setClock .secondary (clockAt 998999 .up) (withGame (clockAt 1 .down) .locked bare)
    (∀ n, (s n).bypass = false ∧ (s n).alert.state ≠ .releasing ∧ (s n).clock.receiver.gap = some n
      ∧ (s n).clock.watchdog = some n ∧ (s n).path.houses = [{ house12 with idle := some n, timeout := 500 }]
      ∧ (s n).replay.current = some { clipA with chase := some n } ∧ (s n).rotation.gather = some (gather 2 0 (some n))
      ∧ (s n).alert.debounce = some n ∧ (s n).pins.venue = true ∧ (s n).alert.latch = false)
      ∧ 1 < 2
      ∧ (heated .warming true (some 2) none bare).brightness.warm = some 2
      ∧ (heated .cooling false none (some 2) bare).brightness.cool = some 2
      ∧ (clockOf .game limit).value ≤ 1 ∧ (clockOf .game limit).running = true ∧ (clockOf .game limit).slew = 0
      ∧ 999000 ≤ (clockOf .secondary limit).value + 1 ∧ (clockOf .secondary limit).direction = .up :=
  ⟨fun _ => ⟨rfl, nofun, rfl, rfl, rfl, rfl, rfl, rfl, rfl, rfl⟩, by decide, rfl, rfl, by decide, rfl, rfl, by decide, rfl⟩

theorem witness_SlewIsWorkedOff :
    let c : Clock := { clockAt 45327 .down with slew := -27 }
    c.running = true ∧ c.slewPhase = 0 ∧ 11 * c.slew.natAbs < c.value
      ∧ ({ c with direction := .up } : Clock).value + 11 * c.slew.natAbs < 5999000 := by decide

/-- Locked at an error of 249 (slews) and of 250 (snaps); a running byte of 2; and HOUSE. -/
theorem witness_BeaconDisciplinesClocks :
    let p (v : Nat) (run : Byte) : BeaconPayload :=
      { gameValue := BitVec.ofNat 32 v, gameRunning := run, direction := 0, secondaryValue := 0, secondaryRunning := 0
        period := 1 }
    let s := withGame (clockAt 12000 .down) .locked bare
    s.bypass = false ∧ s.clock.console ≠ .house ∧ (after (.beacon (p 12249 1)) s).clock.game.slew = 249
      ∧ (after (.beacon (p 12250 1)) s).clock.game.value = 12250 ∧ ¬ (p 0 2).gameRunning.toNat ≤ 1
      ∧ (withGame (clockAt 1 .down) .house bare).clock.console = .house := by decide

theorem witness_TimingLineFrameIsOneArrival :
    bare.bypass = false ∧ bare.clock.receiver.state = .hunt
      ∧ (0x31 : Byte) = 0x02 + 6 + byteSum [0x15, 0, 0x11, 0, 3, 0] ∧ (0x7D : Byte) ≠ 0x7E := by decide

/-- R63: a kind of 3 and a SCORE length of 12 drop the frame; each byte taken loads the gap timer. -/
theorem test_bad_kind_and_length :
    let receiver (l : List Byte) := (l.foldl (fun s b => after (.timingLineByte b false) s) bare).clock.receiver
    (receiver [0x7E, 0x02]).state = .length ∧ (receiver [0x7E, 0x02]).gap = some 10
      ∧ (receiver [0x7E, 0x03]).state = .hunt ∧ (receiver [0x7E, 0x02, 12]).state = .hunt
      ∧ (receiver [0x7E, 0x02, 6]).state = .payload ∧ (receiver [0x7E, 0x02, 12]).gap = none := by decide

/-- Codes 1 and 2; a running and a stopped clock under HOUSE, and another console state. -/
theorem witness_HouseClockCuesTakeOperands :
    (1 : Byte).toNat ≤ 1 ∧ 1 < (2 : Byte).toNat ∧ bare.bypass = false ∧ bare.clock.console ≠ .house
      ∧ (withGame (clockAt 5 .down) .house bare).clock.console = .house
      ∧ (clockOf .game (withGame (clockAt 5 .down) .house bare)).running = true
      ∧ (clockOf .secondary (withGame (clockAt 5 .down) .house bare)).running = false := by decide

theorem witness_DisplayStringsReadTheClocks :
    (clockAt 5999000 .down).value ≤ 5999000 ∧ (clockAt 999000 .up).value ≤ 999000 := by decide

/-- Zone IDs 23 and 24; a HOUSE zone in each flip state; and no HOUSE zone. -/
theorem witness_FlipMarksTheZone :
    bare.bypass = false ∧ 24 ≤ (24 : Byte).toNat ∧ (23 : Byte).toNat < 24
      ∧ (∀ h ∈ (withHouse house12 bare).path.houses, h.zone ≠ (23 : Byte).toNat)
      ∧ (withHouse house12 bare).path.houses = [] ++ house12 :: [] ∧ house12.zone = (12 : Byte).toNat
      ∧ house12.flip = .steady ∧ ({ house12 with flip := .flipPending } : House).flip = .flipPending := by decide

/-- A rising score with the celebration enabled, with its message off the air and on it; a record that passes. -/
theorem witness_ScoresAndCelebration :
    let s : State := { bare with figures := { bare.figures with home := 21, celebration := some (msg 900 2 1) } }
    let u := after (.scoreFrame { home := 24, guest := 17, homeAux := 1, guestAux := 0 })
    s.bypass = false ∧ s.figures.home < min (24 : Half).toNat 999 ∧ s.figures.celebration = some (msg 900 2 1)
      ∧ (u s).messages.queue = [msg 900 2 1]
      ∧ flagUp .messageDropped (u (withMessages (some { msg := msg 900 2 1, showing := .notStarted }) [] s)) = true
      ∧ MessageFieldsOk (postOf 1 3) ∧ ¬ MessageFieldsOk (postOf 0 3) ∧ ¬ MessageFieldsOk (postOf 1 4) := by
  refine ⟨by decide, by decide, by decide, by decide, by decide, ?_, ?_, ?_⟩
  all_goals unfold MessageFieldsOk
  all_goals decide

/-- R92: the strings at the ends of their rows. -/
theorem test_score_strings :
    let s (p aux : Nat) (set : Option GlyphSet) : FigureStrings :=
      renderStrings { coldFigures with home := 999, guest := 0, period := p, homeAux := aux, glyphs := set } [] []
    let all : GlyphSet := { cellWidth := 16, cellHeight := 16, hasO := true, hasT := true, hasDash := true, addrs := [] }
    (s 4 0 (some all)).home = [.digit 9, .digit 9, .digit 9] ∧ (s 4 0 (some all)).guest = [.blank, .blank, .digit 0]
      ∧ (s 4 0 (some all)).period = [.blank, .digit 4] ∧ (s 5 0 (some all)).period = [.letterO, .letterT]
      ∧ (s 15 0 none).period = [.digit 1, .digit 5] ∧ (s 1 0 (some all)).homeAux = [.blank, .dash]
      ∧ (s 1 0 none).homeAux = [.blank, .digit 0] ∧ (s 1 99 (some all)).homeAux = [.digit 9, .digit 9] := by decide

/-- A clip in each state, an on-deck clip, no clip; rates 1, 512 and 513; the last angle and the one after it. -/
theorem witness_ClipCuesFollowTheirRows :
    let out (i : Instr) (s : State) := (after i s).decoder.last.result
    let c (x : ClipState) := withClip { clipA with state := x } bare
    (∀ x, (c x).replay.current = some { clipA with state := x }) ∧ bare.replay.current = none ∧ bare.replay.onDeck = none
      ∧ ({ bare with replay := { bare.replay with onDeck := some clipA } } : State).replay.onDeck ≠ none
      ∧ out (.clipRate 1 512) (c .playing) = .done ∧ out (.clipRate 1 513) (c .playing) = .range
      ∧ out (.clipAngle 1 2) (c .armed) = .done ∧ out (.clipAngle 1 3) (c .armed) = .range
      ∧ out (.clipPlay 1 1 1) (c .ended) = .done ∧ out (.clipPlay 1 0 1) (c .ended) = .range
      ∧ out (.clipPlay 1 1 0) (c .guarded) = .wrongState ∧ out (.clipPlay 1 1 0) (withAlert .onAir (c .held)) = .wrongState :=
  ⟨fun _ => rfl, rfl, rfl, nofun, by decide, by decide, by decide, by decide,
    by decide, by decide, by decide, by decide⟩

/-- A take; a clip on its out-point that does not grow; one that grows with its mark at the index; and a pending angle
that the step undoes, with its one bump. -/
theorem witness_CadenceStaysInTheClip :
    let take : State := { bare with replay := { bare.replay with onDeck := some clipA, take := true } }
    let last := withClip { clipA with state := .playing, index := 400 } bare
    let grows := withClip { clipA with state := .playing, growing := true, index := 100, mark := 100 } bare
    let sweeps : Clip :=
      { clipA with
        state := .playing, behaviour := .angleSweep, inPoint := 400, index := 400, angle := 1, pendingAngle := some 0 }
    let back := after boundary (withClip sweeps (shown [rec16 1 .replay 0] bare))
    take.bypass = false ∧ take.alert.state = .quiet ∧ take.sweep.load = none ∧ take.replay.take = true
      ∧ clipA.state = .armed ∧ clipA.pendingRate = none ∧ clipA.pendingAngle = none
      ∧ last.replay.take = false ∧ ((after boundary last).replay.current.map (·.state) = some .ended)
      ∧ ((after boundary grows).replay.current.map (·.chase) = some (some 2000))
      ∧ (back.replay.current.map (fun c => (c.index, c.angle)) = some (400, 1))
      ∧ back.sweep.zones.map (·.epoch) = [8] := by decide

/-- Codes 1 and 2; a ribbon in each state, with a staged list and without. -/
theorem witness_RibbonCuesFollowTheirTables :
    let r (x : RibbonState) := withRibbon (ribbonIn x .none 0 3) bare
    let staged := withRibbon
      { ribbonIn .starting .none 0 3 with staged := some { list := fourSlots, point := .atSlot } } bare
    (1 : Byte).toNat ≤ 1 ∧ 1 < (2 : Byte).toNat ∧ (∀ x, (ribbonOf .a (r x)).state = x)
      ∧ (ribbonOf .b bare).committed = none ∧ (ribbonOf .b bare).state = .off
      ∧ (ribbonOf .a (r .off)).committed ≠ none ∧ (ribbonOf .a (r .starting)).staged = none
      ∧ (ribbonOf .a staged).staged = some { list := fourSlots, point := .atSlot } :=
  ⟨by decide, by decide, fun _ => rfl, rfl, rfl, nofun, rfl, rfl⟩

/-- The states of the rule's rows, each with its dwell at 1 and at 2, and a staged list at each commit point. -/
theorem witness_RibbonsRotateAtTheBoundary :
    let staged (x : RibbonState) (e : RibbonEntry) (p : CommitPoint) :=
      withRibbon { ribbonIn x e 1 3 with staged := some { list := fourSlots, point := p } } bare
    let a (s : State) := (after boundary s).rotation.a
    bare.bypass = false ∧ bare.alert.state = .quiet ∧ bare.sweep.load = none
      ∧ a (withRibbon (ribbonIn .on .house 2 0) bare) = ribbonIn .on .house 1 0
      ∧ a (withRibbon (ribbonIn .starting .none 0 3) bare) = ribbonIn .on (.slot 0) 250 0
      ∧ a (staged .on (.slot 1) .atSlot) = ribbonIn .on (.slot 0) 250 0
      ∧ a (staged .on .house .atCycle) = ribbonIn .on (.slot 0) 250 0
      ∧ a (staged .stopping .house .atSlot) = ribbonIn .off .none 0 3
      ∧ a (withRibbon (ribbonIn .stopping .house 1 0) bare) = ribbonIn .off .none 0 3 := by decide

/-- R133: a start bumps the ribbon's zone; HOUSE after HOUSE does not; a commit bumps whatever the entry. -/
theorem test_ribbon_bumps :
    let epoch (r : Ribbon) := ((after boundary (withRibbon r (shown [rec16 3 (.sponsor .a) 1] bare))).sweep.zones.map (·.epoch))
    let idle : SlotList := { fourSlots with slots := [slotAt 17 5 250 .running] }
    epoch (ribbonIn .starting .none 0 3) = [8] ∧ epoch (ribbonIn .on .house 2 0) = [7]
      ∧ epoch { ribbonIn .on .house 1 0 with committed := some idle } = [7]
      ∧ epoch { ribbonIn .on .house 1 0 with staged := some { list := idle, point := .atSlot } } = [8] := by decide

/-- Each check failing, and each place a record can take; the queue of 16 of "a queue at work". -/
theorem witness_MessagePostChecksAndPlaces :
    let q : List Message := ([500, 501, 502, 503].map (fun k => msg k 2 1))
      ++ ((List.range 12).map (fun k => msg (510 + k) 0 1))
    let air : Option OnAir := some { msg := msg 412 1 2, showing := .crawl 80 }
    let s := withMessages air q bare
    let out (op : MessageOperand) (s : State) :=
      let t := after (.messagePost 1 op) s
      (t.decoder.last.result, t.decoder.last.detail)
    let tall : ZoneRec := { rec16 9 .message 4 with h := 32 }
    let crowded := withEntries ((List.range 64).map (fun k => entryOf (k + 1))) bare
    s.messages.queue.length = 16 ∧ s.exposure.entries = []
      ∧ out (postOf 0 1) s = (.range, 0) ∧ out (postOf 1 1) (shown [tall] s) = (.geometry, 9)
      ∧ out (postOf 412 1) s = (.onAir, 0) ∧ out (postOf 530 0) s = (.queueFull, 0)
      ∧ out { postOf 530 1 with sponsor := 200 } crowded = (.tableFull, 0)
      ∧ out (postOf 531 1) s = (.done, 521) ∧ out (postOf 500 2) s = (.done, 0)
      ∧ (after (.messagePost 1 (postOf 7 1)) (shown [rec16 9 .message 4] bare)).messages.onAir
          = some { msg := msg 7 1 1, showing := .notStarted } := by decide

/-- The queue of 16 is in order. -/
theorem witness_MessagesOrdered :
    let q : List Message := ([500, 501, 502, 503].map (fun k => msg k 2 1))
      ++ ((List.range 12).map (fun k => msg (510 + k) 0 1))
    MessagesOrdered (withMessages (some { msg := msg 412 1 2, showing := .crawl 80 }) q bare) ∧ ExposureOrdered bare := by
  refine ⟨⟨by decide, by decide, ?_, nofun⟩, by decide, by decide⟩
  rintro o h
  cases h
  decide

/-- An ID of 0, a queued ID, and the ID on air, with and without a record that takes the air. -/
theorem witness_MessageWithdrawRemovesTheRecord :
    let s := shown [rec16 9 .message 4]
      (withMessages (some { msg := msg 412 1 2, showing := .crawl 80 }) [msg 500 2 1] bare)
    let w (i : Half) (s : State) := after (.messageWithdraw 1 i) s
    s.bypass = false ∧ messageZone s = some (rec16 9 .message 4) ∧ (rec16 9 .message 4).h = (msg 500 2 1).height
      ∧ (w 0 s).decoder.last.result = .range ∧ (w 500 s).messages.queue = []
      ∧ (w 412 s).messages.onAir = some { msg := msg 500 2 1, showing := .notStarted }
      ∧ (w 412 (withMessages (some { msg := msg 412 1 2, showing := .crawl 80 }) [] s)).messages.onAir = none := by
  decide

/-- Each showing, before its end and at it; repeats 1 and 2. -/
theorem witness_MessagesShowAtTheBoundary :
    let s (m : Message) (w : Showing) (q : List Message) :=
      shown [rec16 9 .message 4] (withMessages (some { msg := m, showing := w }) q bare)
    let air (s : State) := (after boundary s).messages.onAir
    let crawl : Message := { msg 1 1 1 with mode := .crawl 8 }
    (s (msg 1 1 1) .notStarted []).alert.state = .quiet
      ∧ air (s (msg 1 1 1) .notStarted []) = some { msg := msg 1 1 1, showing := .still 250 }
      ∧ air (s (msg 1 1 1) (.still 2) []) = some { msg := msg 1 1 1, showing := .still 1 }
      ∧ air (s (msg 1 1 1) (.still 1) []) = none
      ∧ air (s (msg 1 1 2) (.still 1) []) = some { msg := { msg 1 1 2 with remaining := 1 }, showing := .still 250 }
      ∧ air (s crawl (.crawl 112) []) = some { msg := crawl, showing := .crawl 120 }
      ∧ air (s crawl (.crawl 120) [msg 2 0 1]) = some { msg := msg 2 0 1, showing := .still 250 }
      ∧ (after boundary (s (msg 1 1 2) (.still 1) [msg 2 1 1])).messages.queue = [{ msg 1 1 2 with remaining := 1 }] := by
  decide

/-- R9, R159, R160, log 21: a STILL that goes on bumps nothing, a crawl that moves once, one that ends twice; a disabled
zone takes no bump. -/
theorem test_message_bumps :
    let crawl : Message := { msg 1 1 1 with mode := .crawl 8 }
    let epoch (m : Message) (w : Showing) (on : Bool) :=
      (after boundary (shown [{ rec16 9 .message 4 with enabled := on }]
        (withMessages (some { msg := m, showing := w }) [] bare))).sweep.zones.map (·.epoch)
    epoch (msg 1 1 1) (.still 2) true = [7] ∧ epoch (msg 1 1 1) (.still 1) true = [8]
      ∧ epoch crawl (.crawl 112) true = [8] ∧ epoch crawl (.crawl 120) true = [9]
      ∧ epoch crawl (.crawl 120) false = [7] := by decide

/-- Each alert state; a raster that just fits a screen of 1280 by 640, and one that does not; no layout. -/
theorem witness_AlertCuesFollowTheirTables :
    let s (x : AlertState) := withAlert x (shown [] bare)
    let out (i : Instr) (s : State) := (after i s).decoder.last.result
    (∀ x, (s x).alert.state = x ∧ (s x).sweep.header = some screen) ∧ bare.sweep.header = none ∧ bare.pins.venue = false
      ∧ out (.alertRaise 1 0x3FFCE0000) (s .quiet) = .done ∧ out (.alertRaise 1 0x3FFCE0040) (s .quiet) = .range
      ∧ out (.alertRaise 1 0x400000000) (s .quiet) = .range ∧ out (.alertRaise 1 0) bare = .geometry
      ∧ (after (.alertRaise 1 0) (s .releasing)).alert.state = .onAir
      ∧ (after (.alertClear 1) (s .onAir)).alert.state = .releasing
      ∧ out (.alertClear 1) (withDebounce none (s .onAir)) = .lineActive
      ∧ out (.alertStandingSet 1 2 0 0) bare = .range ∧ out (.alertStandingSet 1 0 1 0) bare = .done :=
  ⟨fun _ => ⟨rfl, rfl⟩, rfl, rfl, by decide, by decide, by decide, by decide,
    by decide, by decide, by decide, by decide, by decide⟩

/-- Each alert state with a layout; ON_AIR with no frame in progress, and with no layout. -/
theorem witness_AlertAtTheBoundary :
    let s (x : AlertState) := withAlert x (shown [rec16 1 .replay 0] bare)
    bare.bypass = false ∧ (after boundary (s .engaging)).alert.state = .onAir
      ∧ (after boundary (s .releasing)).alert.state = .quiet
      ∧ (s .onAir).alert.state = .onAir ∧ (s .onAir).sweep.frame = .none
      ∧ (after boundary (s .onAir)).sweep.header = some screen
      ∧ (after boundary (withAlert .onAir bare)).sweep.header = none := by decide

/-- In bypass; a clear latch in each alert state; the debounce timer at its last event. -/
theorem witness_VenueLineIsDebounced :
    State.reset.bypass = true ∧ bare.bypass = false ∧ bare.alert.latch = false ∧ bare.alert.debounce = none
      ∧ (∀ x, (withDebounce (some 1) (withAlert x bare)).alert.state = x
          ∧ (withDebounce (some 1) (withAlert x bare)).alert.debounce = some 1
          ∧ (withDebounce (some 1) (withAlert x bare)).pins.venue = true)
      ∧ ({ bare with alert := { bare.alert with latch := true } } : State).alert.latch = true :=
  ⟨rfl, rfl, rfl, rfl, fun _ => ⟨rfl, rfl, rfl⟩, rfl⟩

/-- Duties 1, 8 and 9; in HOLD, a thermal duty at the one held and above it. -/
theorem witness_BrightnessSetTakesDuties :
    let s := heated .hold true none none bare
    s.bypass = false ∧ s.brightness.state = .hold ∧ s.brightness.thermal = 4 ∧ bare.brightness.state = .normal
      ∧ (after (.brightnessSet 1 1 8) bare).decoder.last.result = .done
      ∧ (after (.brightnessSet 1 9 8) bare).decoder.last.result = .range
      ∧ (after (.brightnessSet 1 8 4) s).brightness.pendingThermal = none
      ∧ (after (.brightnessSet 1 8 5) s).brightness.pendingThermal = some 5 := by decide

/-- Each thermal state; each timer at its last event. -/
theorem witness_HeatLineMovesTheThermalState :
    State.reset.bypass = true ∧ bare.bypass = false
      ∧ (∀ x, (heated x true (some 1) none bare).brightness.state = x
          ∧ (heated x true (some 1) none bare).pins.heat = true
          ∧ (heated x true (some 1) none bare).brightness.warm = some 1)
      ∧ (heated .cooling false none (some 1) bare).brightness.cool = some 1
      ∧ (heated .cooling false none (some 1) bare).pins.heat = false :=
  ⟨rfl, rfl, fun _ => ⟨rfl, rfl, rfl⟩, rfl, rfl⟩

/-- R35, R36: with 24 enabled HOUSE zones the pairs of the eight highest IDs are merged, which leaves 40 entries; with a
zone of each role the ranges and kinds stand by zone ID, the alert raster last. -/
theorem test_watch_list :
    let houses := rebuildWatch (shown ((List.range 24).map (fun i => rec16 i (.house (8192 * i) (8192 * i + 4096) 0) i)) bare)
    let alerting : State := withAlert .onAir bare
    let mixed := rebuildWatch (shown [rec16 23 .message 1, rec16 3 (.sponsor .a) 2, rec16 12 (.house 0 8192 0) 3, rec16 1 .replay 4]
      (withClip clipA (withRibbon (ribbonIn .on .house 9 0) (withMessages (some { msg := msg 5 1 1, showing := .notStarted }) []
        { alerting with alert := { alerting.alert with chosen := some 64 } }))))
    houses.path.watch = watchEntries houses ∧ houses.path.watch.length = 40
      ∧ houses.path.watch.map (fun e => e.kind == .housePair) = List.replicate 32 false ++ List.replicate 8 true
      ∧ houses.path.watch.getLast? = some { start := 188416, len := 8192, zone := some 23, kind := .housePair }
      ∧ mixed.path.watch = watchEntries mixed
      ∧ mixed.path.watch.map (fun e => (e.start, e.len, e.kind)) =
          [(0x10000000 + 100 * 4096, 4096, .clipFrame), (0x58000000, 4096, .creative), (0, 4096, .houseBuffer),
            (8192, 4096, .houseBuffer), (0x40000000, 4096, .messageRaster), (64, 3276800, .alertRaster)] := by
  decide +kernel

/-- The invariants hold of a state with a transaction, an entry and a message, and a step from it answers. -/
theorem witness_Invariants :
    let s : State := { withQueue [.read 5] (withEntries [entryOf 17]
      (withMessages none [{ msg 500 2 1 with sponsor := 17 }] bare)) with
      pending := [.mportGrant] }
    Memory.wf s.mem ∧ (ValuesInRange s ∧ DutyAsTable s ∧ LatchesCovered s)
      ∧ (ExposureBalances s ∧ ExposureOrdered s ∧ SponsorsEntered s ∧ ForwardingBounded s ∧ MessagesOrdered s)
      ∧ WatchDerived s
      ∧ ∃ t, step s = .next t := by
  refine ⟨by decide, ⟨?_, rfl, rfl⟩, ⟨?_, ⟨by decide, by decide⟩, ?_, ⟨by decide, by decide⟩, ⟨by decide, by decide, nofun, nofun⟩⟩,
    ⟨by decide, ⟨by decide, by decide⟩, ?_⟩, _, rfl⟩
  · simp [ValuesInRange, ClockInRange, withQueue, withEntries, withMessages, bare, State.reset, coldClockUnit, coldClock,
      coldFigures, coldSweep]
  · simp [ExposureBalances, withQueue, withEntries, withMessages, bare, State.reset, coldExposure, entryOf]
  · simp [SponsorsEntered, NamesSponsor, withQueue, withEntries, withMessages, bare, State.reset, coldRotation, coldRibbon,
      msg, entryOf]
  · simp [RibbonsConsistent, RibbonConsistent, withQueue, withEntries, withMessages, bare, State.reset, coldRotation,
      coldRibbon]

end Sys2Proof.Tests
end

section
/-! PROOFS. Flags, latches and the attention mask (03 sections 3.9 and 3.10, R58 to R61): the flag cues STATUS CLEAR and
ATTENTION MASK. Each fact about a flag or its latch is stated at that flag's bit. -/

namespace Sys2Proof.Proofs

open Sys2Proof.Machine

/-! ### One flag's bit -/

@[simp] theorem flagBit_lt (f : Flag) : flagBit f < 19 := by
  cases f <;> decide

@[simp] theorem getElem_flagMask_self (f : Flag) : (flagMask f)[flagBit f]'(flagBit_lt f) = true := by
  simp [flagMask]

theorem getLsbD_flagMask_self (f : Flag) : (flagMask f).getLsbD (flagBit f) = true := by
  simp

/-- R61: the latch of a raised flag stands if it stood, or if the raise is a rise of a flag that the mask enables. -/
theorem latch_raise_self (f : Flag) (s : State) :
    (raise f s).decoder.latches.getLsbD (flagBit f)
      = (s.decoder.latches.getLsbD (flagBit f) || (!flagUp f s && s.decoder.mask.getLsbD (flagBit f))) := by
  simp [flagUp]

/-- R58, R61: raising a flag that is clear, with its latch clear, is a rise; it latches exactly where the mask enables
it. -/
theorem raise_of_down {f : Flag} {s : State} (hdown : flagUp f s = false)
    (hlatch : s.decoder.latches.getLsbD (flagBit f) = false) :
    flagUp f (raise f s) = true
      ∧ (raise f s).decoder.latches.getLsbD (flagBit f) = s.decoder.mask.getLsbD (flagBit f) := by
  rw [flagUp_raise, latch_raise_self, hdown, hlatch]
  simp

/-- R58, R61: raising a flag that stands is no rise, and leaves its latch. -/
theorem latch_raise_of_up {f : Flag} {s : State} (hup : flagUp f s = true) :
    (raise f s).decoder.latches.getLsbD (flagBit f) = s.decoder.latches.getLsbD (flagBit f) := by
  rw [latch_raise_self, hup]
  simp

/-- R59: a flag named in the clear is down afterwards, with its latch clear. -/
theorem clearFlags_named {f : Flag} {m : BitVec 19} (hf : m.getLsbD (flagBit f) = true) (s : State) :
    flagUp f (clearFlags m s) = false ∧ (clearFlags m s).decoder.latches.getLsbD (flagBit f) = false := by
  simp only [flagUp, clearFlags_flags, clearFlags_latches, BitVec.getLsbD_and, BitVec.getLsbD_not, hf]
  simp

/-- R60: a mask alone sets no latch. -/
theorem latch_replaceMask_of_clear {f : Flag} {s : State} (hlatch : s.decoder.latches.getLsbD (flagBit f) = false)
    (m : BitVec 19) : (replaceMask m s).decoder.latches.getLsbD (flagBit f) = false := by
  rw [replaceMask_latches, BitVec.getLsbD_and, hlatch, Bool.false_and]

/-- R60: an enabled flag that stands without its latch: raising it again leaves the latch clear, and the rise after the
flag fell sets it. -/
theorem latch_waits_for_next_rise {f : Flag} {s : State} (hup : flagUp f s = true)
    (hlatch : s.decoder.latches.getLsbD (flagBit f) = false) (henabled : s.decoder.mask.getLsbD (flagBit f) = true) :
    (raise f s).decoder.latches.getLsbD (flagBit f) = false
      ∧ (raise f (clearFlags (flagMask f) s)).decoder.latches.getLsbD (flagBit f) = true := by
  obtain ⟨hfallen, hfallenLatch⟩ := clearFlags_named (getLsbD_flagMask_self f) s
  exact ⟨(latch_raise_of_up hup).trans hlatch, (raise_of_down hfallen hfallenLatch).2.trans henabled⟩

/-! ### The operand of the flag cues (R59, R60) -/

/-- A mask operand is in range exactly if its bits from 19 to 31 are clear. -/
theorem flagMaskOk_iff (mask : Word) :
    flagMaskOk mask = true ↔ ∀ n, 19 ≤ n → n < 32 → mask.getLsbD n = false := by
  rw [flagMaskOk, decide_eq_true_iff]
  constructor
  · intro hlt n hn _
    exact Nat.testBit_lt_two_pow (hlt.trans_le (Nat.pow_le_pow_right (by decide) hn))
  · intro hclear
    refine Nat.lt_pow_two_of_testBit _ fun n hn => ?_
    rcases Nat.lt_or_ge n 32 with h | h
    · exact hclear n hn h
    · exact BitVec.getLsbD_of_ge mask n h

theorem flagMaskOk_eq_false {mask : Word} (h : ∃ n, 19 ≤ n ∧ n < 32 ∧ mask.getLsbD n = true) :
    flagMaskOk mask = false := by
  obtain ⟨n, hlo, hhi, hset⟩ := h
  rw [Bool.eq_false_iff]
  intro hok
  simp [(flagMaskOk_iff mask).1 hok n hlo hhi] at hset

theorem getLsbD_operand (mask : Word) (f : Flag) :
    (mask.setWidth 19).getLsbD (flagBit f) = mask.getLsbD (flagBit f) := by
  simp

/-! ### The flag cues at their hand-off -/

/-- The state after a short cue that took effect on `s`: DONE, detail 0 (R48). -/
def settledDone (tag : Half) (code : Byte) (s : State) : State :=
  { s with decoder.last := { tag := tag, code := code, result := .done, detail := 0 } }

theorem settleShort_done (tag : Half) (code : Byte) (s : State) :
    settleShort tag code .done 0 s = settledDone tag code s :=
  settleShort_taken tag code .done 0 s rfl

theorem shortCue_onFlags_refused (tag : Half) (code : Byte) (act : BitVec 19 → State → State) (s : State) {mask : Word}
    (h : flagMaskOk mask = false) : shortCue tag code (onFlags act mask) s = settleShort tag code .range 0 s := by
  simp [shortCue, onFlags, h, refusal]

theorem shortCue_onFlags_taken (tag : Half) (code : Byte) (act : BitVec 19 → State → State) (s : State) {mask : Word}
    (h : flagMaskOk mask = true) :
    shortCue tag code (onFlags act mask) s = settledDone tag code (act (mask.setWidth 19) s) := by
  simp [shortCue, onFlags, h, settleShort_done]

theorem exec_statusClear (tag : Half) (mask : Word) {s : State} (hb : s.bypass = false) :
    exec (.statusClear tag mask) s = .next (shortCue tag 0x80 (onFlags clearFlags mask) s) :=
  congrArg _ (outOfBypass_out hb)

theorem exec_attentionMask (tag : Half) (mask : Word) {s : State} (hb : s.bypass = false) :
    exec (.attentionMask tag mask) s = .next (shortCue tag 0x81 (onFlags replaceMask mask) s) :=
  congrArg _ (outOfBypass_out hb)

theorem exec_statusClear_taken (tag : Half) {mask : Word} {s : State} (hb : s.bypass = false)
    (hok : flagMaskOk mask = true) :
    exec (.statusClear tag mask) s = .next (settledDone tag 0x80 (clearFlags (mask.setWidth 19) s)) := by
  rw [exec_statusClear tag mask hb, shortCue_onFlags_taken _ _ _ _ hok]

theorem exec_attentionMask_taken (tag : Half) {mask : Word} {s : State} (hb : s.bypass = false)
    (hok : flagMaskOk mask = true) :
    exec (.attentionMask tag mask) s = .next (settledDone tag 0x81 (replaceMask (mask.setWidth 19) s)) := by
  rw [exec_attentionMask tag mask hb, shortCue_onFlags_taken _ _ _ _ hok]

/-! ### The obligations -/

/-- Settles O7: the operand check decides between a refusal and the clear; in the orders with a raise, the clear leaves
the named flag and latch down whatever came before it, and the raise of a flag that is down is a rise. -/
theorem statusClearClearsNamedFlags : Obligations.StatusClearClearsNamedFlags := by
  intro s tag mask hb
  refine ⟨fun hbad => ?refused, fun hclear => ?taken⟩
  case refused =>
    rw [exec_statusClear tag mask hb, shortCue_onFlags_refused _ _ _ _ (flagMaskOk_eq_false hbad)]
  case taken =>
    have hok := (flagMaskOk_iff mask).2 hclear
    refine ⟨_, _, exec_statusClear_taken tag hb hok, fun n hn => ?bits, fun f hf => ?orders⟩
    case bits => simp [hn]
    case orders =>
      have hnamed := (getLsbD_operand mask f).trans hf
      obtain ⟨hdown, hlatch⟩ := clearFlags_named hnamed s
      exact ⟨⟨_, exec_statusClear_taken tag hb hok, clearFlags_named hnamed (raise f s)⟩,
        _, exec_statusClear_taken tag hb hok, raise_of_down hdown hlatch⟩

/-- Settles O8: the operand check decides between a refusal and the new mask. With the mask first, the rise meets it;
with the rise first, the flag already stands, and only a fall and a new rise set its latch. -/
theorem attentionMaskReplacesMask : Obligations.AttentionMaskReplacesMask := by
  intro s tag mask hb
  refine ⟨fun hbad => ?refused, fun hclear => ?taken⟩
  case refused =>
    rw [exec_attentionMask tag mask hb, shortCue_onFlags_refused _ _ _ _ (flagMaskOk_eq_false hbad)]
  case taken =>
    have hok := (flagMaskOk_iff mask).2 hclear
    refine ⟨_, _, exec_attentionMask_taken tag hb hok, fun n hn => ?bits,
      fun f hf hdown hlatch => ⟨?maskFirst, fun hmasked => ?riseFirst⟩⟩
    case bits => simp [hn]
    all_goals have henabled := (getLsbD_operand mask f).trans hf
    case maskFirst =>
      have hwaiting := latch_replaceMask_of_clear hlatch (mask.setWidth 19)
      refine ⟨_, exec_attentionMask_taken tag hb hok, ?_⟩
      have hrise := raise_of_down (s := settledDone tag 0x81 (replaceMask (mask.setWidth 19) s)) hdown hwaiting
      exact hrise.2.trans henabled
    case riseFirst =>
      obtain ⟨hup, hrise⟩ := raise_of_down hdown hlatch
      have hwaiting := latch_replaceMask_of_clear (hrise.trans hmasked) (mask.setWidth 19)
      refine ⟨_, exec_attentionMask_taken tag hb hok, hwaiting, ?_⟩
      exact latch_waits_for_next_rise hup hwaiting henabled

end Sys2Proof.Proofs
end

section
/-! PROOFS. The display strings of the two clocks (04, R77 to R79). In both directions a string is read off one count of
tenths and one of seconds; what is left is which digits each count has. -/

namespace Sys2Proof.Proofs

open Sys2Proof.Machine

/-! ### The digits of a count -/

theorem decimal_of_lt_ten {n : Nat} (h : n < 10) : decimal n = [digit n] :=
  if_pos h

theorem decimal_of_lt_hundred {n : Nat} (hlo : 10 ≤ n) (hhi : n < 100) : decimal n = [digit (n / 10), digit n] := by
  rw [decimal, if_neg (by omega), if_pos hhi]

theorem decimal_of_lt_thousand {n : Nat} (hlo : 100 ≤ n) (hhi : n < 1000) :
    decimal n = [digit (n / 100), digit (n / 10), digit n] := by
  rw [decimal, if_neg (by omega), if_neg (by omega), if_pos hhi]

/-! ### The cells of a count -/

/-- R77: below a minute, tenths in the game clock's five cells. -/
theorem rightAlign_five_tenthsText {t : Nat} (h : t < 600) :
    rightAlign 5 (tenthsText t) =
      if t < 100 then [.blank, .blank, digit (t / 10), .dot, digit t]
      else [.blank, digit (t / 100), digit (t / 10), .dot, digit t] := by
  rw [tenthsText]
  split
  case isTrue hone =>
    rw [decimal_of_lt_ten (by omega)]
    rfl
  case isFalse htwo =>
    rw [decimal_of_lt_hundred (by omega) (by omega), Nat.div_div_eq_div_mul]
    rfl

/-- R77: minutes and seconds in the game clock's five cells; it holds less than a hundred minutes. -/
theorem rightAlign_five_minutesText {w : Nat} (h : w < 6000) :
    rightAlign 5 (minutesText w) =
      if w < 600 then [.blank, digit (w / 60), .colon, digit (w % 60 / 10), digit (w % 60)]
      else [digit (w / 600), digit (w / 60), .colon, digit (w % 60 / 10), digit (w % 60)] := by
  rw [minutesText]
  split
  case isTrue hone =>
    rw [decimal_of_lt_ten (by omega)]
    rfl
  case isFalse htwo =>
    rw [decimal_of_lt_hundred (by omega) (by omega), Nat.div_div_eq_div_mul]
    rfl

/-- R79: below five seconds, tenths fill the secondary clock's three cells. -/
theorem rightAlign_three_tenthsText {t : Nat} (h : t < 50) :
    rightAlign 3 (tenthsText t) = [digit (t / 10), .dot, digit t] := by
  rw [tenthsText, decimal_of_lt_ten (by omega)]
  rfl

/-- R79, and R92 for a score: a number in three cells. -/
theorem rightAlign_three_decimal {w : Nat} (h : w < 1000) :
    rightAlign 3 (decimal w) =
      if w < 10 then [.blank, .blank, digit w]
      else if w < 100 then [.blank, digit (w / 10), digit w]
      else [digit (w / 100), digit (w / 10), digit w] := by
  split
  case isTrue hone =>
    rw [decimal_of_lt_ten hone]
    rfl
  case isFalse hten =>
    split
    case isTrue htwo =>
      rw [decimal_of_lt_hundred (by omega) htwo]
      rfl
    case isFalse hhundred =>
      rw [decimal_of_lt_thousand (by omega) h]
      rfl

/-! ### The count a clock shows -/

/-- What a clock shows of its value in steps of `unit` milliseconds: rounded up while it counts down (R77), and down
while it counts up (R78). -/
def shownCount (c : Clock) (unit : Nat) : Nat :=
  match c.direction with
  | .down => ceilDiv c.value unit
  | .up => c.value / unit

theorem shownCount_down {c : Clock} (h : c.direction = .down) (unit : Nat) :
    shownCount c unit = ceilDiv c.value unit := by
  rw [shownCount, h]

theorem shownCount_up {c : Clock} (h : c.direction = .up) (unit : Nat) : shownCount c unit = c.value / unit := by
  rw [shownCount, h]

/-- Rounding up does not pass a whole number of units. -/
theorem shownCount_le {c : Clock} {unit n : Nat} (hunit : 0 < unit) (h : c.value ≤ n * unit) :
    shownCount c unit ≤ n := by
  cases hdir : c.direction with
  | down =>
    rw [shownCount_down hdir, ceilDiv, ← Nat.lt_succ_iff, Nat.div_lt_iff_lt_mul hunit, Nat.succ_mul]
    omega
  | up =>
    rw [shownCount_up hdir]
    exact Nat.div_le_of_le_mul (by rwa [Nat.mul_comm])

/-- R77, R78: one reading of the game clock for both directions. -/
theorem gameText_eq (tenths : Bool) (c : Clock) :
    gameText tenths c =
      rightAlign 5
        (if tenths = true ∧ shownCount c 100 < 600 then tenthsText (shownCount c 100)
        else minutesText (shownCount c 1000)) := by
  cases hdir : c.direction with
  | down => simp only [gameText, hdir, shownCount_down hdir, Nat.lt_succ_iff]
  | up =>
    have hbound : c.value < 60000 ↔ c.value / 100 < 600 := by omega
    simp only [gameText, hdir, shownCount_up hdir, hbound]

/-- R79: one reading of the secondary clock for both directions. -/
theorem secondaryText_eq (tenths : Bool) (c : Clock) :
    secondaryText tenths c =
      rightAlign 3
        (if tenths = true ∧ shownCount c 100 < 50 then tenthsText (shownCount c 100)
        else decimal (shownCount c 1000)) := by
  cases hdir : c.direction with
  | down => simp only [secondaryText, hdir, shownCount_down hdir, Nat.lt_succ_iff]
  | up =>
    have hbound : c.value < 5000 ↔ c.value / 100 < 50 := by omega
    simp only [secondaryText, hdir, shownCount_up hdir, hbound]

/-! ### The cells of each clock -/

theorem gameText_cells (tenths : Bool) {c : Clock} (h : c.value ≤ 5999000) :
    let t := shownCount c 100
    let w := shownCount c 1000
    gameText tenths c =
      if tenths = true ∧ t < 600 then
        (if t < 100 then [.blank, .blank, digit (t / 10), .dot, digit t]
         else [.blank, digit (t / 100), digit (t / 10), .dot, digit t])
      else if w < 600 then [.blank, digit (w / 60), .colon, digit (w % 60 / 10), digit (w % 60)]
      else [digit (w / 600), digit (w / 60), .colon, digit (w % 60 / 10), digit (w % 60)] := by
  intro t w
  have hseconds : w ≤ 5999 := shownCount_le (by decide) h
  rw [gameText_eq, apply_ite (rightAlign 5), rightAlign_five_minutesText (Nat.lt_succ_of_le hseconds)]
  exact if_ctx_congr Iff.rfl (fun hshow => rightAlign_five_tenthsText hshow.2) fun _ => rfl

theorem secondaryText_cells (tenths : Bool) {c : Clock} (h : c.value ≤ 999000) :
    let t := shownCount c 100
    let w := shownCount c 1000
    secondaryText tenths c =
      if tenths = true ∧ t < 50 then [digit (t / 10), .dot, digit t]
      else if w < 10 then [.blank, .blank, digit w]
      else if w < 100 then [.blank, digit (w / 10), digit w]
      else [digit (w / 100), digit (w / 10), digit w] := by
  intro t w
  have hseconds : w ≤ 999 := shownCount_le (by decide) h
  rw [secondaryText_eq, apply_ite (rightAlign 3), rightAlign_three_decimal (Nat.lt_succ_of_le hseconds)]
  exact if_ctx_congr Iff.rfl (fun hshow => rightAlign_three_tenthsText hshow.2) fun _ => rfl

/-! ### The obligation -/

/-- Settles O41: each clock's string is one text of its shown tenths and seconds, in either direction, and the bound on
its value bounds the digits of the seconds. -/
theorem displayStringsReadTheClocks : Obligations.DisplayStringsReadTheClocks := by
  intro tenths c
  exact ⟨gameText_cells tenths, secondaryText_cells tenths⟩

end Sys2Proof.Proofs
end

section
/-! PROOFS. BRIGHTNESS SET (10, R176, R178): its operand check, the duties it takes in each thermal state, and the
effective duty read off the table of R178. -/

namespace Sys2Proof.Proofs

open Sys2Proof.Machine

/-! ### The thermal state and the effective duty -/

theorem thermalLimit_iff (x : ThermalState) : thermalLimit x = true ↔ x = .hold ∨ x = .cooling := by
  simp [thermalLimit]

theorem alertOnAir_iff (s : State) : alertOnAir s = true ↔ s.alert.state = .onAir :=
  beq_iff_eq

/-- R178: the table of the effective duty. -/
theorem dutyOf_alertOnAir (b : BrightnessGovernor) (s : State) :
    dutyOf b (alertOnAir s) =
      if b.state = .hold ∨ b.state = .cooling then min b.requested b.thermal
      else if s.alert.state = .onAir then 8 else b.requested := by
  simp only [dutyOf, thermalLimit_iff, alertOnAir_iff, Config.alertDuty]

/-! ### The operands of BRIGHTNESS SET -/

theorem dutyOk_iff (b : Byte) : dutyOk b = true ↔ 1 ≤ b.toNat ∧ b.toNat ≤ 8 := by
  simp [dutyOk]

theorem dutiesOk_iff (requested thermal : Byte) :
    (dutyOk requested && dutyOk thermal) = true ↔
      1 ≤ requested.toNat ∧ requested.toNat ≤ 8 ∧ 1 ≤ thermal.toNat ∧ thermal.toNat ≤ 8 := by
  rw [Bool.and_eq_true, dutyOk_iff, dutyOk_iff, and_assoc]

/-! ### The duties taken -/

/-- R176: out of HOLD and COOLING, or where the new duty is not higher, the thermal duty is replaced at once. -/
theorem takeThermal_now {v : Nat} {b : BrightnessGovernor}
    (h : ¬ (b.state = .hold ∨ b.state = .cooling) ∨ v ≤ b.thermal) :
    takeThermal v b = { b with thermal := v, pendingThermal := none } := by
  refine if_neg fun ⟨hlimit, hhigher⟩ => ?_
  rcases h with hfree | hle
  · exact hfree ((thermalLimit_iff b.state).1 hlimit)
  · exact hle.not_gt hhigher

/-- R176: in HOLD and COOLING a higher thermal duty waits. -/
theorem takeThermal_later {v : Nat} {b : BrightnessGovernor} (hlimit : b.state = .hold ∨ b.state = .cooling)
    (hhigher : b.thermal < v) : takeThermal v b = { b with pendingThermal := some v } :=
  if_pos ⟨(thermalLimit_iff b.state).2 hlimit, hhigher⟩

/-! ### BRIGHTNESS SET at its hand-off -/

/-- The state in which BRIGHTNESS SET leaves its unit: the new duties stored, and the effective duty recomputed. -/
def withDuties (requested thermal : Nat) (s : State) : State :=
  recomputeDuty { s with brightness := takeThermal thermal { s.brightness with requested := requested } }

theorem brightnessSet_refused {requested thermal : Byte} (h : (dutyOk requested && dutyOk thermal) = false) (s : State) :
    brightnessSet requested thermal s = refusal .range s := by
  rw [brightnessSet, ← Bool.not_and, h]
  rfl

theorem brightnessSet_taken {requested thermal : Byte} (h : (dutyOk requested && dutyOk thermal) = true) (s : State) :
    brightnessSet requested thermal s =
      { state := withDuties requested.toNat thermal.toNat s, result := .done, detail := 0 } := by
  rw [brightnessSet, ← Bool.not_and, h]
  rfl

/-- The effective duty of `withDuties` in the table's form, for whichever thermal duty and pending one are left. -/
theorem withDuties_eq {requested thermal duty : Nat} {waiting : Option Nat} {s : State}
    (h : takeThermal thermal { s.brightness with requested := requested } =
      { s.brightness with requested := requested, thermal := duty, pendingThermal := waiting }) :
    withDuties requested thermal s =
      { s with brightness :=
          { s.brightness with
            requested := requested, thermal := duty, pendingThermal := waiting
            effective :=
              if s.brightness.state = .hold ∨ s.brightness.state = .cooling then min requested duty
              else if s.alert.state = .onAir then 8 else requested } } := by
  rw [withDuties, h, recomputeDuty, dutyOf_alertOnAir]

theorem exec_brightnessSet (tag : Half) (requested thermal : Byte) {s : State} (hb : s.bypass = false) :
    exec (.brightnessSet tag requested thermal) s = .next (shortCue tag 0x60 (brightnessSet requested thermal) s) :=
  congrArg _ (outOfBypass_out hb)

theorem exec_brightnessSet_taken (tag : Half) {requested thermal : Byte} {s t : State} (hb : s.bypass = false)
    (hok : (dutyOk requested && dutyOk thermal) = true) (ht : withDuties requested.toNat thermal.toNat s = t) :
    exec (.brightnessSet tag requested thermal) s = .next (settleShort tag 0x60 .done 0 t) := by
  rw [exec_brightnessSet tag requested thermal hb, shortCue, brightnessSet_taken hok, ht]

/-! ### The obligation -/

/-- Settles O54: the operand check decides between a refusal and the new duties; the thermal state and the order of the
two thermal duties decide whether the new one stands at once or waits. -/
theorem brightnessSetTakesDuties : Obligations.BrightnessSetTakesDuties := by
  intro s tag requested thermal hb
  refine ⟨fun hbad => ?refused, fun hgood hnow => ?replaced, fun hgood hlimit hhigher => ?waits⟩
  case refused =>
    have hcheck := Bool.eq_false_iff.2 fun hok => hbad ((dutiesOk_iff requested thermal).1 hok)
    rw [exec_brightnessSet tag requested thermal hb, shortCue, brightnessSet_refused hcheck, refusal]
  all_goals have hok := (dutiesOk_iff requested thermal).2 hgood
  case replaced => exact exec_brightnessSet_taken tag hb hok (withDuties_eq (takeThermal_now hnow))
  case waits => exact exec_brightnessSet_taken tag hb hok (withDuties_eq (takeThermal_later hlimit hhigher))

end Sys2Proof.Proofs
end

section
/-! PROOFS. Footprints: which parts of the state an operation can change. `Within ps s t` says that `t` is `s` but for
the parts `ps`; each operation of the model has one lemma that names its parts, and every statement that something is
left alone is read off these. A part is a field, but for three that say more: a flag with its latch, the zones' content
epochs by the kind of zone that a unit reports to, and that flags and latches change by raises alone. -/

namespace Sys2Proof.Proofs

open Sys2Proof.Machine

/-- The kinds of zone that a unit reports to (R9). -/
inductive ZoneKind where
  | replay
  | sponsor (ribbon : RibbonId)
  | figure
  | message
  | house
  deriving DecidableEq

def roleKind : Role → ZoneKind
  | .replay => .replay
  | .sponsor r => .sponsor r
  | .figure _ => .figure
  | .message => .message
  | .house _ _ _ => .house

/-- The content epoch of a zone of a kind, none for a zone of another kind. -/
def epochOf (k : ZoneKind) (z : Zone) : Option Word := if roleKind z.cfg.role = k then some z.epoch else none

/-- The parts of the state. Of the zones: their records, epochs, receiver states, what was last sent, and underruns. -/
inductive Part where
  | pins | bypass | initCount | segment | mem | queue | offered | answered | reply | watch | houses | turn
  | port | lane | last | image | lines | captureDue | number | header | load | frame | duty | rate | link
  | receivers | receiver | console | watchdog | game | secondary | tenths | period | gameString
  | secondaryString | home | guest | homeAux | guestAux | shownPeriod | glyphs | strings | celebration
  | glyphLoad | current | onDeck | take | arm | gather | entries | snapshot | messageQueue | onAir | lastGone
  | alertState | latch | debounce | raised | standing | colour | chosen | requested | thermal | pendingThermal
  | thermalState | warm | cool | effective | pending
  | flag (f : Flag) | cleared | ribbon (id : RibbonId)
  | cfgs | epochs (k : ZoneKind) | holds | sent | underruns
  deriving DecidableEq

/-- A flag's latch. -/
def latchUp (f : Flag) (s : State) : Bool := s.decoder.latches.getLsbD (flagBit f)

/-- R58, R61: flags and latches change as by raises under the mask: no flag and no latch is lost, and a latch is set
exactly as its flag rises with its mask bit set. -/
def OnlyRaises (s t : State) : Prop :=
  t.decoder.mask = s.decoder.mask
    ∧ ∀ f, (flagUp f s = true → flagUp f t = true)
      ∧ latchUp f t = (latchUp f s || (!flagUp f s && flagUp f t && s.decoder.mask.getLsbD (flagBit f)))

/-- The two states agree in a part. -/
def Part.Same (s t : State) : Part → Prop
  | .pins => t.pins = s.pins
  | .bypass => t.bypass = s.bypass
  | .initCount => t.initCount = s.initCount
  | .segment => t.segment = s.segment
  | .mem => t.mem = s.mem
  | .queue => t.path.queue = s.path.queue
  | .offered => t.path.offered = s.path.offered
  | .answered => t.path.headAnswered = s.path.headAnswered
  | .reply => t.path.reply = s.path.reply
  | .watch => t.path.watch = s.path.watch
  | .houses => t.path.houses = s.path.houses
  | .turn => t.turn = s.turn
  | .port => t.port = s.port
  | .lane => t.decoder.lane = s.decoder.lane
  | .last => t.decoder.last = s.decoder.last
  | .image => t.status.image = s.status.image
  | .lines => t.status.lines = s.status.lines
  | .captureDue => t.status.captureDue = s.status.captureDue
  | .number => t.sweep.number = s.sweep.number
  | .header => t.sweep.header = s.sweep.header
  | .load => t.sweep.load = s.sweep.load
  | .frame => t.sweep.frame = s.sweep.frame
  | .duty => t.sweep.duty = s.sweep.duty
  | .rate => t.sweep.rate = s.sweep.rate
  | .link => t.sweep.link = s.sweep.link
  | .receivers => t.receivers = s.receivers
  | .receiver => t.clock.receiver = s.clock.receiver
  | .console => t.clock.console = s.clock.console
  | .watchdog => t.clock.watchdog = s.clock.watchdog
  | .game => t.clock.game = s.clock.game
  | .secondary => t.clock.secondary = s.clock.secondary
  | .tenths => t.clock.tenths = s.clock.tenths
  | .period => t.clock.period = s.clock.period
  | .gameString => t.clock.gameString = s.clock.gameString
  | .secondaryString => t.clock.secondaryString = s.clock.secondaryString
  | .home => t.figures.home = s.figures.home
  | .guest => t.figures.guest = s.figures.guest
  | .homeAux => t.figures.homeAux = s.figures.homeAux
  | .guestAux => t.figures.guestAux = s.figures.guestAux
  | .shownPeriod => t.figures.period = s.figures.period
  | .glyphs => t.figures.glyphs = s.figures.glyphs
  | .strings => t.figures.strings = s.figures.strings
  | .celebration => t.figures.celebration = s.figures.celebration
  | .glyphLoad => t.figures.load = s.figures.load
  | .current => t.replay.current = s.replay.current
  | .onDeck => t.replay.onDeck = s.replay.onDeck
  | .take => t.replay.take = s.replay.take
  | .arm => t.replay.arm = s.replay.arm
  | .gather => t.rotation.gather = s.rotation.gather
  | .entries => t.exposure.entries = s.exposure.entries
  | .snapshot => t.exposure.snapshot = s.exposure.snapshot
  | .messageQueue => t.messages.queue = s.messages.queue
  | .onAir => t.messages.onAir = s.messages.onAir
  | .lastGone => t.messages.lastGone = s.messages.lastGone
  | .alertState => t.alert.state = s.alert.state
  | .latch => t.alert.latch = s.alert.latch
  | .debounce => t.alert.debounce = s.alert.debounce
  | .raised => t.alert.raised = s.alert.raised
  | .standing => t.alert.standing = s.alert.standing
  | .colour => t.alert.colour = s.alert.colour
  | .chosen => t.alert.chosen = s.alert.chosen
  | .requested => t.brightness.requested = s.brightness.requested
  | .thermal => t.brightness.thermal = s.brightness.thermal
  | .pendingThermal => t.brightness.pendingThermal = s.brightness.pendingThermal
  | .thermalState => t.brightness.state = s.brightness.state
  | .warm => t.brightness.warm = s.brightness.warm
  | .cool => t.brightness.cool = s.brightness.cool
  | .effective => t.brightness.effective = s.brightness.effective
  | .pending => t.pending = s.pending
  | .flag f => flagUp f t = flagUp f s ∧ latchUp f t = latchUp f s
  | .cleared => OnlyRaises s t
  | .ribbon id => ribbonOf id t = ribbonOf id s
  | .cfgs => t.sweep.zones.map (·.cfg) = s.sweep.zones.map (·.cfg)
  | .epochs k => t.sweep.zones.map (epochOf k) = s.sweep.zones.map (epochOf k)
  | .holds => t.sweep.zones.map (·.receiver) = s.sweep.zones.map (·.receiver)
  | .sent => t.sweep.zones.map (fun z => (z.lastEpoch, z.lastIdent)) = s.sweep.zones.map (fun z => (z.lastEpoch, z.lastIdent))
  | .underruns => t.sweep.zones.map (·.underruns) = s.sweep.zones.map (·.underruns)

/-- `t` is `s` but for the parts `ps`. -/
def Within (ps : List Part) (s t : State) : Prop := ∀ p, p ∉ ps → p.Same s t

/-- One field of `merge`. -/
def pick {α : Type} (ps : List Part) (p : Part) (old new : α) : α := if p ∈ ps then new else old

/-- `s` with the parts `ps` taken from `t`, with flags and latches where `fl` holds, and with the zones where `zn` holds. -/
def merge (fl zn : Bool) (ps : List Part) (s t : State) : State :=
  { pins := pick ps .pins s.pins t.pins
    bypass := pick ps .bypass s.bypass t.bypass
    initCount := pick ps .initCount s.initCount t.initCount
    segment := pick ps .segment s.segment t.segment
    mem := pick ps .mem s.mem t.mem
    path :=
      { queue := pick ps .queue s.path.queue t.path.queue,
        offered := pick ps .offered s.path.offered t.path.offered,
        headAnswered := pick ps .answered s.path.headAnswered t.path.headAnswered,
        reply := pick ps .reply s.path.reply t.path.reply, watch := pick ps .watch s.path.watch t.path.watch,
        houses := pick ps .houses s.path.houses t.path.houses }
    turn := pick ps .turn s.turn t.turn
    port := pick ps .port s.port t.port
    decoder :=
      { lane := pick ps .lane s.decoder.lane t.decoder.lane,
        last := pick ps .last s.decoder.last t.decoder.last,
        mask := if fl then pick ps .cleared s.decoder.mask t.decoder.mask else s.decoder.mask,
        latches := if fl then t.decoder.latches else s.decoder.latches }
    status :=
      { flags := if fl then t.status.flags else s.status.flags,
        image := pick ps .image s.status.image t.status.image,
        lines := pick ps .lines s.status.lines t.status.lines,
        captureDue := pick ps .captureDue s.status.captureDue t.status.captureDue }
    sweep :=
      { number := pick ps .number s.sweep.number t.sweep.number,
        header := pick ps .header s.sweep.header t.sweep.header,
        zones := if zn then t.sweep.zones else s.sweep.zones, load := pick ps .load s.sweep.load t.sweep.load,
        frame := pick ps .frame s.sweep.frame t.sweep.frame, duty := pick ps .duty s.sweep.duty t.sweep.duty,
        rate := pick ps .rate s.sweep.rate t.sweep.rate, link := pick ps .link s.sweep.link t.sweep.link }
    receivers := pick ps .receivers s.receivers t.receivers
    clock :=
      { receiver := pick ps .receiver s.clock.receiver t.clock.receiver,
        console := pick ps .console s.clock.console t.clock.console,
        watchdog := pick ps .watchdog s.clock.watchdog t.clock.watchdog,
        game := pick ps .game s.clock.game t.clock.game,
        secondary := pick ps .secondary s.clock.secondary t.clock.secondary,
        tenths := pick ps .tenths s.clock.tenths t.clock.tenths,
        period := pick ps .period s.clock.period t.clock.period,
        gameString := pick ps .gameString s.clock.gameString t.clock.gameString,
        secondaryString := pick ps .secondaryString s.clock.secondaryString t.clock.secondaryString }
    figures :=
      { home := pick ps .home s.figures.home t.figures.home,
        guest := pick ps .guest s.figures.guest t.figures.guest,
        homeAux := pick ps .homeAux s.figures.homeAux t.figures.homeAux,
        guestAux := pick ps .guestAux s.figures.guestAux t.figures.guestAux,
        period := pick ps .shownPeriod s.figures.period t.figures.period,
        glyphs := pick ps .glyphs s.figures.glyphs t.figures.glyphs,
        strings := pick ps .strings s.figures.strings t.figures.strings,
        celebration := pick ps .celebration s.figures.celebration t.figures.celebration,
        load := pick ps .glyphLoad s.figures.load t.figures.load }
    replay :=
      { current := pick ps .current s.replay.current t.replay.current,
        onDeck := pick ps .onDeck s.replay.onDeck t.replay.onDeck,
        take := pick ps .take s.replay.take t.replay.take, arm := pick ps .arm s.replay.arm t.replay.arm }
    rotation :=
      { a := pick ps (.ribbon .a) s.rotation.a t.rotation.a,
        b := pick ps (.ribbon .b) s.rotation.b t.rotation.b,
        gather := pick ps .gather s.rotation.gather t.rotation.gather }
    exposure :=
      { entries := pick ps .entries s.exposure.entries t.exposure.entries,
        snapshot := pick ps .snapshot s.exposure.snapshot t.exposure.snapshot }
    messages :=
      { queue := pick ps .messageQueue s.messages.queue t.messages.queue,
        onAir := pick ps .onAir s.messages.onAir t.messages.onAir,
        lastGone := pick ps .lastGone s.messages.lastGone t.messages.lastGone }
    alert :=
      { state := pick ps .alertState s.alert.state t.alert.state,
        latch := pick ps .latch s.alert.latch t.alert.latch,
        debounce := pick ps .debounce s.alert.debounce t.alert.debounce,
        raised := pick ps .raised s.alert.raised t.alert.raised,
        standing := pick ps .standing s.alert.standing t.alert.standing,
        colour := pick ps .colour s.alert.colour t.alert.colour,
        chosen := pick ps .chosen s.alert.chosen t.alert.chosen }
    brightness :=
      { requested := pick ps .requested s.brightness.requested t.brightness.requested,
        thermal := pick ps .thermal s.brightness.thermal t.brightness.thermal,
        pendingThermal := pick ps .pendingThermal s.brightness.pendingThermal t.brightness.pendingThermal,
        state := pick ps .thermalState s.brightness.state t.brightness.state,
        warm := pick ps .warm s.brightness.warm t.brightness.warm,
        cool := pick ps .cool s.brightness.cool t.brightness.cool,
        effective := pick ps .effective s.brightness.effective t.brightness.effective }
    pending := pick ps .pending s.pending t.pending }

theorem OnlyRaises.refl (s : State) : OnlyRaises s s :=
  ⟨rfl, fun f => ⟨id, by cases flagUp f s <;> simp⟩⟩

theorem OnlyRaises.trans {s t u : State} (h : OnlyRaises s t) (k : OnlyRaises t u) : OnlyRaises s u := by
  refine ⟨k.1.trans h.1, fun f => ?_⟩
  obtain ⟨hmono, hlatch⟩ := h.2 f
  obtain ⟨kmono, klatch⟩ := k.2 f
  refine ⟨kmono ∘ hmono, ?_⟩
  rw [klatch, hlatch, h.1]
  cases hs : flagUp f s <;> cases ht : flagUp f t <;> cases hu : flagUp f u <;> simp_all

theorem Part.Same.refl {s : State} : ∀ p : Part, p.Same s s := by
  intro p
  cases p
  case flag f => exact ⟨rfl, rfl⟩
  case cleared => exact OnlyRaises.refl s
  all_goals exact Eq.refl _

theorem Part.Same.trans {s t u : State} {p : Part} : p.Same s t → p.Same t u → p.Same s u := by
  cases p
  case flag f => exact fun h k => ⟨k.1.trans h.1, k.2.trans h.2⟩
  case cleared => exact OnlyRaises.trans
  all_goals exact fun h k => Eq.trans k h

/-! ### States that agree in every part -/

/-- Every bit of the flag registers is the bit of a flag. -/
theorem exists_flagBit {n : Nat} (h : n < 19) : ∃ f, flagBit f = n := by
  have all : ∀ m : Fin 19, ∃ f, flagBit f = m.val := by
    intro m
    fin_cases m
    exacts [⟨.clockSnap, rfl⟩, ⟨.consoleLost, rfl⟩, ⟨.clockExpired, rfl⟩, ⟨.clipEnded, rfl⟩, ⟨.chaseTimeout, rfl⟩,
      ⟨.rotationCommitted, rfl⟩, ⟨.rotationRefused, rfl⟩, ⟨.messageEvicted, rfl⟩, ⟨.messageDropped, rfl⟩,
      ⟨.alertOnAir, rfl⟩, ⟨.alertCleared, rfl⟩, ⟨.thermalHold, rfl⟩, ⟨.thermalRelease, rfl⟩, ⟨.zoneUnderrun, rfl⟩,
      ⟨.houseStale, rfl⟩, ⟨.linkDown, rfl⟩, ⟨.lateWrite, rfl⟩, ⟨.cueRefused, rfl⟩, ⟨.longCueDone, rfl⟩]
  exact all ⟨n, h⟩

/-- Flag registers that agree at every flag's bit are equal. -/
theorem flagRegister_ext {x y : BitVec 19} (h : ∀ f, x.getLsbD (flagBit f) = y.getLsbD (flagBit f)) : x = y := by
  refine BitVec.eq_of_getLsbD_eq fun n hn => ?_
  obtain ⟨f, rfl⟩ := exists_flagBit hn
  exact h f

theorem Part.Same.flags_eq {s t : State} (h : ∀ p : Part, p.Same s t) : t.status.flags = s.status.flags :=
  flagRegister_ext fun f => (h (.flag f)).1

theorem Part.Same.latches_eq {s t : State} (h : ∀ p : Part, p.Same s t) : t.decoder.latches = s.decoder.latches :=
  flagRegister_ext fun f => (h (.flag f)).2

theorem Part.Same.zones_eq {s t : State} (h : ∀ p : Part, p.Same s t) : t.sweep.zones = s.sweep.zones := by
  refine List.ext_getElem? fun n => ?_
  have hcfg := congrArg (·[n]?) (h .cfgs)
  have hepoch := fun k => congrArg (·[n]?) (h (.epochs k))
  have hhold := congrArg (·[n]?) (h .holds)
  have hsent := congrArg (·[n]?) (h .sent)
  have hunder := congrArg (·[n]?) (h .underruns)
  simp only [List.getElem?_map] at hcfg hepoch hhold hsent hunder
  cases ht : t.sweep.zones[n]? <;> cases hs : s.sweep.zones[n]? <;> simp only [ht, hs, Option.map_none, Option.map_some,
    reduceCtorEq, Option.some.injEq, Prod.mk.injEq] at hcfg hepoch hhold hsent hunder ⊢
  case some.some z u =>
    have hsame := hepoch (roleKind u.cfg.role)
    rw [epochOf, epochOf, hcfg, if_pos rfl, if_pos rfl, Option.some.injEq] at hsame
    obtain ⟨_, _, _, _, _, _⟩ := z
    obtain ⟨_, _, _, _, _, _⟩ := u
    simp_all

/-- States that agree in every part are equal. -/
theorem Part.Same.eq {s t : State} (h : ∀ p : Part, p.Same s t) : t = s := by
  have hzones := Part.Same.zones_eq h
  have hflags := Part.Same.flags_eq h
  have hlatches := Part.Same.latches_eq h
  have hmask := (h .cleared).1
  obtain ⟨_, _, _, _, _, ⟨⟩, _, _, ⟨⟩, ⟨⟩, ⟨⟩, _, ⟨⟩, ⟨⟩, ⟨⟩, ⟨⟩, ⟨⟩, ⟨⟩, ⟨⟩, ⟨⟩, _⟩ := s
  obtain ⟨_, _, _, _, _, ⟨⟩, _, _, ⟨⟩, ⟨⟩, ⟨⟩, _, ⟨⟩, ⟨⟩, ⟨⟩, ⟨⟩, ⟨⟩, ⟨⟩, ⟨⟩, ⟨⟩, _⟩ := t
  simp only [State.mk.injEq, TransactionPath.mk.injEq, CueDecoder.mk.injEq, StatusWriter.mk.injEq, SweepEngine.mk.injEq,
    ClockUnit.mk.injEq, FigureRenderer.mk.injEq, ReplayEngine.mk.injEq, RotationUnit.mk.injEq, ExposureTable.mk.injEq,
    MessageQueue.mk.injEq, AlertUnit.mk.injEq, BrightnessGovernor.mk.injEq]
  exact ⟨h .pins, h .bypass, h .initCount, h .segment, h .mem,
    ⟨h .queue, h .offered, h .answered, h .reply, h .watch, h .houses⟩, h .turn, h .port,
    ⟨h .lane, h .last, hmask, hlatches⟩,
    ⟨hflags, h .image, h .lines, h .captureDue⟩,
    ⟨h .number, h .header, hzones, h .load, h .frame, h .duty, h .rate, h .link⟩, h .receivers,
    ⟨h .receiver, h .console, h .watchdog, h .game, h .secondary, h .tenths, h .period, h .gameString, h .secondaryString⟩,
    ⟨h .home, h .guest, h .homeAux, h .guestAux, h .shownPeriod, h .glyphs, h .strings, h .celebration, h .glyphLoad⟩,
    ⟨h .current, h .onDeck, h .take, h .arm⟩, ⟨h (.ribbon .a), h (.ribbon .b), h .gather⟩,
    ⟨h .entries, h .snapshot⟩, ⟨h .messageQueue, h .onAir, h .lastGone⟩,
    ⟨h .alertState, h .latch, h .debounce, h .raised, h .standing, h .colour, h .chosen⟩,
    ⟨h .requested, h .thermal, h .pendingThermal, h .thermalState, h .warm, h .cool, h .effective⟩, h .pending⟩

/-! ### Footprints -/

theorem Within.refl (ps : List Part) (s : State) : Within ps s s := fun p _ => Part.Same.refl p

/-- One operation after another, the second within the parts of the whole. -/
theorem Within.trans {ps : List Part} {s t u : State} (h : Within ps s t) (k : Within ps t u) : Within ps s u :=
  fun p hp => (h p hp).trans (k p hp)

theorem Within.mono {ps qs : List Part} {s t : State} (h : Within ps s t) (sub : ∀ p ∈ ps, p ∈ qs) : Within qs s t :=
  fun p hp => h p fun hin => hp (sub p hin)

/-- An operation with its own parts after others. -/
theorem Within.andThen {ps qs : List Part} {s t u : State} (h : Within ps s t) (k : Within qs t u)
    (sub : ∀ p ∈ qs, p ∈ ps) : Within ps s u :=
  h.trans (k.mono sub)

/-- What a footprint says of the whole state. -/
theorem Within.eq_merge {ps : List Part} {s t : State} (h : Within ps s t) : t = merge true true ps s t := by
  refine Part.Same.eq fun p => ?_
  by_cases hp : p ∈ ps
  · cases p
    case flag f => exact ⟨rfl, rfl⟩
    case cleared =>
      refine ⟨(if_pos hp).symm, fun f => ⟨id, ?_⟩⟩
      change latchUp f t = (latchUp f t || (!flagUp f t && flagUp f t && _))
      cases flagUp f t <;> simp
    case ribbon id => cases id <;> exact (if_pos hp).symm
    case cfgs => rfl
    case epochs k => rfl
    case holds => rfl
    case sent => rfl
    case underruns => rfl
    all_goals exact (if_pos hp).symm
  · have hsame := h p hp
    cases p
    case flag f => exact ⟨rfl, rfl⟩
    case cleared =>
      refine ⟨hsame.1.trans (if_neg hp).symm, fun f => ⟨id, ?_⟩⟩
      change latchUp f t = (latchUp f t || (!flagUp f t && flagUp f t && _))
      cases flagUp f t <;> simp
    case ribbon id => cases id <;> exact Eq.trans hsame (if_neg hp).symm
    case cfgs => rfl
    case epochs k => rfl
    case holds => rfl
    case sent => rfl
    case underruns => rfl
    all_goals exact Eq.trans hsame (if_neg hp).symm

/-- Every flag, and that they change by raises alone. -/
abbrev clearedParts : List Part :=
  [.cleared, .flag .clockSnap, .flag .consoleLost, .flag .clockExpired, .flag .clipEnded, .flag .chaseTimeout,
    .flag .rotationCommitted, .flag .rotationRefused, .flag .messageEvicted, .flag .messageDropped, .flag .alertOnAir,
    .flag .alertCleared, .flag .thermalHold, .flag .thermalRelease, .flag .zoneUnderrun, .flag .houseStale,
    .flag .linkDown, .flag .lateWrite, .flag .cueRefused, .flag .longCueDone]

/-- The content epochs of every kind of zone. -/
abbrev epochParts : List Part :=
  [.epochs .replay, .epochs (.sponsor .a), .epochs (.sponsor .b), .epochs .figure, .epochs .message, .epochs .house]

/-- Everything of the zones. -/
abbrev zoneParts : List Part := [.cfgs, .holds, .sent, .underruns] ++ epochParts

theorem flag_mem_clearedParts (f : Flag) : Part.flag f ∈ clearedParts := by cases f <;> decide

theorem epochs_mem_epochParts (k : ZoneKind) : Part.epochs k ∈ epochParts := by
  rcases k with _ | (_ | _) | _ | _ | _ <;> decide

/-- A state written as a change of some fields of another, which are neither flags nor zones, has those fields as its
footprint. -/
theorem Within.of_merge {ps : List Part} {s t : State} (h : t = merge false false ps s t) : Within ps s t := by
  intro p hp
  rw [h]
  cases p
  case flag f => exact ⟨rfl, rfl⟩
  case cleared => exact OnlyRaises.refl s
  case ribbon id => cases id <;> exact if_neg hp
  case cfgs => rfl
  case epochs k => rfl
  case holds => rfl
  case sent => rfl
  case underruns => rfl
  all_goals exact if_neg hp

/-- The same where the flags and the mask change freely too. -/
theorem Within.of_merge_flags {ps : List Part} {s t : State} (h : t = merge true false ps s t)
    (sub : ∀ p ∈ clearedParts, p ∈ ps) : Within ps s t := by
  intro p hp
  rw [h]
  cases p
  case flag f => exact absurd (sub _ (flag_mem_clearedParts f)) hp
  case cleared => exact absurd (sub _ (by decide)) hp
  case ribbon id => cases id <;> exact if_neg hp
  case cfgs => rfl
  case epochs k => rfl
  case holds => rfl
  case sent => rfl
  case underruns => rfl
  all_goals exact if_neg hp

/-- The same where the zones change freely too. -/
theorem Within.of_merge_zones {ps : List Part} {s t : State} (h : t = merge false true ps s t)
    (sub : ∀ p ∈ zoneParts, p ∈ ps) : Within ps s t := by
  intro p hp
  cases p
  case cfgs => exact absurd (sub _ (by decide)) hp
  case epochs k => exact absurd (sub _ (List.mem_append_right _ (epochs_mem_epochParts k))) hp
  case holds => exact absurd (sub _ (by decide)) hp
  case sent => exact absurd (sub _ (by decide)) hp
  case underruns => exact absurd (sub _ (by decide)) hp
  all_goals rw [h]
  case flag f => exact ⟨rfl, rfl⟩
  case cleared => exact OnlyRaises.refl s
  case ribbon id => cases id <;> exact if_neg hp
  all_goals exact if_neg hp

end Sys2Proof.Proofs
end

section
/-! PROOFS. The footprints of the shared operations and of each unit's own work, in the order of the model. -/

namespace Sys2Proof.Proofs

open Sys2Proof.Machine

/-! ### Sets of parts that recur -/

/-- What the settlement of a short cue can change. -/
abbrev settleParts : List Part := [.last, .flag .cueRefused]

/-- What a report to the zones of a kind can change (R9, R37). -/
abbrev reportParts (k : ZoneKind) : List Part := [.epochs k, .watch]

/-- What a change of the air or of the message queue can change. -/
abbrev airParts : List Part :=
  [.messageQueue, .onAir, .lastGone, .flag .messageEvicted, .flag .messageDropped, .epochs .message, .watch]

/-- What a hand-over of the display strings can change. -/
abbrev displayParts : List Part := 
  [.gameString, .secondaryString, .shownPeriod, .strings, .epochs .figure, .watch]

/-- What the alert's entry to ON_AIR can change. -/
abbrev entryParts : List Part := [.alertState, .current, .effective, .flag .alertOnAir] ++ airParts

/-- What a write of the score fields can change. -/
abbrev scoreParts : List Part :=
  [.home, .guest, .homeAux, .guestAux, .strings, .epochs .figure, .entries] ++ airParts

/-! ### Shared operations -/

theorem flagBit_inj {f g : Flag} : flagBit f = flagBit g ↔ f = g := by
  cases f <;> cases g <;> decide

/-- A raise leaves the latch of every other flag. -/
theorem latchUp_raise_other {f g : Flag} (h : g ≠ f) (s : State) : latchUp g (raise f s) = latchUp g s := by
  have hbit : (flagMask f).getLsbD (flagBit g) = false := by
    have hne : flagBit g ≠ flagBit f := fun heq => h (flagBit_inj.1 heq)
    simp only [flagMask, BitVec.getLsbD_shiftLeft, BitVec.getLsbD_one]
    simp only [Bool.and_eq_false_iff, Bool.not_eq_false', decide_eq_true_eq, decide_eq_false_iff_not]
    omega
  simp only [latchUp, raise_latches, BitVec.getLsbD_or, BitVec.getLsbD_and, hbit, Bool.false_and, Bool.or_false]

theorem latchUp_raise_self (f : Flag) (s : State) :
    latchUp f (raise f s) = (latchUp f s || (!flagUp f s && s.decoder.mask.getLsbD (flagBit f))) :=
  latch_raise_self f s

theorem raise_onlyRaises (f : Flag) (s : State) : OnlyRaises s (raise f s) := by
  refine ⟨rfl, fun g => ?_⟩
  rw [flagUp_raise]
  by_cases h : g = f
  · rw [h, latchUp_raise_self]
    cases flagUp f s <;> simp
  · rw [latchUp_raise_other h]
    cases flagUp g s <;> simp [h]

theorem raise_within (f : Flag) (s : State) : Within [.flag f] s (raise f s) := by
  intro p hp
  cases p
  case flag g =>
    have hg : g ≠ f := fun h => hp (by simp [h])
    exact ⟨by rw [flagUp_raise]; simp [hg], latchUp_raise_other hg s⟩
  case cleared => exact raise_onlyRaises f s
  case ribbon id => cases id <;> rfl
  all_goals rfl

theorem raiseIf_within (c : Bool) (f : Flag) (s : State) : Within [.flag f] s (raiseIf c f s) := by
  cases c
  · exact .refl _ s
  · exact raise_within f s

theorem clearFlags_within (m : BitVec 19) (s : State) : Within clearedParts s (clearFlags m s) :=
  .of_merge_flags rfl (by decide)

theorem replaceMask_within (m : BitVec 19) (s : State) : Within clearedParts s (replaceMask m s) :=
  .of_merge_flags rfl (by decide)

theorem restartFlags_within (s : State) : Within clearedParts s (restartFlags s) :=
  .of_merge_flags rfl (by decide)

theorem writeLine_within (a : Nat) (d : Line) (m : Mask) (s : State) : Within [.mem] s (writeLine a d m s) := .of_merge rfl

theorem writeWhole_within (a : Nat) (d : Line) (s : State) : Within [.mem] s (writeWhole a d s) :=
  writeLine_within a d fullMask s

theorem settleShort_within (tag : Half) (code : Byte) (r : Result) (d : Nat) (s : State) :
    Within settleParts s (settleShort tag code r d s) :=
  Within.andThen (.of_merge rfl) (raiseIf_within (refuses r) .cueRefused _) (by decide)

theorem acceptLong_within (c : LongCue) (tag : Half) (p : LanePhase) (s : State) :
    Within [.lane] s (acceptLong c tag p s) := .of_merge rfl

theorem setPhase_within (p : LanePhase) (s : State) : Within [.lane] s (setPhase p s) := .of_merge rfl

theorem setRecords_within (n : Nat) (s : State) : Within [.lane] s (setRecords n s) := .of_merge rfl

theorem settleLong_within (r : Result) (d : Nat) (s : State) : Within [.lane] s (settleLong r d s) := .of_merge rfl

theorem discardWork_within (s : State) : Within [.load, .glyphLoad, .arm, .gather] s (discardWork s) := .of_merge rfl

theorem dropSweep_within (s : State) : Within [.port] s (dropSweep s) := .of_merge rfl

theorem dropRecord_within (s : State) : Within [.port] s (dropRecord s) := .of_merge rfl

theorem dropFlight_within (s : State) : Within [.port] s (dropFlight s) := .of_merge rfl

/-- An arrival changes the port, and what the use of its line changes. -/
theorem arrival_within {ps : List Part} {mine : FlightOrigin → Bool} {use : Line → State → State} {s : State}
    (h : ∀ l u, Within ps u (use l u)) (sub : ∀ p ∈ [Part.port], p ∈ ps) : Within ps s (arrival mine use s) := by
  have freed : Within ps s { s with port := none } := Within.mono (.of_merge rfl) sub
  rcases arrival_cases mine use s with hsame | ⟨_, _, _, _, hdrop⟩ | ⟨f, _, _, _, huse⟩
  · rw [hsame]; exact .refl _ s
  · rw [hdrop]; exact freed
  · rw [huse]; exact freed.trans (h f.data _)

theorem outOfBypass_within {ps : List Part} {f : State → State} {s : State} (h : Within ps s (f s)) :
    Within ps s (outOfBypass f s) := by
  rcases outOfBypass_cases f s with ⟨_, hidle⟩ | ⟨_, hacts⟩
  · rw [hidle]; exact .refl _ s
  · rw [hacts]; exact h

@[simp] theorem bumpZone_cfg (p : ZoneRec → Bool) (z : Zone) : (bumpZone p z).cfg = z.cfg := by
  unfold bumpZone
  split <;> rfl

/-- A bump of zones of other kinds leaves the epochs of this kind. -/
theorem epochOf_bumpZone {p : ZoneRec → Bool} {k : ZoneKind} (h : ∀ z, p z = true → roleKind z.role ≠ k) (z : Zone) :
    epochOf k (bumpZone p z) = epochOf k z := by
  unfold bumpZone
  split
  case isTrue hp =>
    rw [Bool.and_eq_true] at hp
    have hk := h z.cfg hp.2
    simp [epochOf, hk]
  case isFalse => rfl

/-- Another list of zones, of which the parts outside `ps` are the same. -/
theorem zones_within {ps : List Part} {s : State} {zones : List Zone}
    (hcfg : .cfgs ∉ ps → zones.map (·.cfg) = s.sweep.zones.map (·.cfg))
    (hepoch : ∀ k, .epochs k ∉ ps → zones.map (epochOf k) = s.sweep.zones.map (epochOf k))
    (hhold : .holds ∉ ps → zones.map (·.receiver) = s.sweep.zones.map (·.receiver))
    (hsent : .sent ∉ ps → zones.map (fun z => (z.lastEpoch, z.lastIdent))
      = s.sweep.zones.map (fun z => (z.lastEpoch, z.lastIdent)))
    (hunder : .underruns ∉ ps → zones.map (·.underruns) = s.sweep.zones.map (·.underruns)) :
    Within ps s { s with sweep.zones := zones } := by
  intro p hp
  cases p
  case cfgs => exact hcfg hp
  case epochs k => exact hepoch k hp
  case holds => exact hhold hp
  case sent => exact hsent hp
  case underruns => exact hunder hp
  case flag f => exact ⟨rfl, rfl⟩
  case cleared => exact OnlyRaises.refl s
  case ribbon id => cases id <;> rfl
  all_goals rfl

/-- A report's bump changes the epochs of the kinds of zone that it picks. -/
theorem bumpZones_within_of {ps : List Part} {p : ZoneRec → Bool} (h : ∀ z, p z = true → .epochs (roleKind z.role) ∈ ps)
    (s : State) : Within ps s (bumpZones p s) := by
  have same {α : Type} (f : Zone → α) (hf : ∀ z, f (bumpZone p z) = f z) :
      (s.sweep.zones.map (bumpZone p)).map f = s.sweep.zones.map f := by
    rw [List.map_map]
    exact List.map_congr_left fun z _ => hf z
  have field {α : Type} (f : Zone → α) (hf : ∀ z e, f { z with epoch := e } = f z) (z : Zone) :
      f (bumpZone p z) = f z := by
    unfold bumpZone
    split
    · exact hf z _
    · rfl
  exact zones_within (fun _ => same _ (field _ fun _ _ => rfl))
    (fun k hk => same _ (epochOf_bumpZone fun z hz heq => hk (heq ▸ h z hz)))
    (fun _ => same _ (field _ fun _ _ => rfl))
    (fun _ => same _ (field (fun z => (z.lastEpoch, z.lastIdent)) fun _ _ => rfl)) (fun _ => same _ (field _ fun _ _ => rfl))

theorem bumpZones_within {p : ZoneRec → Bool} {k : ZoneKind} (h : ∀ z, p z = true → roleKind z.role = k) (s : State) :
    Within [.epochs k] s (bumpZones p s) :=
  bumpZones_within_of (fun z hz => by simp [h z hz]) s

theorem allStale_within (s : State) : Within [.holds] s (allStale s) :=
  zones_within (fun _ => by simp) (fun k _ => by simp [epochOf]) (fun h => absurd (by decide) h) (fun _ => by simp)
    (fun _ => by simp)

theorem rebuildWatch_within (s : State) : Within [.watch] s (rebuildWatch s) := .of_merge rfl

theorem setRibbon_within (id : RibbonId) (r : Ribbon) (s : State) : Within [.ribbon id] s (setRibbon id r s) := by
  cases id <;> exact .of_merge rfl

/-- A bump and a rebuilt watch list after a change. -/
theorem report_within {ps : List Part} {s t : State} {p : ZoneRec → Bool} {k : ZoneKind} (h : Within ps s t)
    (hp : ∀ z, p z = true → roleKind z.role = k) (sub : ∀ q ∈ reportParts k, q ∈ ps) :
    Within ps s (rebuildWatch (bumpZones p t)) :=
  h.andThen ((bumpZones_within hp t).mono (by simp) |>.andThen (rebuildWatch_within _) (by simp)) sub

theorem isReplay_kind (z : ZoneRec) (h : isReplay z = true) : roleKind z.role = .replay := by
  simp [isReplay] at h
  simp [h, roleKind]

theorem isMessage_kind (z : ZoneRec) (h : isMessage z = true) : roleKind z.role = .message := by
  simp [isMessage] at h
  simp [h, roleKind]

theorem isFigure_kind (z : ZoneRec) (h : isFigure z = true) : roleKind z.role = .figure := by
  unfold isFigure at h
  split at h
  · simp [roleKind, *]
  · simp at h

theorem showsRibbon_kind (id : RibbonId) (z : ZoneRec) (h : showsRibbon id z = true) : roleKind z.role = .sponsor id := by
  simp [showsRibbon] at h
  simp [h, roleKind]

/-! ### Exposure Table -/

theorem reportSlot_within (r : SlotReport) (s : State) : Within [.entries] s (reportSlot r s) := .of_merge rfl

theorem snapshotLanded_within (p : Snapshot) (x : SnapshotLine) (rest : List SnapshotLine) (s : State) :
    Within [.lane, .snapshot] s (snapshotLanded p x rest s) := by
  unfold snapshotLanded
  split <;> exact .of_merge rfl

theorem writeSnapshotLine_within (p : Snapshot) (x : SnapshotLine) (rest : List SnapshotLine) (s : State) :
    Within [.mem, .lane, .snapshot] s (writeSnapshotLine p x rest s) :=
  ((writeWhole_within _ _ s).mono (by decide)).andThen (snapshotLanded_within p x rest _) (by decide)

theorem cancelSnapshot_within (p : Snapshot) (s : State) : Within [.lane, .snapshot] s (cancelSnapshot p s) := .of_merge rfl

/-! ### Message Queue -/

theorem joinQueue_within (q : List Message) (s : State) :
    Within [.messageQueue, .lastGone, .flag .messageEvicted] s (joinQueue q s) := by
  unfold joinQueue
  dsimp only
  split
  · exact Within.andThen (.of_merge rfl) (raise_within _ _) (by decide)
  · exact .of_merge rfl

theorem dropHeads_within (dropped : List Message) (s : State) :
    Within [.lastGone, .flag .messageDropped] s (dropHeads dropped s) := by
  unfold dropHeads
  split
  · exact Within.andThen (.of_merge rfl) (raise_within _ _) (by decide)
  · exact .refl _ s

theorem putOnAirIn_within (zone : Option ZoneRec) (s : State) :
    Within [.messageQueue, .onAir, .lastGone, .flag .messageDropped] s (putOnAirIn zone s) := by
  unfold putOnAirIn
  split
  · dsimp only
    split <;> exact Within.andThen (.of_merge rfl) (dropHeads_within _ _) (by decide)
  · exact .refl _ s

theorem airChanged_within (s : State) : Within (reportParts .message) s (airChanged s) :=
  report_within (.refl _ s) isMessage_kind (by decide)

theorem settleAirIn_within (zone : Option ZoneRec) (left : Bool) (s : State) :
    Within airParts s (settleAirIn zone left s) := by
  have chosen : Within airParts s (putOnAirIn zone s) := (putOnAirIn_within zone s).mono (by decide)
  rcases settleAirIn_cases zone left s with ⟨h, _⟩ | ⟨h, _⟩ <;> rw [h]
  · exact chosen.andThen (airChanged_within _) (by decide)
  · exact chosen

theorem settleAir_within (left : Bool) (s : State) : Within airParts s (settleAir left s) :=
  settleAirIn_within (messageZone s) left s

theorem returnToQueue_within (s : State) :
    Within [.messageQueue, .onAir, .lastGone, .flag .messageEvicted] s (returnToQueue s) := by
  unfold returnToQueue
  split
  · exact Within.andThen (.of_merge rfl) (joinQueue_within _ _) (by decide)
  · exact .refl _ s

theorem placePost_within (m : Message) (s : State) : Within airParts s (placePost m s) := by
  unfold placePost
  split
  · have returned : Within airParts s
        (returnToQueue { s with messages.queue := s.messages.queue.filter (fun x => x.id != m.id) }) :=
      Within.andThen (.of_merge rfl) (returnToQueue_within _) (by decide)
    exact (returned.trans (.of_merge rfl)).andThen (airChanged_within _) (by decide)
  · split
    · exact Within.trans (.of_merge rfl) (settleAir_within false _)
    · exact ((joinQueue_within _ s).mono (by decide)).trans (settleAir_within false _)

theorem post_within (m : Message) (s : State) : Within (.entries :: airParts) s (post m s).state := by
  unfold post
  split
  · exact .refl _ s
  · split
    · exact .refl _ s
    · split
      · exact .refl _ s
      · split
        · exact .refl _ s
        · exact Within.andThen (.of_merge rfl) (placePost_within m _) (by decide)

theorem withdraw_within (id : Nat) (s : State) : Within airParts s (withdraw id s).state := by
  unfold withdraw
  split
  · exact .refl _ s
  · split
    · exact Within.trans (.of_merge rfl) (settleAir_within true _)
    · split
      · exact .of_merge rfl
      · exact .refl _ s

theorem startOnAir_within (s : State) : Within [.onAir] s (startOnAir s) := by
  unfold startOnAir
  split
  · exact .of_merge rfl
  · exact .refl _ s

theorem endShowing_within (m : Message) (s : State) : Within airParts s (endShowing m s) := by
  unfold endShowing
  dsimp only
  refine Within.trans ?_ (settleAirIn_within _ true _)
  split
  · exact .of_merge rfl
  · exact Within.andThen (.of_merge rfl) (joinQueue_within _ _) (by decide)

theorem stepShowing_within (o : OnAir) (s : State) : Within airParts s (stepShowing o s) := by
  have crawled (n : Nat) : Within airParts s
      (bumpZones isMessage { s with messages.onAir := some { msg := o.msg, showing := .crawl n } }) :=
    Within.andThen (.of_merge rfl) (bumpZones_within isMessage_kind _) (by decide)
  unfold stepShowing
  split
  · exact (startOnAir_within s).mono (by decide)
  · split
    · exact endShowing_within o.msg s
    · exact .of_merge rfl
  · dsimp only
    split
    all_goals
      split
      · exact (crawled _).trans (endShowing_within o.msg _)
      · exact crawled _

theorem messageWork_within (s : State) : Within airParts s (messageWork s) := by
  unfold messageWork
  split
  · exact stepShowing_within _ s
  · exact .refl _ s

theorem alertReturnsMessage_within (s : State) : Within airParts s (alertReturnsMessage s) := by
  unfold alertReturnsMessage
  split
  · exact ((returnToQueue_within s).mono (by decide)).andThen (airChanged_within _) (by decide)
  · exact .refl _ s

theorem messageRelayout_within (old new : Option ZoneRec) (s : State) : Within airParts s (messageRelayout old new s) := by
  unfold messageRelayout
  split
  · exact alertReturnsMessage_within s
  · exact settleAir_within false s
  · split
    · exact .refl _ s
    · exact ((returnToQueue_within s).mono (by decide)).trans (settleAir_within _ _)

/-! ### Figure Renderer -/

theorem showsChanged_kind (old new : FigureStrings) (z : ZoneRec) (h : showsChanged old new z = true) :
    roleKind z.role = .figure := by
  unfold showsChanged at h
  split at h
  · simp [roleKind, *]
  · simp at h

theorem refreshStrings_within (s : State) : Within [.strings, .epochs .figure, .watch] s (refreshStrings s) := by
  have shown (new : FigureStrings) : Within [.strings, .epochs .figure, .watch] s
      (bumpZones (showsChanged s.figures.strings new) { s with figures.strings := new }) :=
    Within.andThen (.of_merge rfl) (bumpZones_within (showsChanged_kind _ _) _) (by decide)
  unfold refreshStrings
  dsimp only
  split
  · exact shown _
  · exact (shown _).andThen (rebuildWatch_within _) (by decide)

theorem celebrate_within (m : Message) (s : State) : Within (.entries :: airParts) s (celebrate m s) := by
  unfold celebrate
  dsimp only
  split
  · exact post_within m s
  · exact ((post_within m s).trans (.of_merge rfl)).andThen (raise_within _ _) (by decide)

theorem writeScores_within (p : ScorePayload) (s : State) : Within scoreParts s (writeScores p s) := by
  have written : Within scoreParts s (refreshStrings
      { s with
        figures.home := clampScore p.home.toNat, figures.guest := clampScore p.guest.toNat
        figures.homeAux := clampAux p.homeAux.toNat, figures.guestAux := clampAux p.guestAux.toNat }) :=
    Within.andThen (.of_merge rfl) (refreshStrings_within _) (by decide)
  unfold writeScores
  dsimp only
  split
  · split
    · exact written.andThen (celebrate_within _ _) (by decide)
    · exact written
  · exact written

theorem replaceGlyphs_within (g : GlyphSet) (s : State) :
    Within [.glyphs, .strings, .epochs .figure, .watch] s (replaceGlyphs g s) :=
  report_within (.of_merge rfl) isFigure_kind (by decide)

theorem refuseGlyphs_within (r : Result) (d : Nat) (s : State) : Within [.lane, .glyphLoad] s (refuseGlyphs r d s) :=
  .of_merge rfl

/-- What the arrival of a glyph set's line can change. -/
abbrev glyphParts : List Part := [.lane, .glyphLoad, .glyphs, .strings, .epochs .figure, .watch]

theorem judgeGlyphs_within (l0 l1 l2 : Line) (s : State) : Within glyphParts s (judgeGlyphs l0 l1 l2 s) := by
  unfold judgeGlyphs
  split
  · exact (refuseGlyphs_within _ _ s).mono (by decide)
  · dsimp only
    split
    · exact (refuseGlyphs_within _ _ s).mono (by decide)
    · exact (Within.andThen (.of_merge rfl) (replaceGlyphs_within _ _) (by decide)).andThen
        (settleLong_within _ _ _) (by decide)

theorem glyphLine_within (l : Line) (s : State) : Within glyphParts s (glyphLine l s) := by
  unfold glyphLine
  split
  · exact .refl _ s
  · dsimp only
    split
    · split
      · exact .of_merge rfl
      · exact .of_merge rfl
    · exact Within.trans (.of_merge rfl) (judgeGlyphs_within _ _ _ _)
    · exact .of_merge rfl

theorem startGlyphs_within (a : Nat) (s : State) : Within [.lane, .glyphLoad] s (startGlyphs a s) := by
  unfold startGlyphs
  split <;> exact .of_merge rfl

theorem setCelebration_within (e : Byte) (m : MessageOperand) (s : State) :
    Within [.celebration] s (setCelebration e m s).state := by
  unfold setCelebration
  split
  · exact .of_merge rfl
  · split
    · exact .of_merge rfl
    · exact .refl _ s

/-! ### Clock Unit -/

theorem handStrings_within (s : State) : Within displayParts s (handStrings s) :=
  Within.andThen (.of_merge rfl) (refreshStrings_within _) (by decide)

theorem setClock_within (k : ClockId) (c : Clock) (s : State) : Within [.game, .secondary] s (setClock k c s) := by
  cases k <;> exact .of_merge rfl

/-- What a timebase event of the clocks can change. -/
abbrev tickParts : List Part := [.game, .secondary, .flag .clockExpired] ++ displayParts

theorem stepClocks_within (s : State) : Within tickParts s (stepClocks s) := by
  unfold stepClocks
  dsimp only
  exact (Within.andThen (.of_merge rfl) (raiseIf_within _ _ _) (by decide)).andThen (handStrings_within _) (by decide)

theorem expireClock_within (k : ClockId) (s : State) : Within tickParts s (expireClock k s) := by
  unfold expireClock
  dsimp only
  split
  · exact (((setClock_within k _ s).mono (by decide)).andThen (raise_within _ _) (by decide)).andThen
      (handStrings_within _) (by decide)
  · exact .refl _ s

/-- What a BEACON can change. -/
abbrev beaconParts : List Part := [.period, .console, .watchdog, .game, .secondary, .flag .clockSnap] ++ displayParts

theorem disciplineClocks_within (p : BeaconPayload) (s : State) : Within beaconParts s (disciplineClocks p s) := by
  unfold disciplineClocks
  dsimp only
  exact (Within.andThen (.of_merge rfl) (raiseIf_within _ _ _) (by decide)).andThen (handStrings_within _) (by decide)

theorem takeBeacon_within (p : BeaconPayload) (s : State) : Within beaconParts s (takeBeacon p s) := by
  unfold takeBeacon
  split
  · exact .refl _ s
  · exact disciplineClocks_within p s

theorem takeFrame_within (k : ConsoleFrame) (b : List Byte) (s : State) :
    Within (beaconParts ++ scoreParts) s (takeFrame k b s) := by
  unfold takeFrame
  split
  · exact (takeBeacon_within _ s).mono (by decide)
  · exact (writeScores_within _ s).mono (by decide)

theorem takeByte_within (b : Byte) (e : Bool) (s : State) :
    Within (.receiver :: (beaconParts ++ scoreParts)) s (takeByte b e s) := by
  unfold takeByte
  dsimp only
  generalize (if e = true then dropFrame else assemble b s.clock.receiver) = o
  split
  · exact Within.andThen (.of_merge rfl) (takeFrame_within _ _ _) (by decide)
  · exact .of_merge rfl

theorem stepGap_within (s : State) : Within [.receiver] s (stepGap s) := by
  unfold stepGap
  split
  · split <;> exact .of_merge rfl
  · exact .refl _ s

theorem expireGap_within (s : State) : Within [.receiver] s (expireGap s) := by
  unfold expireGap
  split
  · split
    · exact stepGap_within s
    · exact .refl _ s
  · exact .refl _ s

theorem stepWatchdog_within (s : State) : Within [.console, .watchdog, .flag .consoleLost] s (stepWatchdog s) := by
  unfold stepWatchdog
  split
  · split
    · exact Within.andThen (.of_merge rfl) (raise_within _ _) (by decide)
    · exact .of_merge rfl
  · exact .refl _ s

theorem expireWatchdog_within (s : State) : Within [.console, .watchdog, .flag .consoleLost] s (expireWatchdog s) := by
  unfold expireWatchdog
  split
  · split
    · exact stepWatchdog_within s
    · exact .refl _ s
  · exact .refl _ s

/-- What CLOCK SET can change. -/
abbrev clockSetParts : List Part := [.game, .secondary, .tenths, .period, .console, .watchdog] ++ displayParts

theorem setClocks_within (o : ClockSetOperand) (s : State) : Within clockSetParts s (setClocks o s) := by
  unfold setClocks
  dsimp only
  exact Within.andThen (.of_merge rfl) (handStrings_within _) (by decide)

theorem clockSet_within (o : ClockSetOperand) (s : State) : Within clockSetParts s (clockSet o s).state := by
  unfold clockSet
  split
  · exact setClocks_within o s
  · exact .refl _ s

theorem houseControl_within (run : Bool) (b : Byte) (s : State) :
    Within [.game, .secondary] s (houseControl run b s).state := by
  unfold houseControl
  split
  · exact .refl _ s
  · split
    · exact .refl _ s
    · split
      · exact .refl _ s
      · exact setClock_within _ _ s

/-! ### Replay Engine -/

theorem clipChanged_within (s : State) : Within (reportParts .replay) s (clipChanged s) :=
  report_within (.refl _ s) isReplay_kind (by decide)

/-- What the arrival of a clip descriptor's line can change. -/
abbrev clipParts : List Part := [.lane, .arm, .current, .onDeck, .epochs .replay, .watch]

theorem placeClip_within (c : Clip) (s : State) : Within clipParts s (placeClip c s) := by
  unfold placeClip
  split
  · exact (Within.andThen (.of_merge rfl) (clipChanged_within _) (by decide)).andThen (settleLong_within _ _ _) (by decide)
  · exact .of_merge rfl

theorem refuseClip_within (r : Result) (d : Nat) (s : State) : Within [.lane, .arm] s (refuseClip r d s) := .of_merge rfl

theorem judgeClip_within (l0 l1 : Line) (s : State) : Within clipParts s (judgeClip l0 l1 s) := by
  unfold judgeClip
  split
  · exact (refuseClip_within _ _ s).mono (by decide)
  · split
    · exact (refuseClip_within _ _ s).mono (by decide)
    · exact placeClip_within _ s

theorem clipLine_within (l : Line) (s : State) : Within clipParts s (clipLine l s) := by
  unfold clipLine
  split
  · exact .refl _ s
  · dsimp only
    split <;> exact .of_merge rfl
  · exact ((setRecords_within 2 s).mono (by decide)).trans (judgeClip_within _ _ _)

theorem startClipArm_within (a : Nat) (s : State) : Within [.lane, .arm] s (startClipArm a s) := by
  unfold startClipArm
  split <;> exact .of_merge rfl

theorem clipTake_within (s : State) : Within [.take] s (clipTake s).state := by
  unfold clipTake
  split <;> exact .of_merge rfl

theorem clipDrop_within (s : State) : Within [.current, .watch] s (clipDrop s).state := by
  unfold clipDrop
  dsimp only
  split
  · exact Within.andThen (.of_merge rfl) (rebuildWatch_within _) (by decide)
  · exact .refl _ s

theorem clipPlay_within (r : Half) (g : Byte) (s : State) : Within [.current, .epochs .replay, .watch] s (clipPlay r g s).state := by
  unfold clipPlay
  split
  · exact .refl _ s
  · split
    · exact .refl _ s
    · split
      · exact .refl _ s
      · split
        · exact .refl _ s
        · dsimp only
          split
          · exact Within.andThen (.of_merge rfl) (clipChanged_within _) (by decide)
          · exact .of_merge rfl

theorem clipHold_within (s : State) : Within [.current] s (clipHold s).state := by
  unfold clipHold
  split
  · split
    · exact .of_merge rfl
    · split <;> exact .of_merge rfl
  · exact .refl _ s

theorem clipResume_within (s : State) : Within [.current] s (clipResume s).state := by
  unfold clipResume
  split
  · split
    · split <;> exact .of_merge rfl
    · exact .refl _ s
  · exact .refl _ s

theorem clipRate_within (r : Half) (s : State) : Within [.current] s (clipRate r s).state := by
  unfold clipRate
  split
  · exact .refl _ s
  · split <;> exact .of_merge rfl

theorem clipAngle_within (a : Byte) (s : State) : Within [.current] s (clipAngle a s).state := by
  unfold clipAngle
  split
  · exact .refl _ s
  · split <;> exact .of_merge rfl

theorem consumeTake_within (s : State) : Within [.current, .onDeck, .take, .epochs .replay, .watch] s (consumeTake s) := by
  unfold consumeTake
  split
  · split
    · exact Within.andThen (.of_merge rfl) (clipChanged_within _) (by decide)
    · exact .of_merge rfl
  · exact .refl _ s

/-- What the Replay Engine's work at a boundary can change. -/
abbrev replayParts : List Part := [.current, .onDeck, .take, .epochs .replay, .watch, .flag .clipEnded]

theorem replayWork_within (s : State) : Within replayParts s (replayWork s) := by
  have taken : Within replayParts s (consumeTake s) := (consumeTake_within s).mono (by decide)
  unfold replayWork
  dsimp only
  split
  · exact taken
  · have stepped (c : Clip) (ended : Bool) : Within replayParts s
        (raiseIf ended .clipEnded { consumeTake s with replay.current := some c }) :=
      (taken.trans (.of_merge rfl)).andThen (raiseIf_within _ _ _) (by decide)
    split
    · exact (stepped _ _).andThen (clipChanged_within _) (by decide)
    · exact stepped _ _

theorem alertHoldsClip_within (s : State) : Within [.current] s (alertHoldsClip s) := .of_merge rfl

theorem replayRelayout_within (b : Bool) (s : State) : Within [.current, .onDeck, .take] s (replayRelayout b s) := by
  cases b <;> exact .of_merge rfl

theorem stepChase_within (s : State) : Within [.current, .flag .chaseTimeout, .flag .clipEnded] s (stepChase s) := by
  unfold stepChase
  split
  · split
    · split
      · exact (Within.andThen (.of_merge rfl) (raise_within _ _) (by decide)).andThen (raise_within _ _) (by decide)
      · exact .of_merge rfl
    · exact .refl _ s
  · exact .refl _ s

theorem expireChase_within (s : State) : Within [.current, .flag .chaseTimeout, .flag .clipEnded] s (expireChase s) := by
  unfold expireChase
  split
  · split
    · exact stepChase_within s
    · exact .refl _ s
  · exact .refl _ s

theorem chaseSnoop_within (a : Nat) (s : State) : Within [.current, .onDeck] s (chaseSnoop a s) := by
  unfold chaseSnoop
  split <;> exact .of_merge rfl

/-! ### Alert Unit and Brightness Governor -/

/-- What the heat line and its timers can change, but for the level of the pin. -/
abbrev heatParts : List Part :=
  [.thermalState, .warm, .cool, .thermal, .pendingThermal, .effective, .flag .thermalHold, .flag .thermalRelease]

theorem recomputeDuty_within (s : State) : Within [.effective] s (recomputeDuty s) := .of_merge rfl

theorem takeThermal_requested (v : Nat) (b : BrightnessGovernor) : takeThermal v b =
    { b with thermal := (takeThermal v b).thermal, pendingThermal := (takeThermal v b).pendingThermal } := by
  unfold takeThermal
  split <;> rfl

theorem brightnessSet_within (r t : Byte) (s : State) :
    Within [.requested, .thermal, .pendingThermal, .effective] s (brightnessSet r t s).state := by
  unfold brightnessSet
  split
  · exact .refl _ s
  · rw [takeThermal_requested]
    exact .of_merge rfl

/-- The heat line moves the thermal state and its timers alone. -/
theorem heatFound_frame (x : Bool) (b : BrightnessGovernor) : heatFound x b =
    { b with state := (heatFound x b).state, warm := (heatFound x b).warm, cool := (heatFound x b).cool } := by
  obtain ⟨_, _, _, state, _, _, _⟩ := b
  cases x <;> cases state <;> rfl

theorem heatLine_within (x : Bool) (s : State) : Within (.pins :: heatParts) s (heatLine x s) := by
  unfold heatLine
  rw [heatFound_frame]
  exact .of_merge rfl

/-- A level found again, as a timebase event finds it, leaves the pins alone. -/
theorem heatLine_found_within (s : State) : Within heatParts s (heatLine s.pins.heat s) := by
  unfold heatLine
  rw [heatFound_frame]
  exact .of_merge rfl

theorem enterHold_within (s : State) : Within heatParts s (enterHold s) :=
  (Within.andThen (.of_merge rfl) (raise_within .thermalHold _) (by decide)).andThen (recomputeDuty_within _) (by decide)

theorem releaseHeat_within (s : State) : Within heatParts s (releaseHeat s) :=
  (Within.andThen (.of_merge rfl) (raise_within .thermalRelease _) (by decide)).andThen (recomputeDuty_within _) (by decide)

theorem stepWarm_within (s : State) : Within heatParts s (stepWarm s) := by
  unfold stepWarm
  split
  · split
    · exact enterHold_within s
    · exact .of_merge rfl
  · exact .refl _ s

theorem stepCool_within (s : State) : Within heatParts s (stepCool s) := by
  unfold stepCool
  split
  · split
    · exact releaseHeat_within s
    · exact .of_merge rfl
  · exact .refl _ s

theorem stepHeat_within (s : State) : Within heatParts s (stepHeat s) := by
  unfold stepHeat
  split
  · exact heatLine_found_within s
  · exact (stepWarm_within s).trans (stepCool_within _)

theorem expireWarm_within (s : State) : Within heatParts s (expireWarm s) := by
  unfold expireWarm
  split
  · split
    · exact stepWarm_within s
    · exact .refl _ s
  · exact .refl _ s

theorem expireCool_within (s : State) : Within heatParts s (expireCool s) := by
  unfold expireCool
  split
  · split
    · exact stepCool_within s
    · exact .refl _ s
  · exact .refl _ s

theorem alertEntry_within (s : State) : Within entryParts s (alertEntry s) := by
  have held : Within entryParts s (alertHoldsClip (raise .alertOnAir { s with alert.state := .onAir })) :=
    (Within.andThen (.of_merge rfl) (raise_within _ _) (by decide)).andThen (alertHoldsClip_within _) (by decide)
  exact ((held.andThen (alertReturnsMessage_within _) (by decide)).andThen (recomputeDuty_within _)
    (by decide)).andThen (rebuildWatch_within _) (by decide)

theorem alertSource_within (s : State) : Within entryParts s (alertSource s) := by
  unfold alertSource
  split
  · exact .of_merge rfl
  · exact .refl _ s
  · exact .refl _ s
  · exact alertEntry_within s

theorem alertWork_within (s : State) : Within (.flag .alertCleared :: entryParts) s (alertWork s) := by
  unfold alertWork
  split
  · exact (alertEntry_within s).mono (by decide)
  · exact Within.andThen (.of_merge rfl) (raise_within _ _) (by decide)
  · exact .refl _ s
  · exact .refl _ s

/-- What ALERT CLEAR can change. -/
abbrev releaseParts : List Part := [.alertState, .latch, .raised, .chosen, .effective] ++ airParts

theorem releaseAlert_within (s : State) : Within releaseParts s (releaseAlert s) := by
  have released : Within releaseParts s (recomputeDuty
      { s with alert.state := .releasing, alert.latch := false, alert.raised := none, alert.chosen := none }) := .of_merge rfl
  exact (released.andThen (settleAir_within false _) (by decide)).andThen (rebuildWatch_within _) (by decide)

theorem alertClear_within (s : State) : Within releaseParts s (alertClear s).state := by
  unfold alertClear
  split
  · exact .refl _ s
  all_goals split
  · exact .refl _ s
  · exact .of_merge rfl
  · exact .refl _ s
  · exact releaseAlert_within s
  · exact .refl _ s
  · exact .refl _ s

/-- What the venue alert line and its timer can change, but for the level of the pin. -/
abbrev venueParts : List Part := [.latch, .debounce] ++ entryParts

theorem setLatch_within (s : State) : Within venueParts s (setLatch s) :=
  Within.andThen (.of_merge rfl) (alertSource_within _) (by decide)

theorem venueFoundAsserted_within (s : State) : Within venueParts s (venueFoundAsserted s) := by
  unfold venueFoundAsserted
  split
  · exact .refl _ s
  · split
    · exact setLatch_within s
    · split <;> exact .of_merge rfl

theorem venueAsserts_within (s : State) : Within (.pins :: venueParts) s (venueAsserts s) :=
  Within.andThen (.of_merge rfl) (venueFoundAsserted_within _) (by decide)

theorem venueDeasserts_within (s : State) : Within [.pins, .debounce] s (venueDeasserts s) := .of_merge rfl

theorem stepDebounce_within (s : State) : Within venueParts s (stepDebounce s) := by
  unfold stepDebounce
  split
  · split
    · split
      · exact setLatch_within s
      · exact .of_merge rfl
    · exact venueFoundAsserted_within s
  · exact .refl _ s

theorem expireDebounce_within (s : State) : Within venueParts s (expireDebounce s) := by
  unfold expireDebounce
  split
  · split
    · exact stepDebounce_within s
    · exact .refl _ s
  · exact .refl _ s

theorem alertRaise_within (a : Nat) (s : State) : Within (.raised :: entryParts) s (alertRaise a s).state := by
  unfold alertRaise
  split
  · exact .refl _ s
  · split
    · exact .refl _ s
    · split
      · exact .refl _ s
      · exact Within.andThen (.of_merge rfl) (alertSource_within _) (by decide)

theorem alertStandingSet_within (p : Byte) (a : Nat) (c : Pixel) (s : State) :
    Within [.standing, .colour] s (alertStandingSet p a c s).state := by
  unfold alertStandingSet
  split
  · exact .of_merge rfl
  · split <;> exact .of_merge rfl

theorem chooseRaster_within (h : ScreenHeader) (s : State) : Within [.chosen, .watch] s (chooseRaster h s) :=
  Within.andThen (.of_merge rfl) (rebuildWatch_within _) (by decide)

/-! ### Rotation Unit -/

/-- What the hand-over of a ribbon's change can change. -/
abbrev ribbonParts (id : RibbonId) : List Part :=
  [.ribbon id, .flag .rotationCommitted, .epochs (.sponsor id), .watch]

/-- What the hand-over of either ribbon's change can change. -/
abbrev rotationParts : List Part := ribbonParts .a ++ ribbonParts .b

theorem ribbonParts_subset (id : RibbonId) : ∀ p ∈ ribbonParts id, p ∈ rotationParts := by
  cases id <;> decide

theorem handRibbon_within (id : RibbonId) (o : RibbonOutcome) (s : State) :
    Within (ribbonParts id) s (handRibbon id o s) := by
  have taken : Within (ribbonParts id) s (raiseIf o.committed .rotationCommitted (setRibbon id o.ribbon s)) :=
    ((setRibbon_within id _ s).mono (by simp)).andThen (raiseIf_within _ _ _) (by simp)
  unfold handRibbon
  dsimp only
  split
  · exact report_within taken (showsRibbon_kind id) (by simp)
  · exact taken

theorem ribbonWork_within (id : RibbonId) (s : State) : Within (ribbonParts id) s (ribbonWork id s) := handRibbon_within id _ s

theorem rotationWork_within (s : State) : Within rotationParts s (rotationWork s) := by
  unfold rotationWork
  split
  · exact .refl _ s
  · exact ((ribbonWork_within .a s).mono (by decide)).andThen (ribbonWork_within .b _) (by decide)

theorem ribbon_subset (id : RibbonId) : ∀ p ∈ [Part.ribbon id], p ∈ [Part.ribbon .a, .ribbon .b] := by
  cases id <;> decide

theorem ribbonEnable_within (b : Byte) (s : State) : Within [.ribbon .a, .ribbon .b] s (ribbonEnable b s).state := by
  unfold ribbonEnable
  split
  · exact .refl _ s
  · dsimp only
    split
    · split
      · exact .refl _ s
      · exact (setRibbon_within _ _ s).mono (ribbon_subset _)
    · exact .refl _ s
    · exact .refl _ s
    · exact (setRibbon_within _ _ s).mono (ribbon_subset _)

theorem ribbonDisable_within (b : Byte) (s : State) : Within rotationParts s (ribbonDisable b s).state := by
  unfold ribbonDisable
  split
  · exact .refl _ s
  · dsimp only
    split
    · exact .refl _ s
    · exact .refl _ s
    · exact (handRibbon_within _ _ s).mono (ribbonParts_subset _)
    · exact ((setRibbon_within _ _ s).mono (ribbon_subset _)).mono (by decide)

theorem cancelStaged_within (id : RibbonId) (s : State) : Within [.ribbon id] s (cancelStaged id s).state := by
  unfold cancelStaged
  dsimp only
  split
  · exact .refl _ s
  · exact setRibbon_within _ _ s

/-- What a ROTATION AMEND can change at its hand-off. -/
abbrev amendParts : List Part := [.lane, .gather, .flag .rotationRefused]

theorem refuseAmend_within (r : Result) (d : Nat) (s : State) : Within amendParts s (refuseAmend r d s) :=
  Within.andThen (.of_merge rfl) (raise_within _ _) (by decide)

theorem startAmend_within (op : AmendOperand) (s : State) : Within amendParts s (startAmend op s) := by
  unfold startAmend
  split
  · exact refuseAmend_within _ _ s
  · split
    · exact refuseAmend_within _ _ s
    · dsimp only
      split
      · exact refuseAmend_within _ _ s
      · split
        · exact refuseAmend_within _ _ s
        · exact .of_merge rfl

theorem joinAmend_within (op : AmendOperand) (g : Gather) (s : State) : Within amendParts s (joinAmend op g s).state := by
  unfold joinAmend
  split
  · exact .refl _ s
  · split
    · exact refuseAmend_within _ _ s
    · exact .of_merge rfl

/-- What a line of slot records can change. -/
abbrev recordParts : List Part := .entries :: amendParts

theorem takeRecords_within (l : Line) (n k : Nat) (s : State) : Within recordParts s (takeRecords l n k s) := by
  induction n generalizing k s with
  | zero => exact .refl _ s
  | succ n ih =>
    unfold takeRecords
    split
    · exact .refl _ s
    · dsimp only
      split
      · exact (refuseAmend_within _ _ s).mono (by decide)
      · split
        · exact (refuseAmend_within _ _ s).mono (by decide)
        · exact Within.trans (.of_merge rfl) (ih _ _)

theorem afterRecords_within (s : State) : Within [.lane, .gather] s (afterRecords s) := by
  unfold afterRecords
  split
  · split <;> exact .of_merge rfl
  · exact .refl _ s

theorem slotRecordLine_within (l : Line) (s : State) : Within recordParts s (slotRecordLine l s) := by
  unfold slotRecordLine
  split
  · exact (takeRecords_within _ _ _ s).andThen (afterRecords_within _) (by decide)
  · exact .refl _ s

/-- What the gather timer can change. -/
abbrev gatherParts : List Part := [.lane, .gather, .flag .rotationRefused] ++ rotationParts

theorem stage_within (g : Gather) (s : State) : Within gatherParts s (stage g s) := by
  unfold stage
  dsimp only
  refine Within.andThen (ps := gatherParts) ?_ (settleLong_within _ _ _) (by decide)
  split
  · exact Within.andThen (.of_merge rfl) ((handRibbon_within _ _ _).mono (ribbonParts_subset _)) (by decide)
  · exact Within.andThen (.of_merge rfl) ((setRibbon_within _ _ _).mono (ribbon_subset _)) (by decide)

theorem judgeGather_within (g : Gather) (s : State) : Within gatherParts s (judgeGather g s) := by
  unfold judgeGather
  split
  · exact (refuseAmend_within _ _ s).mono (by decide)
  · exact stage_within g s

theorem stepGather_within (s : State) : Within gatherParts s (stepGather s) := by
  unfold stepGather
  split
  · split
    · split
      · exact judgeGather_within _ s
      · exact .of_merge rfl
    · exact .refl _ s
  · exact .refl _ s

theorem expireGather_within (s : State) : Within gatherParts s (expireGather s) := by
  unfold expireGather
  split
  · split
    · exact stepGather_within s
    · exact .refl _ s
  · exact .refl _ s

/-! ### Layouts -/

theorem refuseLayout_within (r : Result) (d : Nat) (s : State) : Within [.lane, .load] s (refuseLayout r d s) := .of_merge rfl

theorem startLayout_within (a : Nat) (s : State) : Within [.lane, .load] s (startLayout a s) := by
  unfold startLayout
  split <;> exact .of_merge rfl

theorem judgeLayout_within (load : LayoutLoad) (hd : Line) (records : List Line) (s : State) :
    Within [.lane, .load] s (judgeLayout load hd records s) := by
  unfold judgeLayout
  split
  · exact refuseLayout_within _ _ s
  · split
    · exact refuseLayout_within _ _ s
    · dsimp only
      split
      · exact refuseLayout_within _ _ s
      · exact .of_merge rfl

theorem layoutLine_within (l : Line) (s : State) : Within [.lane, .load] s (layoutLine l s) := by
  unfold layoutLine
  split
  · exact .refl _ s
  · dsimp only
    split
    · split <;> exact .of_merge rfl
    · split
      · exact Within.trans (.of_merge rfl) (judgeLayout_within _ _ _ _)
      · exact .of_merge rfl
    · exact .of_merge rfl

theorem installZones_within (l : Layout) (s : State) : Within ([.header, .load, .houses] ++ zoneParts) s (installZones l s) :=
  .of_merge_zones rfl (by decide)

/-- What the application of a layout can change. -/
abbrev layoutParts : List Part := 
  [.header, .load, .houses, .current, .onDeck, .take, .lane] ++ zoneParts ++ airParts

theorem installLayout_within (l : Layout) (s : State) : Within layoutParts s (installLayout l s) := by
  unfold installLayout
  dsimp only
  have placed : Within layoutParts s (replayRelayout (l.zones.any isReplay) (installZones l s)) :=
    ((installZones_within l s).mono (by decide)).andThen (replayRelayout_within _ _) (by decide)
  exact ((placed.andThen (messageRelayout_within _ _ _) (by decide)).andThen (rebuildWatch_within _) (by decide)).andThen
    (settleLong_within _ _ _) (by decide)

theorem applyLayout_within (s : State) : Within layoutParts s (applyLayout s) := by
  unfold applyLayout
  split
  · exact installLayout_within _ s
  · exact .refl _ s

/-! ### Status Writer -/

theorem capture_within (s : State) : Within [.image, .lines, .captureDue] s (capture s) := .of_merge rfl

theorem captureIfDue_within (s : State) : Within [.image, .lines, .captureDue] s (captureIfDue s) := by
  unfold captureIfDue
  split
  · exact capture_within s
  · exact .refl _ s

end Sys2Proof.Proofs
end

section
/-! PROOFS. The footprints of the Transaction Path, the cues, the sweep, the arbiter, a boundary and a timebase event. -/

namespace Sys2Proof.Proofs

open Sys2Proof.Machine

/-! ### Transaction Path -/

theorem decideHead_within (s : State) : Within [.answered] s (decideHead s) := .of_merge rfl

/-- What the forwarding queue's own operations can change. -/
abbrev queueParts : List Part := [.queue, .offered, .answered]

theorem offer_within (t : Transaction) (s : State) : Within queueParts s (offer t s) := by
  unfold offer
  split
  · dsimp only
    split <;> exact .of_merge rfl
  · exact .of_merge rfl

theorem leaveQueue_within (s : State) : Within queueParts s (leaveQueue s) := .of_merge rfl

theorem progressRead_within (s : State) : Within ([.reply, .lane] ++ queueParts) s (progressRead s) := by
  unfold progressRead
  split
  · split
    · exact .of_merge rfl
    · exact .refl _ s
  · exact .refl _ s

theorem exchangeFlips_within (s : State) : Within [.houses] s (exchangeFlips s) := .of_merge rfl

theorem onHouse_within (z : Nat) (f : House → House) (s : State) : Within [.houses] s (onHouse z f s) := .of_merge rfl

theorem flipZone_within (z : Byte) (s : State) : Within [.houses] s (flipZone z s).state := by
  unfold flipZone
  split
  · exact .refl _ s
  · split
    · exact .refl _ s
    · split
      · exact .refl _ s
      · exact onHouse_within _ _ s

theorem stepIdle_within (s : State) : Within [.houses, .flag .houseStale] s (stepIdle s) :=
  Within.andThen (.of_merge rfl) (raiseIf_within _ _ _) (by decide)

theorem expireIdle_within (z : Nat) (s : State) : Within [.houses, .flag .houseStale] s (expireIdle z s) := by
  unfold expireIdle
  split
  · split
    · exact ((onHouse_within _ _ s).mono (by decide)).andThen (raise_within _ _) (by decide)
    · exact .refl _ s
  · exact .refl _ s

theorem watchMatch_within (a : Nat) (m : Mask) (w : Option Nat) (s : State) : Within epochParts s (watchMatch a m w s) :=
  bumpZones_within_of (fun _ _ => epochs_mem_epochParts _) s

theorem hostEffects_within (a : Nat) (s : State) : Within [.houses] s (hostEffects a s).1 := by
  unfold hostEffects
  split
  · exact onHouse_within _ _ s
  · exact .refl _ s

/-- What the checks of a controller write can change (R27). -/
abbrev checkParts : List Part := [.houses, .current, .onDeck] ++ epochParts

theorem writeChecks_within (a b : Nat) (m : Mask) (s : State) : Within checkParts s (writeChecks a b m s) := by
  unfold writeChecks
  dsimp only
  exact (((hostEffects_within a s).mono (by decide)).andThen (watchMatch_within _ _ _ _) (by decide)).andThen
    (chaseSnoop_within _ _) (by decide)

/-- What a controller write can change. -/
abbrev writeParts : List Part := [.mem, .flag .lateWrite] ++ checkParts

theorem forwardWrite_within (n : LineNo) (d : Line) (m : Mask) (s : State) : Within writeParts s (forwardWrite n d m s) := by
  have landed : Within writeParts s (writeLine (forwardAddr (lineAddr n) s) d m s) := .of_merge rfl
  have late := landed.andThen (raiseIf_within (isLateWrite (lineAddr n) (writeLine (forwardAddr (lineAddr n) s) d m s))
    .lateWrite _) (by decide)
  unfold forwardWrite
  dsimp only
  split
  · exact landed
  · split
    · exact late
    · exact late.andThen (writeChecks_within _ _ _ _) (by decide)

theorem forwardRead_within (n : LineNo) (s : State) : Within [.reply] s (forwardRead n s) := .of_merge rfl

/-! ### Cues -/

/-- A short cue changes what its owner changes, and what its settlement changes. -/
theorem shortCue_within {ps : List Part} {owner : State → PostOutcome} {s : State} (tag : Half) (code : Byte)
    (h : Within ps s (owner s).state) : Within (ps ++ settleParts) s (shortCue tag code owner s) :=
  (h.mono fun _ hp => List.mem_append_left _ hp).andThen (settleShort_within _ _ _ _ _)
    fun _ hp => List.mem_append_right _ hp

theorem withAddress_within {ps : List Part} {owner : State → PostOutcome} {s : State} (checked : Bool) (a : Quad)
    (h : Within ps s (owner s).state) : Within ps s (withAddress checked a owner s).state := by
  unfold withAddress
  split
  · exact .refl _ s
  · exact h

/-- A long cue changes the lane, what its owner changes, and what a refusal's settlement changes. -/
theorem longCue_within {ps : List Part} {owner : State → State} (c : LongCue) (tag : Half) (p : LanePhase)
    (as : List Quad) (s : State) (h : ∀ u, Within ps u (owner u)) :
    Within (ps ++ .lane :: settleParts) s (longCue c tag p as owner s) := by
  have accepted : Within (ps ++ .lane :: settleParts) s (acceptLong c tag p s) :=
    (acceptLong_within c tag p s).mono (by simp)
  rcases longCue_cases c tag p as owner s with ⟨_, hc⟩ | ⟨_, _, hc⟩ | ⟨_, _, hc⟩ <;> rw [hc]
  · exact (settleShort_within _ _ _ _ s).mono (by simp)
  · exact accepted.andThen (settleLong_within _ _ _) (by simp)
  · exact accepted.andThen (h _) (by simp +contextual)

/-- What an accepted LAYOUT LOAD, GLYPH LOAD or CLIP ARM can change. -/
abbrev startParts : List Part := [.load, .glyphLoad, .arm, .lane, .last, .flag .cueRefused]

theorem cueLayoutLoad_within (t : Half) (a : Quad) (s : State) : Within startParts s (cueLayoutLoad t a s) :=
  (longCue_within _ _ _ _ s fun u => startLayout_within a.toNat u).mono (by decide)

theorem cueGlyphLoad_within (t : Half) (a : Quad) (s : State) : Within startParts s (cueGlyphLoad t a s) :=
  (longCue_within _ _ _ _ s fun u => startGlyphs_within a.toNat u).mono (by decide)

theorem cueClipArm_within (t : Half) (a : Quad) (s : State) : Within startParts s (cueClipArm t a s) :=
  (longCue_within _ _ _ _ s fun u => startClipArm_within a.toNat u).mono (by decide)

theorem cueRotationAmend_within (t : Half) (op : AmendOperand) (s : State) :
    Within (settleParts ++ amendParts) s (cueRotationAmend t op s) := by
  unfold cueRotationAmend
  split
  · exact (shortCue_within _ _ (withAddress_within _ _ (joinAmend_within _ _ s))).mono (by decide)
  · exact (longCue_within _ _ _ _ s fun u => startAmend_within op u).mono (by decide)

theorem startSnapshot_within (t : Half) (z p : Byte) (d : Nat) (s : State) :
    Within [.lane, .entries, .snapshot] s (startSnapshot t z p d s) := by
  unfold startSnapshot
  split
  · exact (settleLong_within _ _ s).mono (by decide)
  · split
    · exact (settleLong_within _ _ s).mono (by decide)
    · exact .of_merge rfl

theorem cueExposureSnapshot_within (t : Half) (z p : Byte) (d : Quad) (s : State) :
    Within ([.lane, .entries, .snapshot] ++ settleParts) s (cueExposureSnapshot t z p d s) :=
  (longCue_within _ _ _ _ s fun u => startSnapshot_within t z p d.toNat u).mono (by decide)

theorem postOperand_within (m : MessageOperand) (s : State) : Within (.entries :: airParts) s (postOperand m s).state := by
  unfold postOperand
  split
  · exact post_within _ s
  · exact .refl _ s

theorem onFlags_within {ps : List Part} {f : BitVec 19 → State → State} {s : State} (m : Word)
    (h : Within ps s (f (m.setWidth 19) s)) : Within ps s (onFlags f m s).state := by
  unfold onFlags
  split
  · exact h
  · exact .refl _ s

/-- What the end of a long cue by CANCEL or RESTART can change. -/
abbrev endParts : List Part := [.lane, .snapshot, .load, .glyphLoad, .arm, .gather, .port]

theorem endLong_within (s : State) : Within endParts s (endLong s) := by
  unfold endLong
  split
  · exact (cancelSnapshot_within _ s).mono (by decide)
  · exact .of_merge rfl

theorem cancelLong_within (s : State) : Within endParts s (cancelLong s).state := by
  unfold cancelLong
  split
  · exact endLong_within s
  · exact .refl _ s

theorem cancel_within (t : Byte) (s : State) : Within (endParts ++ [.ribbon .a, .ribbon .b]) s (cancel t s).state := by
  unfold cancel
  split
  · exact (cancelLong_within s).mono (by decide)
  · exact (cancelStaged_within .a s).mono (by decide)
  · exact (cancelStaged_within .b s).mono (by decide)
  · exact .refl _ s

/-- What RESTART's warm values can change. -/
abbrev restartParts : List Part :=
  clearedParts ++ zoneParts ++ [.watch, .houses, .port, .header, .load, .frame, .duty, .link,
    .console, .watchdog, .game, .secondary, .tenths, .period, .gameString, .secondaryString,
    .home, .guest, .homeAux, .guestAux, .shownPeriod, .strings, .celebration, .glyphLoad,
    .current, .onDeck, .take, .arm, .ribbon .a, .ribbon .b, .gather, .messageQueue, .onAir, .lastGone,
    .alertState, .latch, .debounce, .raised, .chosen,
    .requested, .thermal, .pendingThermal, .thermalState, .warm, .cool, .effective]

theorem restartUnits_within (s : State) : Within restartParts s (restartUnits s) := by
  have bus : Within restartParts s (restartSweep (restartPath (dropFlight s))) :=
    .of_merge_zones rfl (by decide)
  have content (u : State) : Within restartParts u (restartFigures (restartContent u)) := .of_merge rfl
  have clock (u : State) : Within restartParts u (restartClock u) := .of_merge rfl
  have alert (u : State) : Within restartParts u (restartAlert u) := .of_merge rfl
  have duties (u : State) : Within restartParts u (restartBrightness u) := .of_merge rfl
  exact ((((bus.trans (content _)).trans (clock _)).trans (alert _)).trans (duties _)).andThen (restartFlags_within _)
    (by decide)

theorem cueRestart_within (t : Half) (s : State) :
    Within ([.lane, .snapshot, .last] ++ restartParts) s (cueRestart t s) := by
  unfold cueRestart
  dsimp only
  refine Within.andThen (Within.andThen ?_ (restartUnits_within _) (by decide)) (settleShort_within _ _ _ _ _) (by decide)
  split
  · exact (endLong_within s).mono (by decide)
  · exact .refl _ s

/-- What a cue can change: every part but the bus, the frame memory, the pins, the receivers, the line receiver and what
the Status Writer holds to write. -/
abbrev cueParts : List Part :=
  [.lane, .snapshot, .last, .entries, .glyphs, .standing, .colour] ++ restartParts

/-- What each cue can change; a command that is no cue has no dispatch. -/
def dispatchParts : Instr → List Part
  | .layoutLoad _ _ => startParts
  | .glyphLoad _ _ => startParts
  | .clipArm _ _ => startParts
  | .rotationAmend _ _ => settleParts ++ amendParts
  | .exposureSnapshot _ _ _ _ => [.lane, .entries, .snapshot] ++ settleParts
  | .flip _ _ => .houses :: settleParts
  | .clipTake _ => .take :: settleParts
  | .clipPlay _ _ _ => [.current, .epochs .replay, .watch] ++ settleParts
  | .clipHold _ => .current :: settleParts
  | .clipResume _ => .current :: settleParts
  | .clipRate _ _ => .current :: settleParts
  | .clipAngle _ _ => .current :: settleParts
  | .clipDrop _ => [.current, .watch] ++ settleParts
  | .ribbonEnable _ _ => [.ribbon .a, .ribbon .b] ++ settleParts
  | .ribbonDisable _ _ => rotationParts ++ settleParts
  | .messagePost _ _ => .entries :: airParts ++ settleParts
  | .messageWithdraw _ _ => airParts ++ settleParts
  | .celebrationSet _ _ _ => .celebration :: settleParts
  | .alertStandingSet _ _ _ _ => [.standing, .colour] ++ settleParts
  | .alertRaise _ _ => .raised :: entryParts ++ settleParts
  | .alertClear _ => releaseParts ++ settleParts
  | .brightnessSet _ _ _ => [.requested, .thermal, .pendingThermal, .effective] ++ settleParts
  | .clockSet _ _ => clockSetParts ++ settleParts
  | .clockRun _ _ => [.game, .secondary] ++ settleParts
  | .clockStop _ _ => [.game, .secondary] ++ settleParts
  | .scoreSet _ _ => scoreParts ++ settleParts
  | .statusClear _ _ => clearedParts ++ settleParts
  | .attentionMask _ _ => clearedParts ++ settleParts
  | .cancelLong _ => endParts ++ settleParts
  | .cancelStaged _ _ => endParts ++ [.ribbon .a, .ribbon .b] ++ settleParts
  | .restart _ => [.lane, .snapshot, .last] ++ restartParts
  | _ => []

theorem dispatch_within (i : Instr) (s : State) : Within (dispatchParts i) s (dispatch i s) := by
  cases i
  case layoutLoad => exact cueLayoutLoad_within _ _ s
  case glyphLoad => exact cueGlyphLoad_within _ _ s
  case clipArm => exact cueClipArm_within _ _ s
  case rotationAmend => exact cueRotationAmend_within _ _ s
  case exposureSnapshot => exact cueExposureSnapshot_within _ _ _ _ s
  case flip => exact shortCue_within _ _ (flipZone_within _ s)
  case clipTake => exact shortCue_within _ _ (clipTake_within s)
  case clipPlay => exact shortCue_within _ _ (clipPlay_within _ _ s)
  case clipHold => exact shortCue_within _ _ (clipHold_within s)
  case clipResume => exact shortCue_within _ _ (clipResume_within s)
  case clipRate => exact shortCue_within _ _ (clipRate_within _ s)
  case clipAngle => exact shortCue_within _ _ (clipAngle_within _ s)
  case clipDrop => exact shortCue_within _ _ (clipDrop_within s)
  case ribbonEnable => exact shortCue_within _ _ (ribbonEnable_within _ s)
  case ribbonDisable => exact shortCue_within _ _ (ribbonDisable_within _ s)
  case messagePost => exact shortCue_within _ _ (withAddress_within _ _ (postOperand_within _ s))
  case messageWithdraw => exact shortCue_within _ _ (withdraw_within _ s)
  case celebrationSet => exact shortCue_within _ _ (withAddress_within _ _ (setCelebration_within _ _ s))
  case alertStandingSet => exact shortCue_within _ _ (withAddress_within _ _ (alertStandingSet_within _ _ _ s))
  case alertRaise => exact shortCue_within _ _ (withAddress_within _ _ (alertRaise_within _ s))
  case alertClear => exact shortCue_within _ _ (alertClear_within s)
  case brightnessSet => exact shortCue_within _ _ (brightnessSet_within _ _ s)
  case clockSet => exact shortCue_within _ _ (clockSet_within _ s)
  case clockRun => exact shortCue_within _ _ (houseControl_within _ _ s)
  case clockStop => exact shortCue_within _ _ (houseControl_within _ _ s)
  case scoreSet => exact shortCue_within (owner := scoreSet _) _ _ (writeScores_within _ s)
  case statusClear => exact shortCue_within _ _ (onFlags_within _ (clearFlags_within _ s))
  case attentionMask => exact shortCue_within _ _ (onFlags_within _ (replaceMask_within _ s))
  case cancelLong =>
    exact (shortCue_within (owner := cancel 0) _ _ (cancelLong_within s))
  case cancelStaged => exact shortCue_within _ _ (cancel_within _ s)
  case restart => exact cueRestart_within _ s
  all_goals exact .refl _ s

theorem dispatchParts_subset (i : Instr) : ∀ p ∈ dispatchParts i, p ∈ cueParts := by
  have all : (dispatchParts i).all (· ∈ cueParts) = true := by cases i <;> rfl
  simpa only [List.all_eq_true, decide_eq_true_eq] using all

theorem handOff_within (d : Line) (m : Mask) (s : State) : Within cueParts s (handOff d m s) := by
  unfold handOff
  split
  · exact .refl _ s
  · split
    · exact .refl _ s
    · exact (settleShort_within _ _ _ _ s).mono (by decide)
    · exact (dispatch_within _ s).mono (dispatchParts_subset _)

/-! ### The sweep -/

theorem sendItem_within (i : LinkItem) (s : State) : Within [.link, .receivers] s (sendItem i s) := .of_merge rfl

/-- What the start of a frame can change. -/
abbrev frameParts : List Part := [.frame, .duty, .link, .receivers, .holds, .watch, .chosen, .flag .linkDown]

theorem startAlertFrame_within (h : ScreenHeader) (s : State) : Within frameParts s (startAlertFrame h s) := by
  unfold startAlertFrame
  dsimp only
  have chosen : Within frameParts s (allStale (chooseRaster h s)) :=
    ((chooseRaster_within h s).mono (by decide)).andThen (allStale_within _) (by decide)
  split
  · exact (chosen.trans (.of_merge rfl)).andThen (sendItem_within _ _) (by decide)
  · exact (chosen.trans (.of_merge rfl)).andThen (raise_within _ _) (by decide)

theorem startZoneFrame_within (h : ScreenHeader) (s : State) :
    Within [.frame, .link, .receivers, .holds, .flag .linkDown] s (startZoneFrame h s) := by
  unfold startZoneFrame
  split
  · exact .of_merge rfl
  · exact (Within.andThen (.of_merge rfl) (allStale_within _) (by decide)).andThen (raise_within _ _) (by decide)

theorem startFrame_within (s : State) : Within frameParts s (startFrame s) := by
  unfold startFrame
  dsimp only
  split
  · exact .of_merge rfl
  · split
    · exact Within.trans (.of_merge rfl) (startAlertFrame_within _ _)
    · exact Within.andThen (.of_merge rfl) (startZoneFrame_within _ _) (by decide)

theorem sweepLine_within (l : Line) (s : State) : Within [.frame] s (sweepLine l s) := by
  unfold sweepLine
  split <;> exact .of_merge rfl

/-- What the close of a slot can change. -/
abbrev closeParts : List Part := 
  [.frame, .holds, .sent, .underruns, .port, .flag .zoneUnderrun, .link, .receivers, .entries]

theorem closeZone_cfg (d : Disposition) (under : Bool) (x : Slot) (z : Zone) : (closeZone d under x z).cfg = z.cfg := by
  cases d <;> rfl

theorem closeZone_epochOf (k : ZoneKind) (d : Disposition) (under : Bool) (x : Slot) (z : Zone) :
    epochOf k (closeZone d under x z) = epochOf k z := by
  cases d <;> rfl

/-- What a slot's close leaves of one zone it leaves of all. -/
theorem map_closeZone_congr {α : Type} {f : Zone → α} {d : Disposition} {under : Bool} {x : Slot}
    (h : ∀ d under x z, f (closeZone d under x z) = f z) (zones : List Zone) :
    (zones.map (fun z => if z.cfg.id = x.zone.id then closeZone d under x z else z)).map f = zones.map f := by
  rw [List.map_map]
  refine List.map_congr_left fun z _ => ?_
  rw [Function.comp_apply]
  split
  · exact h d under x z
  · rfl

/-- R17, R18: the slot closed, its zone's record after it, and an abandoned line in flight. -/
def recordClose (before : List Slot) (x : Slot) (after : List Slot) (s : State) : State :=
  let d := closing x (zoneHolds x.zone.id s)
  { s with
    sweep.frame := .zones (before ++ { x with closed := some d, fetch := { x.fetch with runs := [] } } :: after)
    sweep.zones := s.sweep.zones.map (fun z => if z.cfg.id = x.zone.id then closeZone d (underruns x) x z else z)
    port := s.port.map (fun f => if f.origin = .slot x.zone.id then { f with dropped := true } else f) }

theorem recordClose_within (before : List Slot) (x : Slot) (after : List Slot) (s : State) :
    Within [.frame, .holds, .sent, .underruns, .port] s (recordClose before x after s) := by
  have recorded (d : Disposition) (under : Bool) : Within [.frame, .holds, .sent, .underruns, .port] s { s with
      sweep.zones := s.sweep.zones.map (fun z => if z.cfg.id = x.zone.id then closeZone d under x z else z) } :=
    zones_within (fun _ => map_closeZone_congr closeZone_cfg _) (fun k _ => map_closeZone_congr (closeZone_epochOf k) _)
      (fun h => absurd (by decide) h) (fun h => absurd (by decide) h) (fun h => absurd (by decide) h)
  exact (recorded _ _).trans (.of_merge rfl)

/-- R20: the closed slot on the link. -/
def sendClosed (d : Disposition) (x : Slot) (s : State) : State :=
  if d = .unsent then s else sendItem (.slot x.zone d (slotPayload d x)) s

def takeReportOf (r : Option SlotReport) (s : State) : State :=
  match r with
  | some r => reportSlot r s
  | none => s

/-- The close of a slot, piece by piece. -/
theorem closeSlot_eq (before : List Slot) (x : Slot) (after : List Slot) (s : State) :
    closeSlot before x after s =
      takeReportOf (slotReport (closing x (zoneHolds x.zone.id s)) s.sweep.duty x)
        (sendClosed (closing x (zoneHolds x.zone.id s)) x
          (raiseIf (underruns x) .zoneUnderrun (recordClose before x after s))) := by
  have hduty (d : Disposition) : (sendClosed d x
      (raiseIf (underruns x) .zoneUnderrun (recordClose before x after s))).sweep.duty = s.sweep.duty := by
    unfold sendClosed
    split
    · rw [raiseIf_sweep]
      rfl
    · rw [sendItem_sweep_duty, raiseIf_sweep]
      rfl
  rw [← hduty (closing x (zoneHolds x.zone.id s))]
  rfl

theorem closeSlot_within (before : List Slot) (x : Slot) (after : List Slot) (s : State) :
    Within closeParts s (closeSlot before x after s) := by
  have raised : Within closeParts s (raiseIf (underruns x) .zoneUnderrun (recordClose before x after s)) :=
    ((recordClose_within before x after s).mono (by decide)).andThen (raiseIf_within _ _ _) (by decide)
  have sent (d : Disposition) : Within closeParts s
      (sendClosed d x (raiseIf (underruns x) .zoneUnderrun (recordClose before x after s))) := by
    unfold sendClosed
    split
    · exact raised
    · exact raised.andThen (sendItem_within _ _) (by decide)
  rw [closeSlot_eq]
  unfold takeReportOf
  split
  · exact (sent _).andThen (reportSlot_within _ _) (by decide)
  · exact sent _

theorem closeAlert_within (x : AlertSlot) (s : State) : Within [.frame, .port, .link, .receivers] s (closeAlert x s) := by
  unfold closeAlert
  dsimp only
  split <;> exact .of_merge rfl

theorem slotDeadline_within (s : State) : Within closeParts s (slotDeadline s) := by
  unfold slotDeadline
  split
  · exact .refl _ s
  · split
    · exact closeSlot_within _ _ _ s
    · exact .refl _ s
  · split
    · exact .refl _ s
    · exact (closeAlert_within _ s).mono (by decide)

theorem closeTimes_within (n : Nat) (s : State) : Within closeParts s (closeTimes n s) := by
  induction n generalizing s with
  | zero => exact .refl _ s
  | succ n ih => exact (slotDeadline_within s).trans (ih _)

theorem closeFrame_within (s : State) : Within closeParts s (closeFrame s) := closeTimes_within _ s

theorem linkFalls_within (s : State) : Within [.pins, .holds, .frame, .port, .flag .linkDown] s (linkFalls s) := by
  unfold linkFalls
  dsimp only
  split
  · exact ((Within.andThen (.of_merge rfl) (allStale_within _) (by decide)).andThen (dropSweep_within _)
      (by decide)).andThen (raise_within _ _) (by decide)
  · exact .of_merge rfl

theorem linkRises_within (s : State) : Within [.pins] s (linkRises s) := .of_merge rfl

/-! ### The arbiter -/

/-- What a grant to the part can change. -/
abbrev partParts : List Part := [.port, .mem, .lane, .snapshot, .lines, .flag .longCueDone, .flag .cueRefused]

theorem landFinal_within (l : Lane) (r : FinalRecord) (s : State) : Within partParts s (landFinal l r s) := by
  unfold landFinal
  dsimp only
  have freed (u : State) : Within partParts u { u with decoder.lane := none, exposure.snapshot := none } := .of_merge rfl
  have landed : Within partParts s (writeWhole (apertureLine 1 s) (finalLine l r) s) :=
    (writeWhole_within _ _ s).mono (by decide)
  exact ((landed.trans (freed _)).andThen (raise_within .longCueDone _) (by decide)).andThen (raiseIf_within _ _ _)
    (by decide)

theorem grantPartLine_within (x : PartLine) (s : State) : Within partParts s (grantPartLine x s) := by
  unfold grantPartLine
  split
  · exact .of_merge rfl
  · exact (writeSnapshotLine_within _ _ _ s).mono (by decide)
  · exact Within.andThen (.of_merge rfl) (writeWhole_within _ _ _) (by decide)
  · exact landFinal_within _ _ s

/-- What a grant to the controller can change. -/
abbrev controllerParts : List Part := [.mem, .reply] ++ queueParts ++ cueParts

theorem handOffWrite_within (n : LineNo) (d : Line) (m : Mask) (s : State) : Within cueParts s (handOffWrite n d m s) := by
  unfold handOffWrite
  split
  · exact handOff_within _ _ s
  · exact .refl _ s

theorem grantController_within (s : State) : Within controllerParts s (grantController s) := by
  unfold grantController
  split
  · exact ((forwardRead_within _ s).mono (by decide)).andThen (leaveQueue_within _) (by decide)
  · exact (((forwardWrite_within _ _ _ s).mono (by decide)).andThen (handOffWrite_within _ _ _ _) (by decide)).andThen
      (leaveQueue_within _) (by decide)
  · exact .refl _ s

theorem grantSweep_within (s : State) : Within [.port] s (grantSweep s) := by
  unfold grantSweep
  split <;> exact .of_merge rfl

theorem grantPart_within (s : State) : Within partParts s (grantPart s) := by
  unfold grantPart
  split
  · exact grantPartLine_within _ s
  · exact .refl _ s

/-- What a grant can change. -/
abbrev grantParts : List Part := [.turn, .lines, .image, .captureDue] ++ controllerParts

theorem grantTo_within (r : Requester) (s : State) : Within grantParts s (grantTo r s) := by
  cases r
  · exact (grantController_within s).mono (by decide)
  · exact (grantSweep_within s).mono (by decide)
  · exact (grantPart_within s).mono (by decide)

theorem grantLine_within (s : State) : Within grantParts s (grantLine s) := by
  unfold grantLine
  split
  · exact Within.trans (.of_merge rfl) (grantTo_within _ _)
  · exact .refl _ s

theorem mportGrant_within (s : State) : Within grantParts s (mportGrant s) := by
  unfold mportGrant
  split
  · exact .refl _ s
  · refine Within.trans ?_ (grantLine_within _)
    split
    · exact .refl _ s
    · exact (captureIfDue_within s).mono (by decide)

/-! ### A sweep boundary -/

/-- What a unit's work at a boundary can change. -/
def taskParts : BoundaryTask → List Part
  | .layout => layoutParts
  | .alert => .flag .alertCleared :: entryParts
  | .replay => replayParts
  | .rotation => rotationParts
  | .message => airParts

theorem runTask_within (t : BoundaryTask) (s : State) : Within (taskParts t) s (runTask t s) := by
  cases t
  · exact applyLayout_within s
  · exact alertWork_within s
  · exact replayWork_within s
  · exact rotationWork_within s
  · exact messageWork_within s

/-- The work of some units in an order. -/
theorem tasks_within {ps : List Part} (order : List BoundaryTask) (s : State)
    (sub : ∀ t ∈ order, ∀ p ∈ taskParts t, p ∈ ps) : Within ps s (order.foldl (fun s t => runTask t s) s) := by
  induction order generalizing s with
  | nil => exact .refl _ s
  | cons t rest ih =>
    exact ((runTask_within t s).mono (sub t (by simp))).trans (ih _ fun u hu => sub u (by simp [hu]))

/-- What every unit's work for a boundary can change. -/
abbrev workParts : List Part := 
  [.alertState, .effective, .flag .alertOnAir, .flag .alertCleared, .flag .clipEnded] ++ rotationParts ++ layoutParts

theorem taskParts_subset_workParts (t : BoundaryTask) : ∀ p ∈ taskParts t, p ∈ workParts := by
  cases t <;> decide

theorem nextNumber_within (s : State) : Within [.number] s (nextNumber s) := .of_merge rfl

theorem setRate_within (s : State) : Within [.rate] s (setRate s) := .of_merge rfl

theorem boundaryWork_within (order : List BoundaryTask) (s : State) :
    Within (.number :: workParts) s (boundaryWork order s) := by
  unfold boundaryWork
  have worked := ((nextNumber_within s).mono (qs := .number :: workParts) (by decide)).andThen
    (tasks_within (ps := workParts) (taskOrder order) _ fun t _ => taskParts_subset_workParts t) (by decide)
  exact (worked.andThen (exchangeFlips_within _) (by decide)).andThen (startOnAir_within _) (by decide)

theorem boundaryCapture_within (hold : Bool) (s : State) :
    Within [.image, .lines, .captureDue] s (boundaryCapture hold s) := by
  cases hold <;> exact .of_merge rfl

/-- What a sweep boundary can change. -/
abbrev boundaryParts : List Part :=
  [.image, .lines, .captureDue, .number, .rate] ++ workParts ++ closeParts ++ frameParts

theorem sweepBoundary_within (order : List BoundaryTask) (hold : Bool) (s : State) :
    Within boundaryParts s (sweepBoundary order hold s) := by
  unfold sweepBoundary
  have closed : Within boundaryParts s (closeFrame (captureIfDue s)) :=
    ((captureIfDue_within s).mono (by decide)).andThen (closeFrame_within _) (by decide)
  have started := ((closed.andThen (boundaryWork_within order _) (by decide)).andThen (setRate_within _)
    (by decide)).andThen (startFrame_within _) (by decide)
  exact started.andThen (boundaryCapture_within hold _) (by decide)

/-! ### A timebase event -/

/-- What a timebase event of the units can change. -/
abbrev timebaseParts : List Part :=
  [.receiver, .console, .watchdog, .houses, .current, .latch, .debounce, .flag .consoleLost, .flag .houseStale,
    .flag .chaseTimeout, .flag .clipEnded] ++ tickParts ++ gatherParts ++ heatParts ++ entryParts

theorem timebaseUnits_within (s : State) : Within timebaseParts s (timebaseUnits s) := by
  unfold timebaseUnits
  have counted : Within timebaseParts s (stepChase (stepIdle (stepWatchdog (stepGap (stepClocks s))))) :=
    (((((stepClocks_within s).mono (by decide)).andThen (stepGap_within _) (by decide)).andThen
      (stepWatchdog_within _) (by decide)).andThen (stepIdle_within _) (by decide)).andThen (stepChase_within _) (by decide)
  exact ((counted.andThen (stepGather_within _) (by decide)).andThen (stepDebounce_within _) (by decide)).andThen
    (stepHeat_within _) (by decide)

theorem timebaseStep_within (s : State) : Within (.initCount :: timebaseParts) s (timebaseStep s) := by
  unfold timebaseStep
  split
  · exact .of_merge rfl
  · exact (timebaseUnits_within s).mono (by decide)

/-! ### Reset -/

/-- Every part that a unit's cold values cover. -/
abbrev coldParts : List Part :=
  [.answered, .watch, .houses, .lane, .last, .snapshot, .entries, .glyphs, .standing, .colour, .image, .lines, .captureDue,
    .number, .rate, .receiver] ++ restartParts

theorem coldUnits_within (s : State) : Within coldParts s (coldUnits s) := by
  have bus : Within coldParts s { s with
      path.headAnswered := false, path.watch := [], path.houses := [], sweep := coldSweep } := .of_merge_zones rfl (by decide)
  have decided (u : State) : Within coldParts u { u with decoder := coldDecoder, status := coldStatus } :=
    .of_merge_flags rfl (by decide)
  have content (u : State) : Within coldParts u { u with
      clock := coldClockUnit, figures := coldFigures, replay := coldReplay, rotation := coldRotation
      exposure := coldExposure } := .of_merge rfl
  have air (u : State) : Within coldParts u { u with
      messages := coldMessages, alert := coldAlert, brightness := coldBrightness } := .of_merge rfl
  exact ((bus.trans (decided _)).trans (content _)).trans (air _)

theorem coldReset_within (s : State) : Within ([.pins, .bypass, .initCount, .turn, .port] ++ coldParts) s (coldReset s) :=
  ((coldUnits_within s).mono fun _ hp => List.mem_append_right _ hp).trans (.of_merge rfl)

theorem resetDeassert_within (s : State) : Within [.pins, .initCount] s (resetDeassert s) := by
  unfold resetDeassert
  split <;> exact .of_merge rfl

theorem initialisationComplete_within (straps : BitVec 4) (s : State) :
    Within ([.bypass, .initCount, .segment] ++ coldParts) s (initialisationComplete straps s) := by
  unfold initialisationComplete
  split
  · split
    · refine ((coldUnits_within s).mono fun _ hp => List.mem_append_right _ hp).trans ?_
      unfold finishInit sampleLines
      rw [heatFound_frame]
      exact .of_merge rfl
    · exact .refl _ s
  · exact .refl _ s

end Sys2Proof.Proofs
end

section
/-! PROOFS. What a command does to the state, said once: `effect` is the one next state that `exec` answers, and
`commandParts` names what it can change. A step keeps an invariant if the effects that touch its parts do. -/

namespace Sys2Proof.Proofs

open Sys2Proof.Machine Sys2Proof.Safety

/-- The next state of each command: the events row by row, and every cue as its hand-off out of bypass. -/
def effect : Instr → State → State
  | .coldReset, s => coldReset s
  | .resetDeassert, s => resetDeassert s
  | .initialisationComplete straps, s => initialisationComplete straps s
  | .transactionAccepted t, s => offer t s
  | .mportGrant, s => mportGrant s
  | .progressLineRead, s => progressRead s
  | .sweepLineArrival, s => sweepArrival s
  | .layoutLineArrival, s => layoutArrival s
  | .glyphLineArrival, s => glyphArrival s
  | .clipDescriptorLineArrival, s => clipArrival s
  | .slotRecordLineArrival, s => slotRecordArrival s
  | .sweepBoundary order hold, s => outOfBypass (sweepBoundary order hold) s
  | .slotDeadline, s => outOfBypass slotDeadline s
  | .linkReadyFalls, s => if s.bypass then { s with pins.linkReady := false } else linkFalls s
  | .linkReadyRises, s => linkRises s
  | .clockTimebaseStep, s => timebaseStep s
  | .clockExpiry k, s => outOfBypass (expireClock k) s
  | .gapTimerExpiry, s => outOfBypass expireGap s
  | .beaconWatchdogExpiry, s => outOfBypass expireWatchdog s
  | .beacon p, s => outOfBypass (takeBeacon p) s
  | .scoreFrame p, s => outOfBypass (writeScores p) s
  | .idleTimerExpiry z, s => outOfBypass (expireIdle z) s
  | .chaseTimeout, s => outOfBypass expireChase s
  | .gatherTimerExpiry, s => outOfBypass expireGather s
  | .venueAlertLineAsserted, s => if s.bypass then { s with pins.venue := true } else venueAsserts s
  | .venueAlertLineDeasserted, s => if s.bypass then { s with pins.venue := false } else venueDeasserts s
  | .debounceExpiry, s => outOfBypass expireDebounce s
  | .heatLineAsserted, s => if s.bypass then { s with pins.heat := true } else heatLine true s
  | .heatLineDeasserted, s => if s.bypass then { s with pins.heat := false } else heatLine false s
  | .warmTimerExpiry, s => outOfBypass expireWarm s
  | .coolTimerExpiry, s => outOfBypass expireCool s
  | .timingLineByte b e, s => outOfBypass (takeByte b e) s
  | i, s => outOfBypass (dispatch i) s

theorem exec_eq (i : Instr) (s : State) : exec i s = .next (effect i s) := by
  cases i <;> rfl

/-- What each command can change. -/
def commandParts : Instr → List Part
  | .coldReset => [.pins, .bypass, .initCount, .turn, .port] ++ coldParts
  | .resetDeassert => [.pins, .initCount]
  | .initialisationComplete _ => [.bypass, .initCount, .segment] ++ coldParts
  | .transactionAccepted _ => queueParts
  | .mportGrant => grantParts
  | .progressLineRead => [.reply, .lane] ++ queueParts
  | .sweepLineArrival => [.port, .frame]
  | .layoutLineArrival => [.port, .lane, .load]
  | .glyphLineArrival => .port :: glyphParts
  | .clipDescriptorLineArrival => .port :: clipParts
  | .slotRecordLineArrival => .port :: recordParts
  | .sweepBoundary _ _ => boundaryParts
  | .slotDeadline => closeParts
  | .linkReadyFalls => [.pins, .holds, .frame, .port, .flag .linkDown]
  | .linkReadyRises => [.pins]
  | .clockTimebaseStep => .initCount :: timebaseParts
  | .clockExpiry _ => tickParts
  | .gapTimerExpiry => [.receiver]
  | .beaconWatchdogExpiry => [.console, .watchdog, .flag .consoleLost]
  | .beacon _ => beaconParts
  | .scoreFrame _ => scoreParts
  | .idleTimerExpiry _ => [.houses, .flag .houseStale]
  | .chaseTimeout => [.current, .flag .chaseTimeout, .flag .clipEnded]
  | .gatherTimerExpiry => gatherParts
  | .venueAlertLineAsserted => .pins :: venueParts
  | .venueAlertLineDeasserted => [.pins, .debounce]
  | .debounceExpiry => venueParts
  | .heatLineAsserted => .pins :: heatParts
  | .heatLineDeasserted => .pins :: heatParts
  | .warmTimerExpiry => heatParts
  | .coolTimerExpiry => heatParts
  | .timingLineByte _ _ => .receiver :: (beaconParts ++ scoreParts)
  | i => dispatchParts i

/-- In bypass a line keeps its level alone (log 12). -/
theorem levelOr_within {ps : List Part} {s t : State} {x : Pins} (h : Within ps s t) (sub : .pins ∈ ps) :
    Within ps s (if s.bypass then { s with pins := x } else t) := by
  split
  · exact Within.mono (ps := [.pins]) (.of_merge rfl) (by simpa using sub)
  · exact h

theorem effect_within (i : Instr) (s : State) : Within (commandParts i) s (effect i s) := by
  have cue : Within (dispatchParts i) s (outOfBypass (dispatch i) s) := outOfBypass_within (dispatch_within i s)
  cases i
  case coldReset => exact coldReset_within s
  case resetDeassert => exact resetDeassert_within s
  case initialisationComplete => exact initialisationComplete_within _ s
  case transactionAccepted => exact offer_within _ s
  case mportGrant => exact mportGrant_within s
  case progressLineRead => exact progressRead_within s
  case sweepLineArrival => exact arrival_within (fun l u => (sweepLine_within l u).mono (by decide)) (by decide)
  case layoutLineArrival => exact arrival_within (fun l u => (layoutLine_within l u).mono (by decide)) (by decide)
  case glyphLineArrival => exact arrival_within (fun l u => (glyphLine_within l u).mono (by decide)) (by decide)
  case clipDescriptorLineArrival => exact arrival_within (fun l u => (clipLine_within l u).mono (by decide)) (by decide)
  case slotRecordLineArrival => exact arrival_within (fun l u => (slotRecordLine_within l u).mono (by decide)) (by decide)
  case sweepBoundary => exact outOfBypass_within (sweepBoundary_within _ _ s)
  case slotDeadline => exact outOfBypass_within (slotDeadline_within s)
  case linkReadyFalls => exact levelOr_within (linkFalls_within s) (by decide)
  case linkReadyRises => exact linkRises_within s
  case clockTimebaseStep => exact timebaseStep_within s
  case clockExpiry => exact outOfBypass_within (expireClock_within _ s)
  case gapTimerExpiry => exact outOfBypass_within (expireGap_within s)
  case beaconWatchdogExpiry => exact outOfBypass_within (expireWatchdog_within s)
  case beacon => exact outOfBypass_within (takeBeacon_within _ s)
  case scoreFrame => exact outOfBypass_within (writeScores_within _ s)
  case idleTimerExpiry => exact outOfBypass_within (expireIdle_within _ s)
  case chaseTimeout => exact outOfBypass_within (expireChase_within s)
  case gatherTimerExpiry => exact outOfBypass_within (expireGather_within s)
  case venueAlertLineAsserted => exact levelOr_within (venueAsserts_within s) (by decide)
  case venueAlertLineDeasserted => exact levelOr_within (venueDeasserts_within s) (by decide)
  case debounceExpiry => exact outOfBypass_within (expireDebounce_within s)
  case heatLineAsserted => exact levelOr_within (heatLine_within true s) (by decide)
  case heatLineDeasserted => exact levelOr_within (heatLine_within false s) (by decide)
  case warmTimerExpiry => exact outOfBypass_within (expireWarm_within s)
  case coolTimerExpiry => exact outOfBypass_within (expireCool_within s)
  case timingLineByte => exact outOfBypass_within (takeByte_within _ _ s)
  all_goals exact cue

/-! ### Invariants -/

/-- `inv` is decided by the parts `ds`. -/
def DependsOn (ds : List Part) (inv : State → Prop) : Prop := ∀ s t, (∀ p ∈ ds, p.Same s t) → inv s → inv t

/-- Some of the parts `ds` are among `ps`. -/
def meets (ds ps : List Part) : Bool := ds.any (· ∈ ps)

/-- An operation that changes other parts alone keeps the invariant. -/
theorem DependsOn.kept {ds ps : List Part} {inv : State → Prop} (h : DependsOn ds inv) {s t : State}
    (hst : Within ps s t) (apart : meets ds ps = false) (hs : inv s) : inv t := by
  refine h s t (fun p hp => hst p fun hin => ?_) hs
  simp only [meets, List.any_eq_false, decide_eq_true_eq] at apart
  exact apart p hp hin

/-- A step keeps an invariant that every effect touching its parts keeps. -/
theorem DependsOn.keptByStep {ds : List Part} {inv : State → Prop} (h : DependsOn ds inv) (hqueue : .pending ∉ ds)
    (heffect : ∀ i s, meets ds (commandParts i) = true → inv s → inv (effect i s)) : KeptByStep inv := by
  intro s t hs hstep
  rcases step_cases hstep with ⟨_, hidle⟩ | ⟨c, rest, _, hrun⟩
  · exact (Host.Outcome.next.inj hidle) ▸ hs
  · rw [exec_eq] at hrun
    have apart : meets ds [.pending] = false := by
      simp only [meets, List.any_eq_false, List.mem_singleton, decide_eq_true_eq]
      exact fun p hp heq => hqueue (heq ▸ hp)
    have taken : inv { s with pending := rest } :=
      h.kept (ps := [.pending]) (.of_merge rfl) apart hs
    rw [Host.Outcome.next.inj hrun]
    cases hmeets : meets ds (commandParts c)
    · exact h.kept (effect_within c _) hmeets taken
    · exact heffect c _ hmeets taken

theorem outOfBypass_keeps {inv : State → Prop} {f : State → State} {s : State} (hs : inv s)
    (h : s.bypass = false → inv (f s)) : inv (outOfBypass f s) := by
  rcases outOfBypass_cases f s with ⟨_, hf⟩ | ⟨hb, hf⟩ <;> rw [hf]
  · exact hs
  · exact h hb

theorem arrival_keeps {inv : State → Prop} {mine : FlightOrigin → Bool} {use : Line → State → State} {s : State}
    (hfree : inv s → inv { s with port := none }) (huse : ∀ l t, inv t → inv (use l t)) (hs : inv s) :
    inv (arrival mine use s) := by
  rcases arrival_cases mine use s with h | ⟨_, _, _, _, h⟩ | ⟨f, _, _, _, h⟩ <;> rw [h]
  · exact hs
  · exact hfree hs
  · exact huse f.data _ (hfree hs)

/-! ### The queue of commands -/

theorem effect_pending (i : Instr) (s : State) : (effect i s).pending = s.pending := by
  have apart : meets [.pending] (commandParts i) = false := by cases i <;> rfl
  exact effect_within i s .pending (by simpa [meets] using apart)

/-- Settles O1, by the definition of a step. -/
theorem stepRunsFrontCommand : Obligations.StepRunsFrontCommand := by
  refine ⟨fun s c rest h => ?_, fun s h => ?_⟩
  · rw [step, h]
  · rw [step, h]

/-- Settles O2: the next state is the command's effect, and no command's parts hold the queue of commands. -/
theorem commandsAnswerAndKeepQueue : Obligations.CommandsAnswerAndKeepQueue :=
  fun i s => ⟨effect i s, exec_eq i s, effect_pending i s⟩

/-! ### Frame memory -/

theorem wf_dependsOn : DependsOn [.mem] (fun s => Memory.wf s.mem) := fun s t h hs => by
  change Memory.wf t.mem
  rw [show t.mem = s.mem from h .mem (by decide)]
  exact hs

/-- Every line of the part that lands keeps the canonical form. -/
theorem grantPartLine_wf (x : PartLine) (s : State) (h : Memory.wf s.mem) : Memory.wf (grantPartLine x s).mem := by
  cases x with
  | record origin a => exact h
  | snapshot p line rest =>
    have landed : Memory.wf (writeWhole (snapshotAddr p line) (snapshotData p line) s).mem := writeWhole_wf _ _ s h
    exact wf_dependsOn.kept (snapshotLanded_within p line rest _) (by decide) landed
  | status line rest => exact writeWhole_wf _ _ { s with status.lines := rest } h
  | final l r =>
    have landed : Memory.wf (writeWhole (apertureLine 1 s) (finalLine l r) s).mem := writeWhole_wf _ _ s h
    simp only [grantPartLine, landFinal, raiseIf_mem, raise_mem]
    exact landed

theorem forwardWrite_mem (n : LineNo) (d : Line) (m : Mask) (s : State) :
    (forwardWrite n d m s).mem = memWriteBytes s.mem (forwardAddr (lineAddr n) s) d m 64 := by
  unfold forwardWrite
  dsimp only
  have late := raiseIf_within (isLateWrite (lineAddr n) (writeLine (forwardAddr (lineAddr n) s) d m s)) .lateWrite
    (writeLine (forwardAddr (lineAddr n) s) d m s) .mem (by decide)
  split
  · rfl
  · split
    · exact late
    · exact Eq.trans (writeChecks_within _ _ _ _ .mem (by decide)) late

theorem grantController_wf (s : State) (h : Memory.wf s.mem) : Memory.wf (grantController s).mem := by
  unfold grantController
  split
  · exact h
  · have landed (n : LineNo) (d : Line) (m : Mask) : Memory.wf (forwardWrite n d m s).mem := by
      rw [forwardWrite_mem]
      exact memWriteBytes_wf _ _ _ _ h
    have handed (n : LineNo) (d : Line) (m : Mask) :=
      wf_dependsOn.kept (handOffWrite_within n d m _) (by decide) (landed n d m)
    exact handed _ _ _
  · exact h

theorem grantTo_wf (r : Requester) (s : State) (h : Memory.wf s.mem) : Memory.wf (grantTo r s).mem := by
  cases r with
  | controller => exact grantController_wf s h
  | sweep => exact wf_dependsOn.kept (grantSweep_within s) (by decide) h
  | part =>
    change Memory.wf (grantPart s).mem
    unfold grantPart
    split
    · exact grantPartLine_wf _ s h
    · exact h

theorem mportGrant_wf (s : State) (h : Memory.wf s.mem) : Memory.wf (mportGrant s).mem := by
  have granted (t : State) (ht : Memory.wf t.mem) : Memory.wf (grantLine t).mem := by
    unfold grantLine
    split
    · exact grantTo_wf _ _ ht
    · exact ht
  unfold mportGrant
  split
  · exact h
  · refine granted _ ?_
    split
    · exact h
    · exact wf_dependsOn.kept (captureIfDue_within s) (by decide) h

/-- Settles O56: only a grant writes memory, and a grant writes whole lines or the enabled bytes of one. -/
theorem memoryStaysCanonical : Obligations.MemoryStaysCanonical := by
  refine wf_dependsOn.keptByStep (by decide) fun i s hmeets hs => ?_
  cases i
  case mportGrant => exact mportGrant_wf s hs
  all_goals exact (Bool.false_ne_true hmeets).elim

end Sys2Proof.Proofs
end

section
/-! PROOFS. Invariants, operation by operation: what a grant, a boundary, a timebase event, a cue, RESTART and a reset
keep, told from what the operations inside them keep. -/

namespace Sys2Proof.Proofs

open Sys2Proof.Machine Sys2Proof.Safety

/-- An operation keeps an invariant. -/
def Keeps (inv : State → Prop) (f : State → State) : Prop := ∀ s, inv s → inv (f s)

theorem Keeps.comp {inv : State → Prop} {f g : State → State} (hf : Keeps inv f) (hg : Keeps inv g) :
    Keeps inv (fun s => g (f s)) := fun s hs => hg _ (hf s hs)

theorem DependsOn.keeps {ds ps : List Part} {inv : State → Prop} (h : DependsOn ds inv) {f : State → State}
    (hf : ∀ s, Within ps s (f s)) (apart : meets ds ps = false) : Keeps inv f := fun s => h.kept (hf s) apart

theorem meets_mono {ds ps qs : List Part} (h : meets ds qs = false) (sub : ∀ p ∈ ps, p ∈ qs) :
    meets ds ps = false := by
  simp only [meets, List.any_eq_false, decide_eq_true_eq] at h ⊢
  exact fun p hp hin => h p hp (sub p hin)

theorem keptByStep_and {p q : State → Prop} (hp : KeptByStep p) (hq : KeptByStep q) :
    KeptByStep (fun s => p s ∧ q s) := fun s t hs hstep => ⟨hp s t hs.1 hstep, hq s t hs.2 hstep⟩

/-! ### Cues -/

/-- A command that is no cue has no dispatch, and a cue's command is its dispatch out of bypass. -/
theorem dispatch_idle_or_effect (i : Instr) (s : State) :
    dispatch i s = s ∨ effect i s = outOfBypass (dispatch i) s := by
  cases i
  case coldReset | resetDeassert | initialisationComplete | transactionAccepted | mportGrant | progressLineRead
      | sweepLineArrival | layoutLineArrival | glyphLineArrival | clipDescriptorLineArrival | slotRecordLineArrival
      | sweepBoundary | slotDeadline | linkReadyFalls | linkReadyRises | clockTimebaseStep | clockExpiry
      | gapTimerExpiry | beaconWatchdogExpiry | beacon | scoreFrame | idleTimerExpiry | chaseTimeout
      | gatherTimerExpiry | venueAlertLineAsserted | venueAlertLineDeasserted | debounceExpiry | heatLineAsserted
      | heatLineDeasserted | warmTimerExpiry | coolTimerExpiry | timingLineByte => exact .inl rfl
  all_goals exact .inr rfl

theorem shortCue_keeps {ds : List Part} {inv : State → Prop} (h : DependsOn ds inv)
    (apart : meets ds settleParts = false) {owner : State → PostOutcome} (howner : Keeps inv (fun s => (owner s).state))
    (tag : Half) (code : Byte) : Keeps inv (shortCue tag code owner) := fun s hs =>
  h.kept (settleShort_within tag code _ _ _) apart (howner s hs)

theorem withAddress_keeps {inv : State → Prop} {owner : State → PostOutcome}
    (howner : Keeps inv (fun s => (owner s).state)) (checked : Bool) (a : Quad) :
    Keeps inv (fun s => (withAddress checked a owner s).state) := fun s hs => by
  dsimp only [withAddress]
  split
  · exact hs
  · exact howner s hs

theorem outOfBypass_keeps_of {inv : State → Prop} {f : State → State} (hf : Keeps inv f) :
    Keeps inv (outOfBypass f) := fun s hs => outOfBypass_keeps hs fun _ => hf s hs

theorem cueRestart_keeps {ds : List Part} {inv : State → Prop} (h : DependsOn ds inv)
    (apart : meets ds settleParts = false) (hend : Keeps inv endLong) (hunits : Keeps inv restartUnits) (tag : Half) :
    Keeps inv (cueRestart tag) := fun s hs => by
  refine h.kept (settleShort_within tag 0x83 .done 0 _) apart (hunits _ ?_)
  split
  · exact hend s hs
  · exact hs

/-! ### Grants -/

/-- What a grant changes other than by a write's forwarding and by the cue it hands off. -/
abbrev moveParts : List Part := [.turn, .image, .captureDue, .reply] ++ queueParts ++ partParts ++ settleParts

/-- A grant keeps an invariant that the forwarding of a write and every cue keep. -/
theorem mportGrant_keeps {ds : List Part} {inv : State → Prop} (h : DependsOn ds inv)
    (apart : meets ds moveParts = false) (hforward : ∀ n d m, Keeps inv (forwardWrite n d m))
    (hcue : ∀ i, i ≠ .mportGrant → Keeps inv (effect i)) : Keeps inv mportGrant := by
  have move {s t : State} {ps : List Part} (hst : Within ps s t) (sub : ∀ p ∈ ps, p ∈ moveParts) (hs : inv s) : inv t :=
    h.kept (hst.mono sub) apart hs
  have handed (n : LineNo) (d : Line) (m : Mask) : Keeps inv (handOffWrite n d m) := fun s hs => by
    unfold handOffWrite
    split
    case isFalse => exact hs
    case isTrue hopen =>
      have hbypass : s.bypass = false := by
        cases hb : s.bypass
        · rfl
        · rw [hb] at hopen
          exact (Bool.false_ne_true hopen).elim
      unfold handOff
      split
      · exact hs
      · split
        · exact hs
        · exact move (settleShort_within _ _ _ _ s) (by decide) hs
        · rename_i i _
          by_cases hgrant : i = .mportGrant
          · rw [hgrant]
            exact hs
          · rcases dispatch_idle_or_effect i s with hidle | heffect
            · rw [hidle]
              exact hs
            · have hkept := hcue i hgrant s hs
              rw [heffect, outOfBypass, hbypass] at hkept
              exact hkept
  have controller : Keeps inv grantController := fun s hs => by
    unfold grantController
    split
    · exact move (leaveQueue_within _) (by decide) (move (forwardRead_within _ s) (by decide) hs)
    · exact move (leaveQueue_within _) (by decide) (handed _ _ _ _ (hforward _ _ _ s hs))
    · exact hs
  have granted (r : Requester) : Keeps inv (grantTo r) := fun s hs => by
    cases r with
    | controller => exact controller s hs
    | sweep => exact move (grantSweep_within s) (by decide) hs
    | part => exact move (grantPart_within s) (by decide) hs
  intro s hs
  unfold mportGrant
  split
  · exact hs
  · have captured : inv (if s.bypass then s else captureIfDue s) := by
      split
      · exact hs
      · exact move (captureIfDue_within s) (by decide) hs
    generalize (if s.bypass then s else captureIfDue s) = u at captured
    unfold grantLine
    split
    · exact granted _ _ (move (ps := [.turn]) (.of_merge rfl) (by decide) captured)
    · exact captured

/-- A step keeps an invariant that the forwarding of a write and every other command touching its parts keep. -/
theorem DependsOn.keptByUnits {ds : List Part} {inv : State → Prop} (h : DependsOn ds inv)
    (hqueue : .pending ∉ ds) (apart : meets ds moveParts = false) (hforward : ∀ n d m, Keeps inv (forwardWrite n d m))
    (heffect : ∀ i, i ≠ .mportGrant → meets ds (commandParts i) = true → Keeps inv (effect i)) : KeptByStep inv := by
  have all (i : Instr) (hgrant : i ≠ .mportGrant) : Keeps inv (effect i) := fun s hs => by
    cases hmeets : meets ds (commandParts i)
    · exact h.kept (effect_within i s) hmeets hs
    · exact heffect i hgrant hmeets s hs
  refine h.keptByStep hqueue fun i s _ hs => ?_
  by_cases hgrant : i = .mportGrant
  · rw [hgrant]
    exact mportGrant_keeps h apart hforward all s hs
  · exact all i hgrant s hs

/-! ### Boundaries and timebase events -/

theorem closeTimes_keeps {inv : State → Prop} (hclose : Keeps inv slotDeadline) (n : Nat) : Keeps inv (closeTimes n) := by
  induction n with
  | zero => exact fun s hs => hs
  | succ n ih => exact fun s hs => ih _ (hclose s hs)

theorem closeFrame_keeps {inv : State → Prop} (hclose : Keeps inv slotDeadline) : Keeps inv closeFrame := fun s =>
  closeTimes_keeps hclose _ s

theorem tasks_keep {inv : State → Prop} (htask : ∀ t, Keeps inv (runTask t)) (order : List BoundaryTask) :
    Keeps inv (fun s => order.foldl (fun s t => runTask t s) s) := by
  induction order with
  | nil => exact fun s hs => hs
  | cons t order ih => exact fun s hs => ih _ (htask t s hs)

/-- A boundary keeps an invariant that the closing of a slot, each unit's work, the flips, a start on air and the new
frame keep. -/
theorem sweepBoundary_keeps {ds : List Part} {inv : State → Prop} (h : DependsOn ds inv)
    (apart : meets ds [.image, .lines, .captureDue, .number, .rate] = false) (hclose : Keeps inv slotDeadline)
    (htask : ∀ t, Keeps inv (runTask t)) (hflip : Keeps inv exchangeFlips) (hstart : Keeps inv startOnAir)
    (hframe : Keeps inv startFrame) (order : List BoundaryTask) (hold : Bool) :
    Keeps inv (sweepBoundary order hold) := fun s hs => by
  have aside {s t : State} {ps : List Part} (hst : Within ps s t)
      (sub : ∀ p ∈ ps, p ∈ [.image, .lines, .captureDue, .number, .rate]) (hs : inv s) : inv t :=
    h.kept (hst.mono sub) apart hs
  have closed := closeFrame_keeps hclose _ (aside (captureIfDue_within s) (by decide) hs)
  have numbered := aside (nextNumber_within _) (by decide) closed
  have worked := hstart _ (hflip _ (tasks_keep htask (taskOrder order) _ numbered))
  have started := hframe _ (aside (setRate_within _) (by decide) worked)
  exact aside (boundaryCapture_within hold _) (by decide) started

/-- A timebase event keeps an invariant that each of its timers keeps. -/
theorem timebaseStep_keeps {ds : List Part} {inv : State → Prop} (h : DependsOn ds inv)
    (apart : meets ds [.initCount] = false) (hclocks : Keeps inv stepClocks) (hgap : Keeps inv stepGap)
    (hwatchdog : Keeps inv stepWatchdog) (hidle : Keeps inv stepIdle) (hchase : Keeps inv stepChase)
    (hgather : Keeps inv stepGather) (hdebounce : Keeps inv stepDebounce) (hheat : Keeps inv stepHeat) :
    Keeps inv timebaseStep := fun s hs => by
  unfold timebaseStep
  split
  · exact h.kept (ps := [.initCount]) (.of_merge rfl) apart hs
  · exact hheat _ (hdebounce _ (hgather _ (hchase _ (hidle _ (hwatchdog _ (hgap _ (hclocks s hs)))))))

/-- A layout's application keeps an invariant that its parts keep. -/
theorem applyLayout_keeps {ds : List Part} {inv : State → Prop} (h : DependsOn ds inv) (apart : meets ds [.lane] = false)
    (hinstall : ∀ l, Keeps inv (installZones l)) (hreplay : ∀ b, Keeps inv (replayRelayout b))
    (hmessage : ∀ old new, Keeps inv (messageRelayout old new)) (hwatch : Keeps inv rebuildWatch) :
    Keeps inv applyLayout := fun s hs => by
  unfold applyLayout
  split
  · exact h.kept (settleLong_within _ _ _) apart (hwatch _ (hmessage _ _ _ (hreplay _ _ (hinstall _ s hs))))
  · exact hs

/-! ### Resets -/

theorem coldReset_keeps {ds : List Part} {inv : State → Prop} (h : DependsOn ds inv)
    (apart : meets ds [.pins, .bypass, .initCount, .turn, .port] = false) (hcold : Keeps inv coldUnits) :
    Keeps inv coldReset := fun s hs =>
  h.kept (ps := [.pins, .bypass, .initCount, .turn, .port]) (s := coldUnits s) (.of_merge rfl) apart (hcold s hs)

theorem initialisationComplete_keeps {ds : List Part} {inv : State → Prop} (h : DependsOn ds inv)
    (apart : meets ds [.bypass, .initCount, .segment] = false) (hcold : Keeps inv coldUnits)
    (hsample : Keeps inv sampleLines) (straps : BitVec 4) : Keeps inv (initialisationComplete straps) := fun s hs => by
  unfold initialisationComplete
  split
  · split
    · exact hsample _ (h.kept (ps := [.bypass, .initCount, .segment]) (s := coldUnits s) (.of_merge rfl) apart (hcold s hs))
    · exact hs
  · exact hs

theorem sampleLines_within (s : State) : Within [.debounce, .thermalState, .warm, .cool] s (sampleLines s) := by
  refine .of_merge ?_
  unfold sampleLines
  rw [heatFound_frame]
  rfl

/-! ### The Alert Unit -/

/-- What an invariant must keep for the Alert Unit to keep it: a change among the states other than ON_AIR, the entry to
ON_AIR, and the release. -/
structure AlertKeeps (ds : List Part) (inv : State → Prop) : Prop where
  dependsOn : DependsOn ds inv
  apart : meets ds [.latch, .debounce, .raised] = false
  offAir : ∀ s x, s.alert.state ≠ .onAir → x.state ≠ .onAir → x.chosen = s.alert.chosen → inv s →
    inv { s with alert := x }
  entry : Keeps inv alertEntry
  release : Keeps inv releaseAlert

section
variable {ds : List Part} {inv : State → Prop}

theorem AlertKeeps.aside (h : AlertKeeps ds inv) {s t : State} {ps : List Part} (hst : Within ps s t)
    (sub : ∀ p ∈ ps, p ∈ [.latch, .debounce, .raised]) (hs : inv s) : inv t :=
  h.dependsOn.kept (hst.mono sub) h.apart hs

theorem AlertKeeps.alertSource (h : AlertKeeps ds inv) : Keeps inv alertSource := fun s hs => by
  unfold Machine.alertSource
  split
  case h_1 hquiet => exact h.offAir _ _ (by rw [hquiet]; decide) nofun rfl hs
  case h_2 => exact hs
  case h_3 => exact hs
  case h_4 => exact h.entry s hs

theorem AlertKeeps.alertWork (h : AlertKeeps ds inv) (apart : meets ds [.flag .alertCleared] = false) :
    Keeps inv alertWork := fun s hs => by
  unfold Machine.alertWork
  split
  case h_1 => exact h.entry s hs
  case h_2 hreleasing =>
    exact h.dependsOn.kept (raise_within .alertCleared _) apart
      (h.offAir _ _ (by rw [hreleasing]; decide) nofun rfl hs)
  case h_3 => exact hs
  case h_4 => exact hs

theorem AlertKeeps.alertClear (h : AlertKeeps ds inv) : Keeps inv (fun s => (alertClear s).state) := fun s hs => by
  dsimp only [Machine.alertClear]
  split
  case h_1 => exact hs
  case h_2 hengaging =>
    split
    · exact hs
    · exact h.offAir _ _ (by rw [hengaging]; decide) nofun rfl hs
  case h_3 =>
    split
    · exact hs
    · exact h.release s hs
  case h_4 => split <;> exact hs

theorem AlertKeeps.alertRaise (h : AlertKeeps ds inv) (a : Nat) : Keeps inv (fun s => (alertRaise a s).state) :=
  fun s hs => by
    dsimp only [Machine.alertRaise]
    split
    · exact hs
    · split
      · exact hs
      · split
        · exact hs
        · exact h.alertSource _ (h.aside (ps := [.raised]) (.of_merge rfl) (by decide) hs)

theorem AlertKeeps.setLatch (h : AlertKeeps ds inv) : Keeps inv setLatch := fun _ hs =>
  h.alertSource _ (h.aside (ps := [.latch, .debounce]) (.of_merge rfl) (by decide) hs)

theorem AlertKeeps.venueFoundAsserted (h : AlertKeeps ds inv) : Keeps inv venueFoundAsserted := fun s hs => by
  unfold Machine.venueFoundAsserted
  split
  · exact hs
  · split
    · exact h.setLatch s hs
    · split
      · exact hs
      · exact h.aside (ps := [.debounce]) (.of_merge rfl) (by decide) hs

theorem AlertKeeps.venueAsserts (h : AlertKeeps ds inv) (apart : meets ds [.pins] = false) : Keeps inv venueAsserts :=
  fun _ hs => h.venueFoundAsserted _ (h.dependsOn.kept (ps := [.pins]) (.of_merge rfl) apart hs)

theorem AlertKeeps.stepDebounce (h : AlertKeeps ds inv) : Keeps inv stepDebounce := fun s hs => by
  unfold Machine.stepDebounce
  split
  · split
    · split
      · exact h.setLatch s hs
      · exact h.aside (ps := [.debounce]) (.of_merge rfl) (by decide) hs
    · exact h.venueFoundAsserted s hs
  · exact hs

theorem AlertKeeps.expireDebounce (h : AlertKeeps ds inv) : Keeps inv expireDebounce := fun s hs => by
  unfold Machine.expireDebounce
  split
  · split
    · exact h.stepDebounce s hs
    · exact hs
  · exact hs

/-- A line that keeps its level alone in bypass. -/
theorem levelOr_keeps (h : DependsOn ds inv) (apart : meets ds [.pins] = false) {f : State → State}
    (hf : Keeps inv f) (x : State → Pins) : Keeps inv (fun s => if s.bypass then { s with pins := x s } else f s) :=
  fun s hs => by
    dsimp only
    split
    · exact h.kept (ps := [.pins]) (.of_merge rfl) apart hs
    · exact hf s hs

end

/-! ### The close of a slot -/

theorem closeSlot_keeps {ds : List Part} {inv : State → Prop} (h : DependsOn ds inv)
    (apart : meets ds [.flag .zoneUnderrun, .link, .receivers] = false) {before : List Slot} {x : Slot} {after : List Slot}
    (hrecord : Keeps inv (recordClose before x after)) (hreport : ∀ r, Keeps inv (reportSlot r)) :
    Keeps inv (closeSlot before x after) := fun s hs => by
  have aside {s t : State} {ps : List Part} (hst : Within ps s t)
      (sub : ∀ p ∈ ps, p ∈ [.flag .zoneUnderrun, .link, .receivers]) (hs : inv s) : inv t :=
    h.kept (hst.mono sub) apart hs
  have raised := aside (raiseIf_within (underruns x) .zoneUnderrun _) (by decide) (hrecord s hs)
  have sent : inv (sendClosed (closing x (zoneHolds x.zone.id s)) x
      (raiseIf (underruns x) .zoneUnderrun (recordClose before x after s))) := by
    unfold sendClosed
    split
    · exact raised
    · exact aside (sendItem_within _ _) (by decide) raised
  rw [closeSlot_eq]
  unfold takeReportOf
  split
  · exact hreport _ _ sent
  · exact sent

/-- A deadline keeps an invariant that the record of a closed slot and its report keep. -/
theorem slotDeadline_keeps {ds : List Part} {inv : State → Prop} (h : DependsOn ds inv)
    (apart : meets ds [.flag .zoneUnderrun, .link, .receivers, .frame, .port] = false)
    (hrecord : ∀ before x after, Keeps inv (recordClose before x after)) (hreport : ∀ r, Keeps inv (reportSlot r)) :
    Keeps inv slotDeadline := fun s hs => by
  unfold slotDeadline
  split
  · exact hs
  · split
    · exact closeSlot_keeps h (meets_mono apart (by decide)) (hrecord _ _ _) hreport s hs
    · exact hs
  · split
    · exact hs
    · exact h.kept ((closeAlert_within _ s).mono (by decide)) apart hs

end Sys2Proof.Proofs
end

section
/-! PROOFS. Values in range (R18, R65, R69), the effective duty as its table gives it (R178), and latches covered (R61). -/

namespace Sys2Proof.Proofs

open Sys2Proof.Machine Sys2Proof.Safety

/-! ### Clocks (R69) -/

/-- Both clocks are in range. -/
def ClocksInRange (s : State) : Prop := ∀ k, ClockInRange (clockCeiling k) (clockOf k s)

theorem clocksInRange_dependsOn : DependsOn [.game, .secondary] ClocksInRange := fun s t h hs k => by
  have hk : clockOf k t = clockOf k s := by
    cases k
    · exact h .game (by decide)
    · exact h .secondary (by decide)
  rw [hk]
  exact hs k

theorem clocksInRange_of_eq {s : State} {g c : Clock} (hg : ClockInRange Config.gameCeiling g)
    (hc : ClockInRange Config.secondaryCeiling c) (hgame : s.clock.game = g) (hsecondary : s.clock.secondary = c) :
    ClocksInRange s := by
  intro k
  cases k
  · change ClockInRange _ s.clock.game
    rw [hgame]
    exact hg
  · change ClockInRange _ s.clock.secondary
    rw [hsecondary]
    exact hc

theorem stopped_inRange {ceiling v : Nat} {dir : Direction} {running : Bool} (h : v ≤ ceiling) :
    ClockInRange ceiling { value := v, running := running, direction := dir, slew := 0, slewPhase := 0 } :=
  ⟨h, by norm_num, by norm_num, Nat.zero_le _, fun _ => ⟨rfl, rfl⟩⟩

theorem slewStep_inRange {c : Clock} {p a b : Nat} (hlo : -249 ≤ c.slew) (hhi : c.slew ≤ 249) :
    -249 ≤ (slewStep c p a b).2 ∧ (slewStep c p a b).2 ≤ 249 := by
  unfold slewStep
  split
  · exact ⟨by omega, by omega⟩
  · split
    · exact ⟨by omega, by omega⟩
    · exact ⟨hlo, hhi⟩

theorem stepClock_inRange {ceiling : Nat} {c : Clock} (h : ClockInRange ceiling c) :
    ClockInRange ceiling (stepClock ceiling c).1 := by
  obtain ⟨hvalue, hlo, hhi, hphase, hstopped⟩ := h
  have hp : (c.slewPhase + 1) % 10 ≤ 9 := by omega
  unfold stepClock
  split
  · exact ⟨hvalue, hlo, hhi, hphase, hstopped⟩
  case isFalse hruns =>
    have hrunning : c.running = true := by simpa using hruns
    have still : c.running = false → False := by simp [hrunning]
    cases c.direction <;> dsimp only
    · have hslew := slewStep_inRange (p := (c.slewPhase + 1) % 10) (a := 0) (b := 2) hlo hhi
      split
      · exact stopped_inRange (Nat.zero_le _)
      · exact ⟨le_trans (Nat.sub_le _ _) hvalue, hslew.1, hslew.2, hp, fun hr => (still hr).elim⟩
    · have hslew := slewStep_inRange (p := (c.slewPhase + 1) % 10) (a := 2) (b := 0) hlo hhi
      split
      · exact stopped_inRange le_rfl
      · rename_i hbelow
        exact ⟨(not_le.mp hbelow).le, hslew.1, hslew.2, hp, fun hr => (still hr).elim⟩

/-- A beacon that does not snap a clock leaves a remainder of 249 or less. -/
theorem discipline_inRange {ceiling v : Nat} {c : Clock} (found : ConsoleState) (running : Bool) (dir : Direction)
    (hv : v ≤ ceiling) (h : ClockInRange ceiling c) : ClockInRange ceiling (discipline found v running dir c) := by
  obtain ⟨hvalue, _, _, hphase, _⟩ := h
  unfold discipline
  split
  · exact stopped_inRange hv
  case isFalse hsnap =>
    simp only [snaps, largeError, Bool.or_eq_true, not_or, decide_eq_true_eq, not_le, Bool.not_eq_true,
      Bool.not_eq_false'] at hsnap
    obtain ⟨⟨⟨_, hrunning⟩, _⟩, herror⟩ := hsnap
    rw [abs_lt] at herror
    refine ⟨hvalue, ?_, ?_, hphase, fun hr => absurd hr (by simp [hrunning])⟩
    · change -249 ≤ (v : Int) - c.value
      omega
    · change (v : Int) - c.value ≤ 249
      omega

theorem handStrings_keepsClocks {s : State} (h : ClocksInRange s) : ClocksInRange (handStrings s) :=
  clocksInRange_dependsOn.kept (handStrings_within s) (by decide) h

theorem stepClocks_keepsClocks : Keeps ClocksInRange stepClocks := fun s hs => by
  refine handStrings_keepsClocks (clocksInRange_dependsOn.kept (raiseIf_within _ .clockExpired _) (by decide) ?_)
  exact clocksInRange_of_eq (stepClock_inRange (hs .game)) (stepClock_inRange (hs .secondary)) rfl rfl

theorem setClock_keepsClocks {k : ClockId} {c : Clock} (h : ClockInRange (clockCeiling k) c) :
    Keeps ClocksInRange (setClock k c) := fun s hs => by
  cases k
  · exact clocksInRange_of_eq h (hs .secondary) rfl rfl
  · exact clocksInRange_of_eq (hs .game) h rfl rfl

theorem expireClock_keepsClocks (k : ClockId) : Keeps ClocksInRange (expireClock k) := fun s hs => by
  unfold expireClock
  have hstep := stepClock_inRange (hs k)
  split
  rename_i c expired heq
  rw [heq] at hstep
  split
  · exact handStrings_keepsClocks
      (clocksInRange_dependsOn.kept (raise_within .clockExpired _) (by decide) (setClock_keepsClocks hstep s hs))
  · exact hs

theorem takeBeacon_keepsClocks (p : BeaconPayload) : Keeps ClocksInRange (takeBeacon p) := fun s hs => by
  unfold takeBeacon
  split
  · exact hs
  · refine handStrings_keepsClocks (clocksInRange_dependsOn.kept (raiseIf_within _ .clockSnap _) (by decide) ?_)
    exact clocksInRange_of_eq (discipline_inRange _ _ _ (min_le_right _ _) (hs .game))
      (discipline_inRange _ _ _ (min_le_right _ _) (hs .secondary)) rfl rfl

theorem clockSet_keepsClocks (o : ClockSetOperand) : Keeps ClocksInRange (fun s => (clockSet o s).state) := fun s hs => by
  dsimp only [clockSet]
  split
  · exact handStrings_keepsClocks
      (clocksInRange_of_eq (stopped_inRange (min_le_right _ _)) (stopped_inRange (min_le_right _ _)) rfl rfl)
  · exact hs

theorem houseControl_keepsClocks (run : Bool) (b : Byte) : Keeps ClocksInRange (fun s => (houseControl run b s).state) :=
  fun s hs => by
    dsimp only [houseControl]
    split
    · exact hs
    · split
      · exact hs
      · split
        · exact hs
        · exact setClock_keepsClocks (stopped_inRange (hs _).1) s hs

theorem coldClock_inRange (ceiling : Nat) : ClockInRange ceiling coldClock := stopped_inRange (Nat.zero_le _)

theorem takeByte_keeps {ds : List Part} {inv : State → Prop} (h : DependsOn ds inv)
    (apart : meets ds [.receiver] = false) (hbeacon : ∀ p, Keeps inv (takeBeacon p))
    (hscore : ∀ p, Keeps inv (writeScores p)) (b : Byte) (e : Bool) : Keeps inv (takeByte b e) := fun s hs => by
  unfold takeByte
  have taken (r : LineReceiver) : inv { s with clock.receiver := r } :=
    h.kept (ps := [.receiver]) (.of_merge rfl) apart hs
  dsimp only
  generalize (if e = true then dropFrame else assemble b s.clock.receiver) = o
  split
  · rename_i k bytes _
    cases k with
    | beacon => exact hbeacon _ _ (taken _)
    | score => exact hscore _ _ (taken _)
  · exact taken _

theorem clocksInRange_keptByStep : KeptByStep ClocksInRange := by
  have h := clocksInRange_dependsOn
  have cold (s : State) : ClocksInRange (coldUnits s) :=
    clocksInRange_of_eq (coldClock_inRange _) (coldClock_inRange _) rfl rfl
  have short {owner : State → PostOutcome} (tag : Half) (code : Byte)
      (howner : Keeps ClocksInRange (fun s => (owner s).state)) :
      Keeps ClocksInRange (outOfBypass (shortCue tag code owner)) :=
    outOfBypass_keeps_of (shortCue_keeps h (by decide) howner tag code)
  refine h.keptByUnits (by decide) (by decide) (fun n d m => h.keeps (forwardWrite_within n d m) (by decide)) ?_
  intro i hgrant hmeets
  cases i
  case mportGrant => exact (hgrant rfl).elim
  case coldReset => exact coldReset_keeps h (by decide) (fun s _ => cold s)
  case initialisationComplete straps =>
    exact initialisationComplete_keeps h (by decide) (fun s _ => cold s) (h.keeps sampleLines_within (by decide)) straps
  case clockTimebaseStep =>
    exact timebaseStep_keeps h (by decide) stepClocks_keepsClocks (h.keeps stepGap_within (by decide))
      (h.keeps stepWatchdog_within (by decide)) (h.keeps stepIdle_within (by decide))
      (h.keeps stepChase_within (by decide)) (h.keeps stepGather_within (by decide))
      (h.keeps stepDebounce_within (by decide)) (h.keeps stepHeat_within (by decide))
  case clockExpiry k => exact outOfBypass_keeps_of (expireClock_keepsClocks k)
  case beacon p => exact outOfBypass_keeps_of (takeBeacon_keepsClocks p)
  case timingLineByte b e =>
    exact outOfBypass_keeps_of (takeByte_keeps h (by decide) takeBeacon_keepsClocks
      (fun p => h.keeps (writeScores_within p) (by decide)) b e)
  case clockSet tag op => exact short tag 0x70 (clockSet_keepsClocks op)
  case clockRun tag c => exact short tag 0x71 (houseControl_keepsClocks true c)
  case clockStop tag c => exact short tag 0x72 (houseControl_keepsClocks false c)
  case restart tag =>
    exact outOfBypass_keeps_of (cueRestart_keeps h (by decide) (h.keeps endLong_within (by decide))
      (fun s _ => clocksInRange_of_eq (coldClock_inRange _) (coldClock_inRange _) rfl rfl) tag)
  all_goals exact (Bool.false_ne_true hmeets).elim

/-! ### Period and scores (R65) -/

def PeriodInRange (s : State) : Prop := 1 ≤ s.clock.period ∧ s.clock.period ≤ 15

theorem periodInRange_dependsOn : DependsOn [.period] PeriodInRange := fun s t h hs => by
  have hp : t.clock.period = s.clock.period := h .period (by decide)
  rw [PeriodInRange, hp]
  exact hs

theorem clampPeriod_inRange (v : Nat) : 1 ≤ clampPeriod v ∧ clampPeriod v ≤ 15 := by
  unfold clampPeriod
  rw [show Config.periodMax = 15 from rfl]
  split <;> omega

theorem period_one {s : State} (h : s.clock.period = 1) : PeriodInRange s := by
  rw [PeriodInRange, h]
  decide

theorem takeBeacon_keepsPeriod (p : BeaconPayload) : Keeps PeriodInRange (takeBeacon p) := fun s hs => by
  have h := periodInRange_dependsOn
  unfold takeBeacon
  split
  · exact hs
  · exact h.kept (handStrings_within _) (by decide)
      (h.kept (raiseIf_within _ .clockSnap _) (by decide) (clampPeriod_inRange _))

theorem clockSet_keepsPeriod (o : ClockSetOperand) : Keeps PeriodInRange (fun s => (clockSet o s).state) := fun s hs => by
  dsimp only [clockSet]
  split
  · exact periodInRange_dependsOn.kept (handStrings_within _) (by decide) (clampPeriod_inRange _)
  · exact hs

theorem periodInRange_keptByStep : KeptByStep PeriodInRange := by
  have h := periodInRange_dependsOn
  have cold : Keeps PeriodInRange coldUnits := fun s _ => period_one rfl
  refine h.keptByUnits (by decide) (by decide) (fun n d m => h.keeps (forwardWrite_within n d m) (by decide)) ?_
  intro i hgrant hmeets
  cases i
  case mportGrant => exact (hgrant rfl).elim
  case coldReset => exact coldReset_keeps h (by decide) cold
  case initialisationComplete straps =>
    exact initialisationComplete_keeps h (by decide) cold (h.keeps sampleLines_within (by decide)) straps
  case beacon p => exact outOfBypass_keeps_of (takeBeacon_keepsPeriod p)
  case timingLineByte b e =>
    exact outOfBypass_keeps_of (takeByte_keeps h (by decide) takeBeacon_keepsPeriod
      (fun p => h.keeps (writeScores_within p) (by decide)) b e)
  case clockSet tag op => exact outOfBypass_keeps_of (shortCue_keeps h (by decide) (clockSet_keepsPeriod op) tag 0x70)
  case restart tag =>
    exact outOfBypass_keeps_of (cueRestart_keeps h (by decide) (h.keeps endLong_within (by decide))
      (fun s _ => period_one rfl) tag)
  all_goals exact (Bool.false_ne_true hmeets).elim

def ScoresInRange (s : State) : Prop :=
  s.figures.home ≤ 999 ∧ s.figures.guest ≤ 999 ∧ s.figures.homeAux ≤ 99 ∧ s.figures.guestAux ≤ 99

theorem scoresInRange_dependsOn : DependsOn [.home, .guest, .homeAux, .guestAux] ScoresInRange := fun s t h hs => by
  have hhome : t.figures.home = s.figures.home := h .home (by decide)
  have hguest : t.figures.guest = s.figures.guest := h .guest (by decide)
  have hhomeAux : t.figures.homeAux = s.figures.homeAux := h .homeAux (by decide)
  have hguestAux : t.figures.guestAux = s.figures.guestAux := h .guestAux (by decide)
  rw [ScoresInRange, hhome, hguest, hhomeAux, hguestAux]
  exact hs

theorem writeScores_keepsScores (p : ScorePayload) : Keeps ScoresInRange (writeScores p) := fun s _ => by
  have h := scoresInRange_dependsOn
  unfold writeScores
  have written : ScoresInRange { s with
      figures.home := clampScore p.home.toNat
      figures.guest := clampScore p.guest.toNat
      figures.homeAux := clampAux p.homeAux.toNat
      figures.guestAux := clampAux p.guestAux.toNat } :=
    ⟨min_le_right _ _, min_le_right _ _, min_le_right _ _, min_le_right _ _⟩
  have shown := h.kept (refreshStrings_within _) (by decide) written
  dsimp only
  split
  · split
    · exact h.kept (celebrate_within _ _) (by decide) shown
    · exact shown
  · exact shown

theorem scoresInRange_keptByStep : KeptByStep ScoresInRange := by
  have h := scoresInRange_dependsOn
  have cold : Keeps ScoresInRange coldUnits := fun s _ => by refine ⟨?_, ?_, ?_, ?_⟩ <;> exact Nat.zero_le _
  refine h.keptByUnits (by decide) (by decide) (fun n d m => h.keeps (forwardWrite_within n d m) (by decide)) ?_
  intro i hgrant hmeets
  cases i
  case mportGrant => exact (hgrant rfl).elim
  case coldReset => exact coldReset_keeps h (by decide) cold
  case initialisationComplete straps =>
    exact initialisationComplete_keeps h (by decide) cold (h.keeps sampleLines_within (by decide)) straps
  case scoreFrame p => exact outOfBypass_keeps_of (writeScores_keepsScores p)
  case timingLineByte b e =>
    exact outOfBypass_keeps_of (takeByte_keeps h (by decide) (fun p => h.keeps (takeBeacon_within p) (by decide))
      writeScores_keepsScores b e)
  case scoreSet tag op =>
    exact outOfBypass_keeps_of (shortCue_keeps h (by decide) (writeScores_keepsScores op) tag 0x73)
  case restart tag =>
    exact outOfBypass_keeps_of (cueRestart_keeps h (by decide) (h.keeps endLong_within (by decide))
      (fun s _ => by refine ⟨?_, ?_, ?_, ?_⟩ <;> exact Nat.zero_le _) tag)
  all_goals exact (Bool.false_ne_true hmeets).elim

/-! ### Underrun counts (R18) -/

def UnderrunsInRange (s : State) : Prop := ∀ n ∈ s.sweep.zones.map (·.underruns), n ≤ 65535

theorem underrunsInRange_dependsOn : DependsOn [.underruns] UnderrunsInRange := fun s t h hs => by
  have hu : t.sweep.zones.map (·.underruns) = s.sweep.zones.map (·.underruns) := h .underruns (by decide)
  rw [UnderrunsInRange, hu]
  exact hs

theorem closeZone_underruns (d : Disposition) (under : Bool) (x : Slot) (z : Zone) :
    (closeZone d under x z).underruns = if under then saturate Config.underrunMax z.underruns else z.underruns := by
  cases d <;> rfl

theorem recordClose_keepsUnderruns (before : List Slot) (x : Slot) (after : List Slot) :
    Keeps UnderrunsInRange (recordClose before x after) := fun s hs n hn => by
  simp only [recordClose, List.map_map, List.mem_map, Function.comp_apply] at hn
  obtain ⟨z, hz, rfl⟩ := hn
  have hle : z.underruns ≤ 65535 := hs _ (List.mem_map_of_mem hz)
  split
  · rw [closeZone_underruns]
    split
    · exact min_le_right _ _
    · exact hle
  · exact hle

theorem slotDeadline_keepsUnderruns : Keeps UnderrunsInRange slotDeadline :=
  slotDeadline_keeps underrunsInRange_dependsOn (by decide) recordClose_keepsUnderruns
    (fun r => underrunsInRange_dependsOn.keeps (reportSlot_within r) (by decide))

/-- R7: a kept zone keeps its count, and a fresh one starts at 0. -/
theorem applyZone_underruns {s : State} (hs : UnderrunsInRange s) (hd : ScreenHeader) (z : ZoneRec) :
    (applyZone s hd z).underruns ≤ 65535 := by
  unfold applyZone
  split
  · rename_i o hkept
    unfold keptZone at hkept
    split at hkept
    · have hmem : o ∈ s.sweep.zones := List.mem_of_find?_eq_some hkept
      exact hs o.underruns (List.mem_map_of_mem hmem)
    · cases hkept
  · exact Nat.zero_le _

theorem installZones_keepsUnderruns (l : Layout) : Keeps UnderrunsInRange (installZones l) := fun s hs n hn => by
  simp only [installZones, List.map_map, List.mem_map, Function.comp_apply] at hn
  obtain ⟨z, _, rfl⟩ := hn
  exact applyZone_underruns hs _ _

theorem applyLayout_keepsUnderruns : Keeps UnderrunsInRange applyLayout :=
  have h := underrunsInRange_dependsOn
  applyLayout_keeps h (by decide) installZones_keepsUnderruns (fun b => h.keeps (replayRelayout_within b) (by decide))
    (fun o n => h.keeps (messageRelayout_within o n) (by decide)) (h.keeps rebuildWatch_within (by decide))

theorem underrunsInRange_keptByStep : KeptByStep UnderrunsInRange := by
  have h := underrunsInRange_dependsOn
  have none_left {s : State} (hz : s.sweep.zones = []) : UnderrunsInRange s := by simp [UnderrunsInRange, hz]
  refine h.keptByUnits (by decide) (by decide) (fun n d m => h.keeps (forwardWrite_within n d m) (by decide)) ?_
  intro i hgrant hmeets
  cases i
  case mportGrant => exact (hgrant rfl).elim
  case coldReset => exact coldReset_keeps h (by decide) (fun s _ => none_left rfl)
  case initialisationComplete straps =>
    exact initialisationComplete_keeps h (by decide) (fun s _ => none_left rfl) (h.keeps sampleLines_within (by decide)) straps
  case slotDeadline => exact outOfBypass_keeps_of slotDeadline_keepsUnderruns
  case sweepBoundary order hold =>
    refine outOfBypass_keeps_of (sweepBoundary_keeps h (by decide) slotDeadline_keepsUnderruns (fun t => ?_)
      (h.keeps exchangeFlips_within (by decide)) (h.keeps startOnAir_within (by decide))
      (h.keeps startFrame_within (by decide)) order hold)
    cases t
    case layout => exact applyLayout_keepsUnderruns
    case alert => exact h.keeps alertWork_within (by decide)
    case replay => exact h.keeps replayWork_within (by decide)
    case rotation => exact h.keeps rotationWork_within (by decide)
    case message => exact h.keeps messageWork_within (by decide)
  case restart tag =>
    exact outOfBypass_keeps_of (cueRestart_keeps h (by decide) (h.keeps endLong_within (by decide))
      (fun s _ => none_left rfl) tag)
  all_goals exact (Bool.false_ne_true hmeets).elim

/-! ### The effective duty (R178) -/

theorem dutyAsTable_iff (s : State) : DutyAsTable s ↔ s.brightness.effective = dutyOf s.brightness (alertOnAir s) := by
  rw [dutyOf_alertOnAir, DutyAsTable]
  cases s.brightness.state <;> simp

theorem dutyAsTable_dependsOn :
    DependsOn [.alertState, .requested, .thermal, .thermalState, .effective] DutyAsTable := fun s t h hs => by
  have hstate : t.alert.state = s.alert.state := h .alertState (by decide)
  have hrequested : t.brightness.requested = s.brightness.requested := h .requested (by decide)
  have hthermal : t.brightness.thermal = s.brightness.thermal := h .thermal (by decide)
  have hboard : t.brightness.state = s.brightness.state := h .thermalState (by decide)
  have heffective : t.brightness.effective = s.brightness.effective := h .effective (by decide)
  rw [DutyAsTable, hstate, hrequested, hthermal, hboard, heffective]
  exact hs

/-- Every recomputation gives the table's duty. -/
theorem recomputeDuty_asTable (s : State) : DutyAsTable (recomputeDuty s) := (dutyAsTable_iff _).2 rfl

/-- The table tells no other alert state from another. -/
theorem dutyAsTable_alertKeeps :
    AlertKeeps [.alertState, .requested, .thermal, .thermalState, .effective] DutyAsTable where
  dependsOn := dutyAsTable_dependsOn
  apart := by decide
  offAir := fun s x h hx _ hs => by
    simp only [DutyAsTable, if_neg h, if_neg hx] at hs ⊢
    exact hs
  entry := fun _ _ => dutyAsTable_dependsOn.kept (rebuildWatch_within _) (by decide) (recomputeDuty_asTable _)
  release := fun _ _ => dutyAsTable_dependsOn.kept (rebuildWatch_within _) (by decide)
    (dutyAsTable_dependsOn.kept (settleAir_within false _) (by decide) (recomputeDuty_asTable _))

theorem stepWarm_keepsDuty : Keeps DutyAsTable stepWarm := fun s hs => by
  unfold stepWarm
  split
  · split
    · exact recomputeDuty_asTable _
    · exact dutyAsTable_dependsOn.kept (ps := [.warm]) (.of_merge rfl) (by decide) hs
  · exact hs

theorem stepCool_keepsDuty : Keeps DutyAsTable stepCool := fun s hs => by
  unfold stepCool
  split
  · split
    · exact recomputeDuty_asTable _
    · exact dutyAsTable_dependsOn.kept (ps := [.cool]) (.of_merge rfl) (by decide) hs
  · exact hs

theorem stepHeat_keepsDuty : Keeps DutyAsTable stepHeat := fun s hs => by
  unfold stepHeat
  split
  · exact recomputeDuty_asTable _
  · exact stepCool_keepsDuty _ (stepWarm_keepsDuty s hs)

theorem expireWarm_keepsDuty : Keeps DutyAsTable expireWarm := fun s hs => by
  unfold expireWarm
  split
  · split
    · exact stepWarm_keepsDuty s hs
    · exact hs
  · exact hs

theorem expireCool_keepsDuty : Keeps DutyAsTable expireCool := fun s hs => by
  unfold expireCool
  split
  · split
    · exact stepCool_keepsDuty s hs
    · exact hs
  · exact hs

theorem brightnessSet_keepsDuty (r t : Byte) : Keeps DutyAsTable (fun s => (brightnessSet r t s).state) := fun s hs => by
  dsimp only [brightnessSet]
  split
  · exact hs
  · exact recomputeDuty_asTable _

/-- R177: what the heat line is found at changes neither the duties nor whether the cabinet limits the board. -/
theorem dutyOf_heatFound (x : Bool) (b : BrightnessGovernor) (onAir : Bool) :
    dutyOf (heatFound x b) onAir = dutyOf b onAir := by
  obtain ⟨_, _, _, state, _, _, _⟩ := b
  cases x <;> cases state <;> rfl

theorem sampleLines_keepsDuty : Keeps DutyAsTable sampleLines := fun s hs => by
  rw [dutyAsTable_iff] at hs ⊢
  have heffective : (sampleLines s).brightness.effective = s.brightness.effective :=
    sampleLines_within s .effective (by decide)
  rw [heffective, hs]
  exact (dutyOf_heatFound s.pins.heat s.brightness (alertOnAir s)).symm

theorem restartUnits_asTable (s : State) : DutyAsTable (restartUnits s) := (dutyAsTable_iff _).2 rfl

theorem dutyAsTable_keptByStep : KeptByStep DutyAsTable := by
  have alerts := dutyAsTable_alertKeeps
  have h := dutyAsTable_dependsOn
  have short {owner : State → PostOutcome} (tag : Half) (code : Byte)
      (howner : Keeps DutyAsTable (fun s => (owner s).state)) : Keeps DutyAsTable (outOfBypass (shortCue tag code owner)) :=
    outOfBypass_keeps_of (shortCue_keeps h (by decide) howner tag code)
  refine h.keptByUnits (by decide) (by decide) (fun n d m => h.keeps (forwardWrite_within n d m) (by decide)) ?_
  intro i hgrant hmeets
  cases i
  case mportGrant => exact (hgrant rfl).elim
  case coldReset => exact coldReset_keeps h (by decide) (fun s _ => (dutyAsTable_iff _).2 rfl)
  case initialisationComplete straps =>
    exact initialisationComplete_keeps h (by decide) (fun s _ => (dutyAsTable_iff _).2 rfl) sampleLines_keepsDuty straps
  case sweepBoundary order hold =>
    refine outOfBypass_keeps_of (sweepBoundary_keeps h (by decide) (h.keeps slotDeadline_within (by decide)) (fun t => ?_)
      (h.keeps exchangeFlips_within (by decide)) (h.keeps startOnAir_within (by decide))
      (h.keeps startFrame_within (by decide)) order hold)
    cases t
    case layout => exact h.keeps applyLayout_within (by decide)
    case alert => exact alerts.alertWork (by decide)
    case replay => exact h.keeps replayWork_within (by decide)
    case rotation => exact h.keeps rotationWork_within (by decide)
    case message => exact h.keeps messageWork_within (by decide)
  case clockTimebaseStep =>
    exact timebaseStep_keeps h (by decide) (h.keeps stepClocks_within (by decide)) (h.keeps stepGap_within (by decide))
      (h.keeps stepWatchdog_within (by decide)) (h.keeps stepIdle_within (by decide))
      (h.keeps stepChase_within (by decide)) (h.keeps stepGather_within (by decide))
      alerts.stepDebounce stepHeat_keepsDuty
  case venueAlertLineAsserted => exact levelOr_keeps h (by decide) (alerts.venueAsserts (by decide)) _
  case debounceExpiry => exact outOfBypass_keeps_of alerts.expireDebounce
  case heatLineAsserted => exact levelOr_keeps h (by decide) (fun s _ => recomputeDuty_asTable _) _
  case heatLineDeasserted => exact levelOr_keeps h (by decide) (fun s _ => recomputeDuty_asTable _) _
  case warmTimerExpiry => exact outOfBypass_keeps_of expireWarm_keepsDuty
  case coolTimerExpiry => exact outOfBypass_keeps_of expireCool_keepsDuty
  case brightnessSet tag r t => exact short tag 0x60 (brightnessSet_keepsDuty r t)
  case alertRaise tag a => exact short tag 0x51 (withAddress_keeps (alerts.alertRaise a.toNat) true a)
  case alertClear tag => exact short tag 0x52 alerts.alertClear
  case restart tag =>
    exact outOfBypass_keeps_of (cueRestart_keeps h (by decide) (h.keeps endLong_within (by decide))
      (fun s _ => restartUnits_asTable s) tag)
  all_goals exact (Bool.false_ne_true hmeets).elim

/-! ### Latches covered (R61) -/

theorem covered_iff {n : Nat} {latches flags mask : BitVec 19} (hn : n < 19) :
    (latches &&& ~~~(flags &&& mask)).getLsbD n = (0 : BitVec 19).getLsbD n ↔
      (latches.getLsbD n = true → flags.getLsbD n = true ∧ mask.getLsbD n = true) := by
  simp only [BitVec.getLsbD_and, BitVec.getLsbD_not, hn, decide_true, Bool.true_and, BitVec.ofNat_eq_ofNat,
    BitVec.getLsbD_zero]
  cases latches.getLsbD n <;> cases flags.getLsbD n <;> cases mask.getLsbD n <;> simp

theorem latchesCovered_iff (s : State) : LatchesCovered s ↔
    ∀ f, latchUp f s = true → flagUp f s = true ∧ s.decoder.mask.getLsbD (flagBit f) = true :=
  ⟨fun h f => (covered_iff (flagBit_lt f)).1 (congrArg (·.getLsbD (flagBit f)) h),
    fun h => flagRegister_ext fun f => (covered_iff (flagBit_lt f)).2 (h f)⟩

/-- Raises set a latch only for a flag that then stands with its mask bit set. -/
theorem latchesCovered_dependsOn : DependsOn [.cleared] LatchesCovered := fun s t h hs => by
  obtain ⟨hmask, hflags⟩ : OnlyRaises s t := h .cleared (by decide)
  rw [latchesCovered_iff] at hs ⊢
  intro f hlatch
  obtain ⟨hmono, hlatches⟩ := hflags f
  rw [hlatches, Bool.or_eq_true] at hlatch
  rw [hmask]
  rcases hlatch with hold | hnew
  · obtain ⟨hflag, hbit⟩ := hs f hold
    exact ⟨hmono hflag, hbit⟩
  · simp only [Bool.and_eq_true] at hnew
    exact ⟨hnew.1.2, hnew.2⟩

theorem clearFlags_keepsCovered (m : BitVec 19) : Keeps LatchesCovered (clearFlags m) := fun s hs => by
  rw [latchesCovered_iff] at hs ⊢
  intro f hlatch
  have hlatch' : s.decoder.latches.getLsbD (flagBit f) = true ∧ (~~~m).getLsbD (flagBit f) = true := by
    rw [← Bool.and_eq_true, ← BitVec.getLsbD_and]
    exact hlatch
  obtain ⟨hflag, hmask⟩ := hs f hlatch'.1
  refine ⟨?_, hmask⟩
  have hflag' : s.status.flags.getLsbD (flagBit f) = true := hflag
  change (s.status.flags &&& ~~~m).getLsbD (flagBit f) = true
  rw [BitVec.getLsbD_and, hflag', hlatch'.2, Bool.and_self]

theorem replaceMask_keepsCovered (m : BitVec 19) : Keeps LatchesCovered (replaceMask m) := fun s hs => by
  rw [latchesCovered_iff] at hs ⊢
  intro f hlatch
  have hlatch' : s.decoder.latches.getLsbD (flagBit f) = true ∧ m.getLsbD (flagBit f) = true := by
    rw [← Bool.and_eq_true, ← BitVec.getLsbD_and]
    exact hlatch
  exact ⟨(hs f hlatch'.1).1, hlatch'.2⟩

theorem onFlags_keeps {inv : State → Prop} {f : BitVec 19 → State → State} (hf : ∀ m, Keeps inv (f m)) (mask : Word) :
    Keeps inv (fun s => (onFlags f mask s).state) := fun s hs => by
  dsimp only [onFlags]
  split
  · exact hf _ s hs
  · exact hs

theorem latchesCovered_of_clear {s : State} (h : s.decoder.latches = 0) : LatchesCovered s := by
  rw [LatchesCovered, h]
  exact BitVec.zero_and

theorem latchesCovered_keptByStep : KeptByStep LatchesCovered := by
  have h := latchesCovered_dependsOn
  have cold : Keeps LatchesCovered coldUnits := fun s _ => latchesCovered_of_clear rfl
  refine h.keptByUnits (by decide) (by decide) (fun n d m => h.keeps (forwardWrite_within n d m) (by decide)) ?_
  intro i hgrant hmeets
  cases i
  case mportGrant => exact (hgrant rfl).elim
  case coldReset => exact coldReset_keeps h (by decide) cold
  case initialisationComplete straps =>
    exact initialisationComplete_keeps h (by decide) cold (h.keeps sampleLines_within (by decide)) straps
  case statusClear tag mask =>
    exact outOfBypass_keeps_of (shortCue_keeps h (by decide) (onFlags_keeps clearFlags_keepsCovered mask) tag 0x80)
  case attentionMask tag mask =>
    exact outOfBypass_keeps_of (shortCue_keeps h (by decide) (onFlags_keeps replaceMask_keepsCovered mask) tag 0x81)
  case restart tag =>
    exact outOfBypass_keeps_of (cueRestart_keeps h (by decide) (h.keeps endLong_within (by decide))
      (fun s _ => latchesCovered_of_clear rfl) tag)
  all_goals exact (Bool.false_ne_true hmeets).elim

/-! ### All of them -/

theorem valuesInRange_iff (s : State) :
    ValuesInRange s ↔ ClocksInRange s ∧ PeriodInRange s ∧ ScoresInRange s ∧ UnderrunsInRange s := by
  have hclocks : ClocksInRange s ↔ ClockInRange 5999000 s.clock.game ∧ ClockInRange 999000 s.clock.secondary :=
    ⟨fun h => ⟨h .game, h .secondary⟩, fun h => clocksInRange_of_eq h.1 h.2 rfl rfl⟩
  simp only [ValuesInRange, hclocks, PeriodInRange, ScoresInRange, UnderrunsInRange, List.forall_mem_map, and_assoc]

/-- Settles O57, value by value. -/
theorem valuesStayInRange : Obligations.ValuesStayInRange := by
  have values : KeptByStep ValuesInRange := by
    rw [funext fun s => propext (valuesInRange_iff s)]
    exact keptByStep_and clocksInRange_keptByStep
      (keptByStep_and periodInRange_keptByStep (keptByStep_and scoresInRange_keptByStep underrunsInRange_keptByStep))
  exact keptByStep_and values (keptByStep_and dutyAsTable_keptByStep latchesCovered_keptByStep)

end Sys2Proof.Proofs
end

section
/-! PROOFS. The exposure table (R143 to R148, R151): what a report, an entry request, and zeroing and purging do to it. -/

namespace Sys2Proof.Proofs

open Sys2Proof.Machine Sys2Proof.Safety

/-- R145, R148: an entry balances, and one that is not frozen has room for one more unit. -/
def EntryBalances (e : ExposureEntry) : Prop :=
  e.credited + e.unshown + e.occluded + e.dimmed = e.scheduled ∧ e.scheduled ≤ 4294967295
    ∧ (e.frozen = false → e.scheduled < 4294967295) ∧ e.moment ≤ 4294967295

/-- R143: a table of balanced entries, at most 64, in ascending order of sponsor ID. -/
structure TableSound (t : List ExposureEntry) : Prop where
  balances : ∀ e ∈ t, EntryBalances e
  bounded : t.length ≤ 64
  ordered : t.Pairwise (fun a b => a.sponsor < b.sponsor)

theorem tableSound_iff (s : State) : TableSound s.exposure.entries ↔ ExposureBalances s ∧ ExposureOrdered s :=
  ⟨fun ⟨hb, hl, ho⟩ => ⟨hb, hl, ho⟩, fun ⟨hb, hl, ho⟩ => ⟨hb, hl, ho⟩⟩

/-- R144: a sponsor ID has an entry; 0 needs none. -/
def Entered (t : List ExposureEntry) (id : Nat) : Prop := id ≠ 0 → hasEntry id t = true

theorem hasEntry_iff (id : Nat) (t : List ExposureEntry) : hasEntry id t = true ↔ ∃ e ∈ t, e.sponsor = id := by
  simp [hasEntry]

theorem hasEntry_iff_mem (id : Nat) (t : List ExposureEntry) : hasEntry id t = true ↔ id ∈ t.map (·.sponsor) := by
  rw [hasEntry_iff, List.mem_map]

/-! ### Entry requests -/

theorem newEntry_balances (id : Nat) : EntryBalances (newEntry id) :=
  ⟨rfl, Nat.zero_le _, fun _ => (by decide : 0 < 4294967295), Nat.zero_le _⟩

theorem insertEntry_perm (e : ExposureEntry) (t : List ExposureEntry) : (insertEntry e t).Perm (e :: t) := by
  induction t with
  | nil => exact .refl _
  | cons x t ih =>
    unfold insertEntry
    split
    · exact .refl _
    · exact (ih.cons x).trans (.swap e x t)

theorem insertEntry_ordered {e : ExposureEntry} {t : List ExposureEntry}
    (ht : t.Pairwise (fun a b => a.sponsor < b.sponsor)) (hnew : ∀ x ∈ t, x.sponsor ≠ e.sponsor) :
    (insertEntry e t).Pairwise (fun a b => a.sponsor < b.sponsor) := by
  induction t with
  | nil => exact List.pairwise_singleton _ _
  | cons x t ih =>
    obtain ⟨hx, hrest⟩ := List.pairwise_cons.1 ht
    unfold insertEntry
    split
    case isTrue hlt =>
      refine List.pairwise_cons.2 ⟨fun y hy => ?_, ht⟩
      rcases List.mem_cons.1 hy with rfl | hy
      · exact hlt
      · exact hlt.trans (hx y hy)
    case isFalse hge =>
      refine List.pairwise_cons.2 ⟨fun y hy => ?_, ih hrest fun y hy => hnew y (List.mem_cons_of_mem x hy)⟩
      rcases List.mem_cons.1 ((insertEntry_perm e t).mem_iff.1 hy) with rfl | hy
      · exact lt_of_le_of_ne (not_lt.1 hge) (hnew x List.mem_cons_self)
      · exact hx y hy

/-- R144: a granted request leaves the table sound, with the entry and every entry before it. -/
theorem requestEntry_sound {id : Nat} {t u : List ExposureEntry} (h : requestEntry id t = some u) (ht : TableSound t) :
    TableSound u := by
  unfold requestEntry at h
  split at h
  · cases h
    exact ht
  case isFalse hnew =>
    split at h
    · cases h
      rename_i hroom
      rw [Bool.not_eq_true, ← Bool.not_eq_true, hasEntry_iff] at hnew
      have hperm := insertEntry_perm (newEntry id) t
      refine ⟨fun e he => ?_, ?_, insertEntry_ordered ht.ordered fun x hx heq => hnew ⟨x, hx, heq⟩⟩
      · rcases List.mem_cons.1 (hperm.mem_iff.1 he) with rfl | he
        · exact newEntry_balances id
        · exact ht.balances e he
      · rw [hperm.length_eq]
        exact hroom
    · cases h

theorem requestEntry_entered {id : Nat} {t u : List ExposureEntry} (h : requestEntry id t = some u) :
    Entered u id ∧ ∀ x, Entered t x → Entered u x := by
  unfold requestEntry at h
  split at h
  · cases h
    rename_i hold
    exact ⟨fun _ => hold, fun _ hx => hx⟩
  · split at h
    · cases h
      have hmem : ∀ e, e ∈ insertEntry (newEntry id) t ↔ e = newEntry id ∨ e ∈ t := fun e => by
        rw [(insertEntry_perm (newEntry id) t).mem_iff, List.mem_cons]
      refine ⟨fun _ => (hasEntry_iff _ _).2 ⟨newEntry id, (hmem _).2 (.inl rfl), rfl⟩, fun x hx h0 => ?_⟩
      obtain ⟨e, he, hid⟩ := (hasEntry_iff _ _).1 (hx h0)
      exact (hasEntry_iff _ _).2 ⟨e, (hmem e).2 (.inr he), hid⟩
    · cases h

/-! ### Slot reports -/

theorem scheduleUnit_balances (u : UnitSettlement) {e : ExposureEntry} (h : EntryBalances e) :
    EntryBalances (scheduleUnit u e) := by
  obtain ⟨hsum, hle, hroom, hmoment⟩ := h
  unfold scheduleUnit
  split
  · exact ⟨hsum, hle, hroom, hmoment⟩
  case isFalse hopen =>
    have hlt : e.scheduled < 4294967295 := hroom (by simpa using hopen)
    refine ⟨?_, hlt, fun hstill => ?_, hmoment⟩
    · cases u <;> simp only [reduceCtorEq, ↓reduceIte] <;> omega
    · have hmax : ¬ Config.countMax ≤ e.scheduled + 1 := by simpa using hstill
      exact not_le.1 hmax

theorem creditMoment_balances {e : ExposureEntry} (h : EntryBalances e) : EntryBalances (creditMoment e) := by
  unfold creditMoment
  split
  · exact h
  · obtain ⟨hsum, hle, hroom, _⟩ := h
    exact ⟨hsum, hle, hroom, min_le_right _ _⟩

theorem scheduleUnit_sponsor (u : UnitSettlement) (e : ExposureEntry) : (scheduleUnit u e).sponsor = e.sponsor := by
  unfold scheduleUnit
  split <;> rfl

theorem creditMoment_sponsor (e : ExposureEntry) : (creditMoment e).sponsor = e.sponsor := by
  unfold creditMoment
  split <;> rfl

theorem onEntry_sponsors (id : Nat) {f : ExposureEntry → ExposureEntry} (hf : ∀ e, (f e).sponsor = e.sponsor)
    (t : List ExposureEntry) : (onEntry id f t).map (·.sponsor) = t.map (·.sponsor) := by
  simp only [onEntry, List.map_map]
  refine List.map_congr_left fun e _ => ?_
  simp only [Function.comp_apply]
  split
  · exact hf e
  · rfl

theorem ordered_iff_sponsors (t : List ExposureEntry) :
    t.Pairwise (fun a b => a.sponsor < b.sponsor) ↔ (t.map (·.sponsor)).Pairwise (· < ·) := List.pairwise_map.symm

/-- A change of entries that keeps their sponsors and their balance. -/
theorem TableSound.of_sponsors {t u : List ExposureEntry} (h : TableSound t)
    (hsponsors : u.map (·.sponsor) = t.map (·.sponsor)) (hbalances : ∀ e ∈ u, EntryBalances e) : TableSound u := by
  refine ⟨hbalances, ?_, ?_⟩
  · have hlen := congrArg List.length hsponsors
    rw [List.length_map, List.length_map] at hlen
    exact hlen ▸ h.bounded
  · rw [ordered_iff_sponsors, hsponsors, ← ordered_iff_sponsors]
    exact h.ordered

theorem takeReport_sponsors (r : SlotReport) (t : List ExposureEntry) :
    (takeReport r t).map (·.sponsor) = t.map (·.sponsor) := by
  unfold takeReport
  split
  · exact onEntry_sponsors _ (scheduleUnit_sponsor _) t
  · split
    · exact onEntry_sponsors _ creditMoment_sponsor t
    · rfl
  · rfl

theorem onEntry_balances {id : Nat} {f : ExposureEntry → ExposureEntry} (hf : ∀ e, EntryBalances e → EntryBalances (f e))
    {t : List ExposureEntry} (h : ∀ e ∈ t, EntryBalances e) : ∀ e ∈ onEntry id f t, EntryBalances e := by
  intro e he
  obtain ⟨x, hx, rfl⟩ := List.mem_map.1 he
  split
  · exact hf x (h x hx)
  · exact h x hx

theorem takeReport_sound (r : SlotReport) {t : List ExposureEntry} (h : TableSound t) : TableSound (takeReport r t) := by
  refine h.of_sponsors (takeReport_sponsors r t) ?_
  unfold takeReport
  split
  · exact onEntry_balances (fun _ => scheduleUnit_balances _) h.balances
  · split
    · exact onEntry_balances (fun _ => creditMoment_balances) h.balances
    · exact h.balances
  · exact h.balances

theorem entered_congr {t u : List ExposureEntry} (h : u.map (·.sponsor) = t.map (·.sponsor)) (id : Nat) :
    Entered u id ↔ Entered t id := by
  rw [Entered, Entered, hasEntry_iff_mem, hasEntry_iff_mem, h]

/-! ### Zeroing and purging -/

theorem zeroed_sponsors (t : List ExposureEntry) : (t.map zeroEntry).map (·.sponsor) = t.map (·.sponsor) := by
  rw [List.map_map]
  rfl

theorem zeroAndPurge_sound (zero purge : Bool) (keep : List Nat) {t : List ExposureEntry} (h : TableSound t) :
    TableSound (zeroAndPurge zero purge keep t) := by
  have zeroed : TableSound (if zero then t.map zeroEntry else t) := by
    split
    · refine h.of_sponsors (zeroed_sponsors t) fun e he => ?_
      obtain ⟨x, _, rfl⟩ := List.mem_map.1 he
      exact newEntry_balances _
    · exact h
  unfold zeroAndPurge
  dsimp only
  split
  · exact ⟨fun e he => zeroed.balances e (List.mem_of_mem_filter he), (List.length_filter_le _ _).trans zeroed.bounded,
      zeroed.ordered.filter _⟩
  · exact zeroed

/-- R151: a purge keeps the entries of the sponsors to keep. -/
theorem zeroAndPurge_entered (zero purge : Bool) {keep : List Nat} {t : List ExposureEntry} {id : Nat} (hkeep : id ∈ keep)
    (h : Entered t id) : Entered (zeroAndPurge zero purge keep t) id := by
  have zeroed : Entered (if zero then t.map zeroEntry else t) id := by
    split
    · exact (entered_congr (zeroed_sponsors t) id).2 h
    · exact h
  unfold zeroAndPurge
  dsimp only
  split
  · intro h0
    obtain ⟨e, he, rfl⟩ := (hasEntry_iff _ _).1 (zeroed h0)
    exact (hasEntry_iff _ _).2 ⟨e, List.mem_filter.2 ⟨he, by simpa using hkeep⟩, rfl⟩
  · exact zeroed

end Sys2Proof.Proofs
end

section
/-! PROOFS. The Message Queue (R157 to R166): what joining, evicting, choosing a head and preempting do to the queue, and
that every operation keeps it in its classes, under a property that every record has. -/

namespace Sys2Proof.Proofs

open Sys2Proof.Machine Sys2Proof.Safety

/-! ### The queue as a list -/

/-- R157: classes of falling priority, each ID once. -/
def Classed (q : List Message) : Prop := q.Pairwise (fun a b => b.priority ≤ a.priority ∧ a.id ≠ b.id)

/-- R156, R163: no queued record has the ID of the record `m` on air, or preempts it. -/
def Leads (m : Message) (q : List Message) : Prop := ∀ x ∈ q, x.id ≠ m.id ∧ (m.priority < 3 → x.priority < 3)

theorem insertTail_perm (m : Message) (q : List Message) : (insertTail m q).Perm (m :: q) := by
  induction q with
  | nil => exact .refl _
  | cons x q ih =>
    unfold insertTail
    split
    · exact (ih.cons x).trans (.swap m x q)
    · exact .refl _

theorem insertHead_perm (m : Message) (q : List Message) : (insertHead m q).Perm (m :: q) := by
  induction q with
  | nil => exact .refl _
  | cons x q ih =>
    unfold insertHead
    split
    · exact (ih.cons x).trans (.swap m x q)
    · exact .refl _

theorem insertTail_classed {m : Message} {q : List Message} (hq : Classed q) (hnew : ∀ x ∈ q, x.id ≠ m.id) :
    Classed (insertTail m q) := by
  induction q with
  | nil => exact List.pairwise_singleton _ _
  | cons x q ih =>
    obtain ⟨hx, hrest⟩ := List.pairwise_cons.1 hq
    unfold insertTail
    split
    case isTrue hle =>
      refine List.pairwise_cons.2 ⟨fun y hy => ?_, ih hrest fun y hy => hnew y (List.mem_cons_of_mem x hy)⟩
      rcases List.mem_cons.1 ((insertTail_perm m q).mem_iff.1 hy) with rfl | hy
      · exact ⟨hle, hnew x List.mem_cons_self⟩
      · exact hx y hy
    case isFalse hlt =>
      refine List.pairwise_cons.2 ⟨fun y hy => ⟨?_, fun heq => hnew y hy heq.symm⟩, hq⟩
      rcases List.mem_cons.1 hy with rfl | hy
      · exact (not_le.1 hlt).le
      · exact (hx y hy).1.trans (not_le.1 hlt).le

theorem insertHead_classed {m : Message} {q : List Message} (hq : Classed q) (hnew : ∀ x ∈ q, x.id ≠ m.id) :
    Classed (insertHead m q) := by
  induction q with
  | nil => exact List.pairwise_singleton _ _
  | cons x q ih =>
    obtain ⟨hx, hrest⟩ := List.pairwise_cons.1 hq
    unfold insertHead
    split
    case isTrue hlt =>
      refine List.pairwise_cons.2 ⟨fun y hy => ?_, ih hrest fun y hy => hnew y (List.mem_cons_of_mem x hy)⟩
      rcases List.mem_cons.1 ((insertHead_perm m q).mem_iff.1 hy) with rfl | hy
      · exact ⟨hlt.le, hnew x List.mem_cons_self⟩
      · exact hx y hy
    case isFalse hge =>
      refine List.pairwise_cons.2 ⟨fun y hy => ⟨?_, fun heq => hnew y hy heq.symm⟩, hq⟩
      rcases List.mem_cons.1 hy with rfl | hy
      · exact not_lt.1 hge
      · exact (hx y hy).1.trans (not_lt.1 hge)

theorem evict_sublist (q : List Message) : (evict q).1.Sublist q := by
  unfold evict
  split
  · exact List.dropLast_sublist q
  · exact .refl _

theorem evict_length {q : List Message} (h : q.length ≤ 17) : (evict q).1.length ≤ 16 := by
  unfold evict
  rw [show Config.messageCapacity = 16 from rfl]
  split
  · rw [List.length_dropLast]
    omega
  · rename_i hfits
    exact not_lt.1 hfits

/-- R159: the head chosen and the queue it leaves end the queue. -/
theorem chooseHead_suffix {h : Nat} {q : List Message} {m : Message} {rest : List Message}
    (hfound : (chooseHead h q).2 = some (m, rest)) : m :: rest <:+ q := by
  induction q with
  | nil => cases hfound
  | cons x q ih =>
    unfold chooseHead at hfound
    split at hfound
    · cases hfound
      exact List.suffix_rfl
    · exact (ih hfound).trans (List.suffix_cons x q)

/-! ### Queue and air -/

/-- R157, R163: the queue in its classes, within 16 records, with nothing waiting that should be on air; and every record
has the property `P`. -/
structure MessagesSound (P : Message → Prop) (s : State) : Prop where
  bounded : s.messages.queue.length ≤ 16
  classed : Classed s.messages.queue
  leads : ∀ o, s.messages.onAir = some o → Leads o.msg s.messages.queue
  queued : ∀ m ∈ s.messages.queue, P m
  shown : ∀ o, s.messages.onAir = some o → P o.msg

/-- The property does not read the repeats remaining. -/
def KeepsRepeats (P : Message → Prop) : Prop := ∀ m n, P m → P { m with remaining := n }

theorem messagesSound_dependsOn (P : Message → Prop) : DependsOn [.messageQueue, .onAir] (MessagesSound P) :=
  fun s t h hs => by
    have hq : t.messages.queue = s.messages.queue := h .messageQueue (by decide)
    have ho : t.messages.onAir = s.messages.onAir := h .onAir (by decide)
    exact ⟨hq ▸ hs.bounded, hq ▸ hs.classed, hq ▸ ho ▸ hs.leads, hq ▸ hs.queued, ho ▸ hs.shown⟩

theorem MessagesSound.of_messages {P : Message → Prop} {s t : State} (h : MessagesSound P s)
    (ht : t.messages = s.messages) : MessagesSound P t := by
  obtain ⟨h1, h2, h3, h4, h5⟩ := h
  rw [← ht] at h1 h2 h3 h4 h5
  exact ⟨h1, h2, h3, h4, h5⟩

theorem MessagesSound.mono {P Q : Message → Prop} {s : State} (h : MessagesSound P s) (hPQ : ∀ m, P m → Q m) :
    MessagesSound Q s :=
  ⟨h.bounded, h.classed, h.leads, fun m hm => hPQ m (h.queued m hm), fun o ho => hPQ _ (h.shown o ho)⟩

theorem joinQueue_queue (q : List Message) (s : State) : (joinQueue q s).messages.queue = (evict q).1 := by
  unfold joinQueue
  dsimp only
  split <;> rfl

theorem joinQueue_onAir (q : List Message) (s : State) : (joinQueue q s).messages.onAir = s.messages.onAir := by
  unfold joinQueue
  dsimp only
  split <;> rfl

theorem dropHeads_queue (d : List Message) (s : State) : (dropHeads d s).messages.queue = s.messages.queue := by
  unfold dropHeads
  split <;> rfl

theorem dropHeads_onAir (d : List Message) (s : State) : (dropHeads d s).messages.onAir = s.messages.onAir := by
  unfold dropHeads
  split <;> rfl

/-- A queue of up to 17 records in its classes is taken, its last record evicted where it is full. -/
theorem joinQueue_sound {P : Message → Prop} {q : List Message} {s : State} (hlen : q.length ≤ 17) (hq : Classed q)
    (hleads : ∀ o, s.messages.onAir = some o → Leads o.msg q) (hqueued : ∀ m ∈ q, P m)
    (hshown : ∀ o, s.messages.onAir = some o → P o.msg) : MessagesSound P (joinQueue q s) := by
  have hsub := evict_sublist q
  refine ⟨?_, ?_, ?_, ?_, ?_⟩
  · rw [joinQueue_queue]
    exact evict_length hlen
  · rw [joinQueue_queue]
    exact hq.sublist hsub
  · rw [joinQueue_queue, joinQueue_onAir]
    exact fun o ho x hx => hleads o ho x (hsub.subset hx)
  · rw [joinQueue_queue]
    exact fun m hm => hqueued m (hsub.subset hm)
  · rw [joinQueue_onAir]
    exact hshown

section
variable {P : Message → Prop}

/-- The air emptied. -/
theorem MessagesSound.offAir {s : State} (h : MessagesSound P s) :
    MessagesSound P { s with messages.onAir := none } :=
  ⟨h.bounded, h.classed, (fun _ ho => by cases ho), h.queued, (fun _ ho => by cases ho)⟩

/-- A part of the queue in its order. -/
theorem MessagesSound.sublist {s : State} (h : MessagesSound P s) {q : List Message}
    (hsub : q.Sublist s.messages.queue) : MessagesSound P { s with messages.queue := q } :=
  ⟨hsub.length_le.trans h.bounded, h.classed.sublist hsub, fun o ho x hx => h.leads o ho x (hsub.subset hx),
    fun m hm => h.queued m (hsub.subset hm), h.shown⟩

theorem putOnAirIn_sound (zone : Option ZoneRec) : Keeps (MessagesSound P) (putOnAirIn zone) := fun s hs => by
  have dropped (d : List Message) {u : State} (hu : MessagesSound P u) : MessagesSound P (dropHeads d u) :=
    (messagesSound_dependsOn P).kept (dropHeads_within d u) (by decide) hu
  unfold putOnAirIn
  split
  · rename_i z hair _ _
    dsimp only
    split
    · rename_i m q hfound
      have hsuffix : (m :: q).Sublist s.messages.queue := (chooseHead_suffix hfound).sublist
      have hclassed : Classed (m :: q) := hs.classed.sublist hsuffix
      obtain ⟨hm, hq⟩ := List.pairwise_cons.1 hclassed
      refine dropped _ ⟨?_, hq, ?_, fun x hx => hs.queued x (hsuffix.subset (List.mem_cons_of_mem m hx)), ?_⟩
      · exact ((Nat.le_succ _).trans hsuffix.length_le).trans hs.bounded
      · intro o ho x hx
        cases ho
        exact ⟨fun heq => (hm x hx).2 heq.symm, fun hlow => (hm x hx).1.trans_lt hlow⟩
      · intro o ho
        cases ho
        exact hs.queued m (hsuffix.subset List.mem_cons_self)
    · exact dropped _ (hs.sublist (List.nil_sublist _))
  · exact hs

theorem airChanged_sound : Keeps (MessagesSound P) airChanged :=
  (messagesSound_dependsOn P).keeps airChanged_within (by decide)

theorem settleAirIn_sound (zone : Option ZoneRec) (left : Bool) : Keeps (MessagesSound P) (settleAirIn zone left) :=
  fun s hs => by
    unfold settleAirIn
    dsimp only
    split
    · exact airChanged_sound _ (putOnAirIn_sound zone s hs)
    · exact putOnAirIn_sound zone s hs

theorem settleAir_sound (left : Bool) : Keeps (MessagesSound P) (settleAir left) := fun s =>
  settleAirIn_sound (messageZone s) left s

theorem returnToQueue_sound : Keeps (MessagesSound P) returnToQueue := fun s hs => by
  unfold returnToQueue
  split
  · rename_i o ho
    have hperm := insertHead_perm o.msg s.messages.queue
    have hnew : ∀ x ∈ s.messages.queue, x.id ≠ o.msg.id := fun x hx => (hs.leads o ho x hx).1
    refine joinQueue_sound ?_ (insertHead_classed hs.classed hnew) (fun _ h => by cases h) ?_ (fun _ h => by cases h)
    · rw [hperm.length_eq]
      exact Nat.succ_le_succ hs.bounded
    · intro m hm
      rcases List.mem_cons.1 (hperm.mem_iff.1 hm) with rfl | hm
      · exact hs.shown o ho
      · exact hs.queued m hm
  · exact hs

theorem returnToQueue_onAir (s : State) : (returnToQueue s).messages.onAir = none := by
  unfold returnToQueue
  split
  · exact joinQueue_onAir _ _
  · rename_i h
    exact h

/-- The IDs that a return leaves in the queue were queued or on air. -/
theorem returnToQueue_mem {s : State} {x : Message} (hx : x ∈ (returnToQueue s).messages.queue) :
    x ∈ s.messages.queue ∨ ∃ o, s.messages.onAir = some o ∧ x = o.msg := by
  unfold returnToQueue at hx
  split at hx
  · rename_i o ho
    rw [joinQueue_queue] at hx
    rcases List.mem_cons.1 ((insertHead_perm o.msg _).mem_iff.1 ((evict_sublist _).subset hx)) with rfl | hx
    · exact .inr ⟨o, ho, rfl⟩
    · exact .inl hx
  · exact .inl hx

/-- R163: a record that no one else's ID is, with priority 3, goes on air. -/
theorem MessagesSound.takesAir {s : State} (h : MessagesSound P s) {m : Message} (hm : P m) (htop : 3 ≤ m.priority)
    (hnew : ∀ x ∈ s.messages.queue, x.id ≠ m.id) (x : Showing) :
    MessagesSound P { s with messages.onAir := some { msg := m, showing := x } } := by
  refine ⟨h.bounded, h.classed, ?_, h.queued, ?_⟩
  · rintro o ho y hy
    cases ho
    exact ⟨hnew y hy, fun hlow => absurd hlow (not_lt.2 htop)⟩
  · rintro o ho
    cases ho
    exact hm

/-- The showing of the on-air record goes on. -/
theorem MessagesSound.shows {s : State} (h : MessagesSound P s) {o : OnAir} (ho : s.messages.onAir = some o)
    (x : Showing) : MessagesSound P { s with messages.onAir := some { msg := o.msg, showing := x } } := by
  refine ⟨h.bounded, h.classed, ?_, h.queued, ?_⟩
  · rintro o' ho'
    cases ho'
    exact h.leads o ho
  · rintro o' ho'
    cases ho'
    exact h.shown o ho

/-! ### Posting -/

theorem Classed.eq_of_id {q : List Message} (hq : Classed q) {x y : Message} (hx : x ∈ q) (hy : y ∈ q)
    (hid : x.id = y.id) : x = y :=
  List.inj_on_of_nodup_map (f := (·.id)) (List.pairwise_map.2 (hq.imp And.right)) hx hy hid

/-- R157: a replaced record keeps its place or its class. -/
theorem replaceQueued_classed {m : Message} {q : List Message} (hq : Classed q) : Classed (replaceQueued m q) := by
  unfold replaceQueued
  split
  case isTrue hsame =>
    obtain ⟨y, hy, hsame⟩ := List.any_eq_true.1 hsame
    simp only [Bool.and_eq_true, beq_iff_eq] at hsame
    obtain ⟨hid, hpriority⟩ := hsame
    have only {x : Message} (hx : x ∈ q) (heq : x.id = m.id) : x = y := hq.eq_of_id hx hy (heq.trans hid.symm)
    refine List.pairwise_map.2 (hq.imp_of_mem fun {a b} ha hb hab => ?_)
    obtain ⟨hle, hne⟩ := hab
    by_cases ham : a.id = m.id <;> by_cases hbm : b.id = m.id
    · exact absurd (ham.trans hbm.symm) hne
    · rw [if_pos ham, if_neg hbm]
      rw [only ha ham, hpriority] at hle
      exact ⟨hle, fun heq => hbm heq.symm⟩
    · rw [if_neg ham, if_pos hbm]
      rw [only hb hbm, hpriority] at hle
      exact ⟨hle, ham⟩
    · rw [if_neg ham, if_neg hbm]
      exact ⟨hle, hne⟩
  case isFalse =>
    exact insertTail_classed (hq.filter _) fun x hx => by simpa using (List.mem_filter.1 hx).2

theorem mem_replaceQueued {m x : Message} {q : List Message} (hx : x ∈ replaceQueued m q) : x = m ∨ x ∈ q := by
  unfold replaceQueued at hx
  split at hx
  · obtain ⟨z, hz, rfl⟩ := List.mem_map.1 hx
    split
    · exact .inl rfl
    · exact .inr hz
  · rcases List.mem_cons.1 ((insertTail_perm m _).mem_iff.1 hx) with rfl | hx
    · exact .inl rfl
    · exact .inr (List.mem_of_mem_filter hx)

theorem queued_iff (id : Nat) (q : List Message) : queued id q = true ↔ ∃ x ∈ q, x.id = id := by
  simp [queued]

theorem replaceQueued_length {m : Message} {q : List Message} (h : queued m.id q = true) :
    (replaceQueued m q).length ≤ q.length := by
  unfold replaceQueued
  split
  · rw [List.length_map]
  · obtain ⟨x, hx, hid⟩ := (queued_iff _ _).1 h
    rw [(insertTail_perm m _).length_eq, List.length_cons]
    exact List.length_filter_lt_length_iff_exists.2 ⟨x, hx, by simp [hid]⟩

theorem preempts_iff (m : Message) (s : State) :
    preempts m s = true ↔ ∃ o, s.messages.onAir = some o ∧ m.priority = 3 ∧ o.msg.priority < 3 := by
  unfold preempts
  cases s.messages.onAir <;> simp

/-- R157, R163: a record of another ID than the one on air, of a priority up to 3, takes its place. -/
theorem placePost_sound {m : Message} (hm : P m) (htop : m.priority ≤ 3) {s : State}
    (hnew : ∀ o, s.messages.onAir = some o → o.msg.id ≠ m.id) (hs : MessagesSound P s) :
    MessagesSound P (placePost m s) := by
  have waits (hpre : ¬ preempts m s = true) : ∀ o, s.messages.onAir = some o →
      m.id ≠ o.msg.id ∧ (o.msg.priority < 3 → m.priority < 3) := fun o ho =>
    ⟨(hnew o ho).symm, fun hlow => lt_of_le_of_ne htop fun h3 => hpre ((preempts_iff m s).2 ⟨o, ho, h3, hlow⟩)⟩
  have above (hpre : ¬ preempts m s = true) {q : List Message} (hq : ∀ x ∈ q, x = m ∨ x ∈ s.messages.queue) :
      ∀ o, s.messages.onAir = some o → Leads o.msg q := fun o ho x hx => by
    rcases hq x hx with rfl | hx
    · exact waits hpre o ho
    · exact hs.leads o ho x hx
  have known {q : List Message} (hq : ∀ x ∈ q, x = m ∨ x ∈ s.messages.queue) : ∀ x ∈ q, P x := fun x hx => by
    rcases hq x hx with rfl | hx
    · exact hm
    · exact hs.queued x hx
  unfold placePost
  split
  case isTrue hpre =>
    obtain ⟨_, _, h3, _⟩ := (preempts_iff m s).1 hpre
    have rest := returnToQueue_sound _ (hs.sublist (List.filter_sublist (p := fun x => x.id != m.id)))
    refine airChanged_sound _ (rest.takesAir hm h3.ge (fun x hx => ?_) .notStarted)
    rcases returnToQueue_mem hx with hx | ⟨o, ho, rfl⟩
    · simpa using (List.mem_filter.1 hx).2
    · exact hnew o ho
  case isFalse hpre =>
    split
    case isTrue hqueued =>
      have hmem : ∀ x ∈ replaceQueued m s.messages.queue, x = m ∨ x ∈ s.messages.queue := fun x => mem_replaceQueued
      exact settleAir_sound false _ ⟨(replaceQueued_length hqueued).trans hs.bounded, replaceQueued_classed hs.classed,
        above hpre hmem, known hmem, hs.shown⟩
    case isFalse hqueued =>
      have hperm := insertTail_perm m s.messages.queue
      have hmem : ∀ x ∈ insertTail m s.messages.queue, x = m ∨ x ∈ s.messages.queue := fun x hx =>
        List.mem_cons.1 (hperm.mem_iff.1 hx)
      refine settleAir_sound false _ (joinQueue_sound ?_ (insertTail_classed hs.classed fun x hx heq => ?_)
        (above hpre hmem) (known hmem) hs.shown)
      · rw [hperm.length_eq]
        exact Nat.succ_le_succ hs.bounded
      · exact hqueued ((queued_iff _ _).2 ⟨x, hx, heq⟩)

theorem withdraw_sound (id : Nat) : Keeps (MessagesSound P) (fun s => (withdraw id s).state) := fun s hs => by
  dsimp only [withdraw]
  split
  · exact hs
  · split
    · exact settleAir_sound true _ hs.offAir
    · split
      · exact hs.sublist List.filter_sublist
      · exact hs

/-! ### Boundaries, layouts and alerts -/

theorem startOnAir_sound : Keeps (MessagesSound P) startOnAir := fun s hs => by
  unfold startOnAir
  split
  · rename_i m ho
    exact hs.shows ho _
  · exact hs

theorem endShowing_sound (hP : KeepsRepeats P) {o : OnAir} {s : State} (hs : MessagesSound P s)
    (ho : s.messages.onAir = some o) : MessagesSound P (endShowing o.msg s) := by
  unfold endShowing
  refine settleAirIn_sound _ true _ ?_
  dsimp only
  split
  · exact hs.offAir
  · have hperm := insertTail_perm { o.msg with remaining := o.msg.remaining - 1 } s.messages.queue
    refine joinQueue_sound ?_ (insertTail_classed hs.classed fun x hx => (hs.leads o ho x hx).1)
      (fun _ h => by cases h) ?_ (fun _ h => by cases h)
    · rw [hperm.length_eq]
      exact Nat.succ_le_succ hs.bounded
    · intro x hx
      rcases List.mem_cons.1 (hperm.mem_iff.1 hx) with rfl | hx
      · exact hP _ _ (hs.shown o ho)
      · exact hs.queued x hx

/-- R160: a crawl's pixels a frame. -/
def crawlSpeed (m : Message) : Nat :=
  match m.mode with
  | .crawl v => v
  | .still _ => 0

/-- R160: a crawl moved by its speed, with its bump. -/
def crawled (o : OnAir) (offset : Nat) (s : State) : State :=
  bumpZones isMessage { s with messages.onAir := some { msg := o.msg, showing := .crawl (offset + crawlSpeed o.msg) } }

theorem stepShowing_crawl {o : OnAir} {offset : Nat} (h : o.showing = .crawl offset) (s : State) :
    stepShowing o s =
      if o.msg.width + messageWidth (crawled o offset s) ≤ offset + crawlSpeed o.msg then
        endShowing o.msg (crawled o offset s)
      else crawled o offset s := by
  obtain ⟨m, showing⟩ := o
  cases h
  rfl

theorem stepShowing_still {o : OnAir} {n : Nat} (h : o.showing = .still n) (s : State) :
    stepShowing o s =
      if n ≤ 1 then endShowing o.msg s
      else { s with messages.onAir := some { msg := o.msg, showing := .still (n - 1) } } := by
  obtain ⟨m, showing⟩ := o
  cases h
  rfl

theorem stepShowing_notStarted {o : OnAir} (h : o.showing = .notStarted) (s : State) :
    stepShowing o s = startOnAir s := by
  obtain ⟨m, showing⟩ := o
  cases h
  rfl

theorem messageWork_sound (hP : KeepsRepeats P) : Keeps (MessagesSound P) messageWork := fun s hs => by
  unfold messageWork
  split
  case h_2 => exact hs
  case h_1 o ho =>
    cases hshowing : o.showing with
    | notStarted =>
      rw [stepShowing_notStarted hshowing]
      exact startOnAir_sound s hs
    | still n =>
      rw [stepShowing_still hshowing]
      split
      · exact endShowing_sound hP hs ho
      · exact hs.shows ho _
    | crawl offset =>
      have moved : MessagesSound P (crawled o offset s) := (messagesSound_dependsOn P).kept
        (bumpZones_within (p := isMessage) isMessage_kind _) (by decide) (hs.shows ho _)
      rw [stepShowing_crawl hshowing]
      split
      · exact endShowing_sound (o := { msg := o.msg, showing := .crawl _ }) hP moved rfl
      · exact moved

theorem alertReturnsMessage_sound : Keeps (MessagesSound P) alertReturnsMessage := fun s hs => by
  unfold alertReturnsMessage
  split
  · exact airChanged_sound _ (returnToQueue_sound s hs)
  · exact hs

theorem messageRelayout_sound (old new : Option ZoneRec) : Keeps (MessagesSound P) (messageRelayout old new) :=
  fun s hs => by
    unfold messageRelayout
    split
    · split
      · exact airChanged_sound _ (returnToQueue_sound s hs)
      · exact hs
    · exact settleAir_sound false s hs
    · split
      · exact hs
      · exact settleAir_sound _ _ (returnToQueue_sound s hs)

end

end Sys2Proof.Proofs
end

section
/-! PROOFS. The ribbons (R126 to R139): which lists a ribbon holds after each piece of its work, that its state goes on
saying what it says of them, and that a change that is not handed on leaves what the ribbon shows. -/

namespace Sys2Proof.Proofs

open Sys2Proof.Machine Sys2Proof.Safety

/-- A committed or staged list. -/
def Holds (r : Ribbon) (l : SlotList) : Prop := r.committed = some l ∨ ∃ x, r.staged = some x ∧ x.list = l

/-- The work of a ribbon: no list but those it held, what its state says of it, and what it shows. -/
structure Works (r : Ribbon) (o : RibbonOutcome) : Prop where
  lists : ∀ l, Holds o.ribbon l → Holds r l
  consistent : RibbonConsistent r → RibbonConsistent o.ribbon
  shows : RibbonConsistent r → o.bumped = false → ribbonContent o.ribbon = ribbonContent r

theorem Works.idle (r : Ribbon) : Works r { ribbon := r, committed := false, bumped := false } :=
  ⟨fun _ h => h, id, fun _ _ => rfl⟩

/-! ### Choosing an entry -/

theorem enterFirst_state (l : SlotList) (p : ClockPhase) (order : List Nat) (n : Nat) (r : Ribbon) :
    (enterFirst l p order n r).state = r.state := by
  unfold enterFirst
  split <;> rfl

theorem enterFirst_committed (l : SlotList) (p : ClockPhase) (order : List Nat) (n : Nat) (r : Ribbon) :
    (enterFirst l p order n r).committed = r.committed := by
  unfold enterFirst
  split <;> rfl

theorem enterFirst_staged (l : SlotList) (p : ClockPhase) (order : List Nat) (n : Nat) (r : Ribbon) :
    (enterFirst l p order n r).staged = r.staged := by
  unfold enterFirst
  split <;> rfl

theorem enterFirst_entry (l : SlotList) (p : ClockPhase) (order : List Nat) (n : Nat) (r : Ribbon) :
    (enterFirst l p order n r).entry ≠ .none := by
  unfold enterFirst
  split <;> nofun

/-- What an ON ribbon's state says, given a committed list. -/
theorem consistent_on {r : Ribbon} (hstate : r.state = .on) (hlist : r.committed.isSome = true) : RibbonConsistent r := by
  rw [RibbonConsistent, hstate]
  exact hlist

theorem consistent_off {r : Ribbon} (hstate : r.state = .off) (hstaged : r.staged = none) (hentry : r.entry = .none) :
    RibbonConsistent r := by
  rw [RibbonConsistent, hstate]
  exact ⟨hstaged, hentry⟩

theorem consistent_stopping {r : Ribbon} (hstate : r.state = .stopping) (hlist : r.committed.isSome = true) :
    RibbonConsistent r := by
  rw [RibbonConsistent, hstate]
  exact hlist

theorem ribbonConsistent_ofOff {r : Ribbon} (h : RibbonConsistent r) (hstate : r.state = .off) :
    r.staged = none ∧ r.entry = .none := by
  rw [RibbonConsistent, hstate] at h
  exact h

theorem ribbonConsistent_ofStarting {r : Ribbon} (h : RibbonConsistent r) (hstate : r.state = .starting) :
    r.entry = .none ∧ r.committed.isSome = true := by
  rw [RibbonConsistent, hstate] at h
  exact h

/-- A ribbon that shows or is to show has a committed list. -/
theorem ribbonConsistent_committed {r : Ribbon} (h : RibbonConsistent r) (hstate : r.state ≠ .off) :
    r.committed.isSome = true := by
  rw [RibbonConsistent] at h
  cases hs : r.state <;> rw [hs] at h
  · exact absurd hs hstate
  · exact h.2
  · exact h
  · exact h

/-- What a ribbon shows is told by its state, its committed list and its entry. -/
theorem ribbonContent_congr {r t : Ribbon} (hstate : t.state = r.state) (hlist : t.committed = r.committed)
    (hentry : t.entry = r.entry) : ribbonContent t = ribbonContent r := by
  rw [ribbonContent, ribbonContent, hstate, hlist, hentry]

theorem ribbonContent_noEntry {r : Ribbon} (h : r.entry = .none) : ribbonContent r = none := by
  unfold ribbonContent
  rw [h]
  split <;> rfl

/-! ### Commits -/

theorem holds_of_staged {r : Ribbon} {x : StagedList} (h : r.staged = some x) : Holds r x.list := .inr ⟨x, h, rfl⟩

/-- A committed staged list is the one list held. -/
theorem holds_commitList {r t : Ribbon} {x : StagedList} (hx : r.staged = some x) (hlist : t.committed = some x.list)
    (hstaged : t.staged = none) : ∀ l, Holds t l → Holds r l := by
  rintro l (h | ⟨y, hy, _⟩)
  · rw [hlist] at h
    exact Option.some.inj h ▸ holds_of_staged hx
  · rw [hstaged] at hy
    cases hy

/-- R139: an OFF ribbon without an entry commits its staged list. -/
theorem commitOff_consistent {r : Ribbon} (hstate : r.state = .off) (hentry : r.entry = .none) :
    RibbonConsistent (commitOff r).ribbon := by
  unfold commitOff
  split
  · exact consistent_off hstate rfl hentry
  · rename_i hstaged
    exact consistent_off hstate hstaged hentry

theorem commitOff_lists (r : Ribbon) : ∀ l, Holds (commitOff r).ribbon l → Holds r l := by
  unfold commitOff
  split
  · rename_i x hx
    exact holds_commitList hx rfl rfl
  · exact fun _ h => h

theorem commitOff_entry (r : Ribbon) : (commitOff r).ribbon.entry = r.entry := by
  unfold commitOff
  split <;> rfl

/-- The lists are those before, for a ribbon that keeps both. -/
theorem holds_congr {r t : Ribbon} (hlist : t.committed = r.committed) (hstaged : t.staged = r.staged) :
    ∀ l, Holds t l → Holds r l := by
  intro l h
  rw [Holds, hlist, hstaged] at h
  exact h

theorem entryOutcome_unbumped {old new : Ribbon} (h : (entryOutcome old new).bumped = false) : new.entry = old.entry := by
  have hne : (old.entry != new.entry) = false := h
  simpa using (bne_eq_false_iff_eq.1 hne).symm

/-! ### The boundary work -/

theorem startRibbon_works (p : ClockPhase) {r : Ribbon} (hstate : r.state = .starting) : Works r (startRibbon p r) := by
  unfold startRibbon
  split
  · rename_i x _ hx
    refine ⟨holds_commitList hx (enterFirst_committed _ _ _ _ _) (enterFirst_staged _ _ _ _ _), fun _ => ?_, nofun⟩
    exact consistent_on (enterFirst_state _ _ _ _ _) (congrArg Option.isSome (enterFirst_committed _ _ _ _ _))
  · rename_i l hstaged hcommitted
    have hkept : (enterFromStart l p { r with state := .on }).committed = r.committed := enterFirst_committed _ _ _ _ _
    refine ⟨holds_congr hkept (enterFirst_staged _ _ _ _ _), fun _ => ?_, fun h hsame => ?_⟩
    · exact consistent_on (enterFirst_state _ _ _ _ _) (congrArg Option.isSome (hkept.trans hcommitted))
    · exact absurd ((entryOutcome_unbumped hsame).trans (ribbonConsistent_ofStarting h hstate).1)
        (enterFirst_entry _ _ _ _ _)
  · exact Works.idle r

theorem advanceRibbon_works (p : ClockPhase) {r : Ribbon} (hstate : r.state = .on) : Works r (advanceRibbon p r) := by
  unfold advanceRibbon
  split
  · exact Works.idle r
  · rename_i l hcommitted
    have searched : Works r
        (entryOutcome r (enterFirst l p (searchOrder l.slots.length r.search) r.search r)) :=
      ⟨holds_congr (enterFirst_committed _ _ _ _ _) (enterFirst_staged _ _ _ _ _),
        fun _ => consistent_on ((enterFirst_state _ _ _ _ _).trans hstate)
          (congrArg Option.isSome ((enterFirst_committed _ _ _ _ _).trans hcommitted)),
        fun _ hsame => ribbonContent_congr (enterFirst_state _ _ _ _ _) (enterFirst_committed _ _ _ _ _)
          (entryOutcome_unbumped hsame)⟩
    dsimp only
    split
    · rename_i x hx
      split
      · refine ⟨holds_commitList hx (enterFirst_committed _ _ _ _ _) (enterFirst_staged _ _ _ _ _), fun _ => ?_, nofun⟩
        exact consistent_on ((enterFirst_state _ _ _ _ _).trans hstate)
          (congrArg Option.isSome (enterFirst_committed _ _ _ _ _))
      · exact searched
    · exact searched

theorem turnOff_works (r : Ribbon) : Works r (turnOff r) := by
  unfold turnOff
  dsimp only
  split
  · rename_i x hx
    refine ⟨fun l h => ?_, fun _ => commitOff_consistent rfl rfl, fun _ hsame => ?_⟩
    · have held := commitOff_lists _ l h
      exact held
    · rw [commitOff] at hsame
      dsimp only at hsame
      rw [hx] at hsame
      cases hsame
  · rename_i hstaged
    refine ⟨holds_congr rfl rfl, fun _ => consistent_off rfl hstaged rfl, fun _ hsame => ?_⟩
    rw [ribbonContent_noEntry rfl, ribbonContent_noEntry (entryOutcome_unbumped hsame).symm]

/-- R129: a boundary's work on a ribbon. -/
theorem ribbonBoundary_works (p : ClockPhase) (r : Ribbon) : Works r (ribbonBoundary p r) := by
  have counted {o : RibbonOutcome} (h : Works { r with dwell := r.dwell - 1 } o) : Works r o := ⟨h.lists, h.consistent, h.shows⟩
  unfold ribbonBoundary
  split
  case h_1 => exact Works.idle r
  case h_2 hstate => exact startRibbon_works p hstate
  case h_3 hstate =>
    split
    · exact counted (advanceRibbon_works p hstate)
    · exact counted (Works.idle _)
  case h_4 =>
    split
    · exact counted (turnOff_works _)
    · exact counted (Works.idle _)

end Sys2Proof.Proofs
end

section
/-! PROOFS. Tables and queues bounded (R26, R143 to R145, R148, R157, R163): one invariant of the exposure table, of
every list and message that names a sponsor, and of the message queue, and one of the forwarding queue. -/

namespace Sys2Proof.Proofs

open Sys2Proof.Machine Sys2Proof.Safety

/-- R144: every sponsor ID of a list has an entry. -/
def Covers (t : List ExposureEntry) (ids : List Nat) : Prop := ∀ id ∈ ids, Entered t id

/-- The sponsor IDs of a pending list. -/
def gatherSponsors (g : Option Gather) : List Nat := (g.map (fun g => listSponsors g.list)).getD []

/-- The exposure table sound, every name in it, the messages in their order, and the celebration's priority one of R155's. -/
structure TablesSound (s : State) : Prop where
  table : TableSound s.exposure.entries
  ribbons : ∀ id, Covers s.exposure.entries (ribbonSponsors (ribbonOf id s))
  gather : Covers s.exposure.entries (gatherSponsors s.rotation.gather)
  messages : MessagesSound (fun m => Entered s.exposure.entries m.sponsor) s
  celebration : ∀ m, s.figures.celebration = some m → m.priority ≤ 3

abbrev tableParts : List Part :=
  [.entries, .ribbon .a, .ribbon .b, .gather, .messageQueue, .onAir, .celebration]

theorem ribbonOf_congr {s t : State} (h : ∀ id, (Part.ribbon id).Same s t) (id : RibbonId) : ribbonOf id t = ribbonOf id s := by
  have hid := h id
  cases id <;> exact hid

theorem tablesSound_dependsOn : DependsOn tableParts TablesSound := fun s t h hs => by
  have hentries : t.exposure.entries = s.exposure.entries := h .entries (by decide)
  have hgather : t.rotation.gather = s.rotation.gather := h .gather (by decide)
  have hcelebration : t.figures.celebration = s.figures.celebration := h .celebration (by decide)
  have hribbon (id : RibbonId) : ribbonOf id t = ribbonOf id s :=
    ribbonOf_congr (fun id => h (.ribbon id) (by cases id <;> decide)) id
  refine ⟨hentries ▸ hs.table, fun id => ?_, ?_, ?_, hcelebration ▸ hs.celebration⟩
  · rw [hentries, hribbon]
    exact hs.ribbons id
  · rw [hentries, hgather]
    exact hs.gather
  · rw [hentries]
    exact messagesSound_dependsOn _ s t (fun p hp => h p (by revert p; decide)) hs.messages

theorem entered_keepsRepeats (t : List ExposureEntry) : KeepsRepeats (fun m => Entered t m.sponsor) := fun _ _ h => h

/-! ### What names a sponsor -/

theorem mem_listSponsors (l : SlotList) (id : Nat) :
    id ∈ listSponsors l ↔ ∃ x ∈ l.slots, ∃ duty raster, x.content = .sponsor id duty raster := by
  unfold listSponsors
  rw [List.mem_filterMap]
  refine exists_congr fun x => and_congr_right fun _ => ?_
  cases x.content with
  | sponsor n d a =>
    simp only [Option.some.injEq, SlotContent.sponsor.injEq]
    exact ⟨fun h => ⟨d, a, h, rfl, rfl⟩, fun ⟨_, _, h, _⟩ => h⟩
  | skip => simp

theorem mem_ribbonSponsors (r : Ribbon) (id : Nat) :
    id ∈ ribbonSponsors r ↔ ∃ l, Holds r l ∧ id ∈ listSponsors l := by
  unfold ribbonSponsors Holds
  rw [List.mem_append]
  cases r.committed <;> cases r.staged <;> simp [or_and_right, exists_or]

/-- R144, R151: the IDs that a purge keeps are those named. -/
theorem mem_referenced (s : State) (id : Nat) : id ∈ referenced s ↔ NamesSponsor s id := by
  have hribbon (r : Ribbon) : id ∈ ribbonSponsors r ↔
      ∃ l, (r.committed = some l ∨ r.staged.map (·.list) = some l) ∧ id ∈ listSponsors l := by
    simp only [mem_ribbonSponsors, Holds, Option.map_eq_some_iff]
  have hgather : id ∈ (s.rotation.gather.map (fun g => listSponsors g.list)).getD [] ↔
      ∃ l, s.rotation.gather.map (·.list) = some l ∧ id ∈ listSponsors l := by
    cases s.rotation.gather <;> simp
  have hair : id ∈ (s.messages.onAir.map (fun o => [o.msg.sponsor])).getD [] ↔
      ∃ o, s.messages.onAir = some o ∧ o.msg.sponsor = id := by
    cases s.messages.onAir <;> simp [eq_comm]
  simp only [referenced, List.mem_append, hribbon, hgather, hair, List.mem_map, NamesSponsor, ← mem_listSponsors]
  constructor
  · rintro ((((⟨l, h, hid⟩ | ⟨l, h, hid⟩) | ⟨l, h, hid⟩) | hq) | ho)
    · exact .inl ⟨l, h.elim .inl (.inr ∘ .inl), hid⟩
    · exact .inl ⟨l, h.elim (.inr ∘ .inr ∘ .inl) (.inr ∘ .inr ∘ .inr ∘ .inl), hid⟩
    · exact .inl ⟨l, .inr (.inr (.inr (.inr h))), hid⟩
    · exact .inr (.inl hq)
    · exact .inr (.inr ho)
  · rintro (⟨l, h | h | h | h | h, hid⟩ | hq | ho)
    · exact .inl (.inl (.inl (.inl ⟨l, .inl h, hid⟩)))
    · exact .inl (.inl (.inl (.inl ⟨l, .inr h, hid⟩)))
    · exact .inl (.inl (.inl (.inr ⟨l, .inl h, hid⟩)))
    · exact .inl (.inl (.inl (.inr ⟨l, .inr h, hid⟩)))
    · exact .inl (.inl (.inr ⟨l, h, hid⟩))
    · exact .inl (.inr hq)
    · exact .inr ho

theorem tablesSound_iff (s : State) :
    TablesSound s ↔ ExposureBalances s ∧ ExposureOrdered s ∧ SponsorsEntered s ∧ MessagesOrdered s := by
  have hentered : SponsorsEntered s ↔ Covers s.exposure.entries (referenced s) := by
    simp only [SponsorsEntered, Covers, Entered, mem_referenced, hasEntry_iff]
    exact ⟨fun h id hn h0 => h id h0 hn, fun h id h0 hn => h id hn h0⟩
  have hcovers (t : List ExposureEntry) (a b : List Nat) : Covers t (a ++ b) ↔ Covers t a ∧ Covers t b :=
    List.forall_mem_append
  rw [hentered, referenced, hcovers, hcovers, hcovers, hcovers, ← and_assoc, ← tableSound_iff]
  constructor
  · rintro ⟨htable, hribbons, hgather, hmessages, hcelebration⟩
    refine ⟨htable, ⟨⟨⟨⟨hribbons .a, hribbons .b⟩, hgather⟩, ?_⟩, ?_⟩, hmessages.bounded, hmessages.classed,
      hmessages.leads, hcelebration⟩
    · intro id hid
      obtain ⟨m, hm, rfl⟩ := List.mem_map.1 hid
      exact hmessages.queued m hm
    · intro id hid
      cases ho : s.messages.onAir with
      | none =>
        rw [ho] at hid
        exact absurd hid List.not_mem_nil
      | some o =>
        rw [ho] at hid
        exact List.mem_singleton.1 hid ▸ hmessages.shown o ho
  · rintro ⟨htable, ⟨⟨⟨⟨ha, hb⟩, hgather⟩, hqueued⟩, hair⟩, hbounded, hclassed, hleads, hcelebration⟩
    refine ⟨htable, fun id => ?_, hgather, ⟨hbounded, hclassed, hleads, ?_, ?_⟩, hcelebration⟩
    · cases id
      · exact ha
      · exact hb
    · exact fun m hm => hqueued _ (List.mem_map_of_mem hm)
    · intro o ho
      rw [ho] at hair
      exact hair _ (List.mem_singleton_self _)

/-! ### The table -/

theorem Covers.mono {t u : List ExposureEntry} {ids : List Nat} (h : Covers t ids)
    (htu : ∀ id, Entered t id → Entered u id) : Covers u ids := fun id hid => htu id (h id hid)

/-- A table that keeps its entries. -/
theorem TablesSound.withEntries {s : State} (h : TablesSound s) {u : List ExposureEntry} (hu : TableSound u)
    (hgrows : ∀ id, Entered s.exposure.entries id → Entered u id) : TablesSound { s with exposure.entries := u } :=
  ⟨hu, fun id => (h.ribbons id).mono hgrows, h.gather.mono hgrows, (h.messages.mono fun _ => hgrows _).of_messages rfl,
    h.celebration⟩

theorem reportSlot_tables (r : SlotReport) : Keeps TablesSound (reportSlot r) := fun _ hs =>
  hs.withEntries (takeReport_sound r hs.table) fun id => (entered_congr (takeReport_sponsors r _) id).2

/-- R151: the names stand after the purge. -/
theorem takeSnapshot_tables (tag : Half) (zero purge : Bool) (dest : Nat) :
    Keeps TablesSound (takeSnapshot tag zero purge dest) := fun s hs => by
  have named {id : Nat} (hid : NamesSponsor s id) (h : Entered s.exposure.entries id) :=
    zeroAndPurge_entered zero purge ((mem_referenced s id).2 hid) h
  refine ⟨zeroAndPurge_sound zero purge _ hs.table, fun r id hid => ?_, fun id hid => ?_, ?_, hs.celebration⟩
  · refine named ?_ (hs.ribbons r id hid)
    rw [← mem_referenced]
    cases r
    · exact List.mem_append_left _ (List.mem_append_left _ (List.mem_append_left _ (List.mem_append_left _ hid)))
    · exact List.mem_append_left _ (List.mem_append_left _ (List.mem_append_left _ (List.mem_append_right _ hid)))
  · refine named ?_ (hs.gather id hid)
    rw [← mem_referenced]
    exact List.mem_append_left _ (List.mem_append_left _ (List.mem_append_right _ hid))
  · obtain ⟨hbounded, hclassed, hleads, hqueued, hshown⟩ := hs.messages
    exact ⟨hbounded, hclassed, hleads, fun m hm => named (.inr (.inl ⟨m, hm, rfl⟩)) (hqueued m hm),
      fun o ho => named (.inr (.inr ⟨o, ho, rfl⟩)) (hshown o ho)⟩

theorem startSnapshot_tables (tag : Half) (zero purge : Byte) (dest : Nat) :
    Keeps TablesSound (startSnapshot tag zero purge dest) := fun s hs => by
  unfold startSnapshot
  split
  · exact tablesSound_dependsOn.kept (settleLong_within _ _ s) (by decide) hs
  · split
    · exact tablesSound_dependsOn.kept (settleLong_within _ _ s) (by decide) hs
    · exact takeSnapshot_tables _ _ _ _ s hs

/-! ### Ribbons and the pending list -/

theorem TablesSound.covers {s : State} (h : TablesSound s) {id : RibbonId} {l : SlotList} (hl : Holds (ribbonOf id s) l) :
    Covers s.exposure.entries (listSponsors l) := fun n hn =>
  h.ribbons id n ((mem_ribbonSponsors _ n).2 ⟨l, hl, hn⟩)

theorem setRibbon_tables {s : State} (hs : TablesSound s) {id : RibbonId} {x : Ribbon}
    (hx : ∀ l, Holds x l → Covers s.exposure.entries (listSponsors l)) : TablesSound (setRibbon id x s) := by
  have held : Covers s.exposure.entries (ribbonSponsors x) := fun n hn => by
    obtain ⟨l, hl, hmem⟩ := (mem_ribbonSponsors x n).1 hn
    exact hx l hl n hmem
  obtain ⟨htable, hribbons, hgather, ⟨h1, h2, h3, h4, h5⟩, hcelebration⟩ := hs
  cases id
  · exact ⟨htable, fun r => by cases r <;> [exact held; exact hribbons .b], hgather, ⟨h1, h2, h3, h4, h5⟩, hcelebration⟩
  · exact ⟨htable, fun r => by cases r <;> [exact hribbons .a; exact held], hgather, ⟨h1, h2, h3, h4, h5⟩, hcelebration⟩

/-- The lists that a ribbon held. -/
theorem setRibbon_held {s : State} (hs : TablesSound s) {id : RibbonId} {x : Ribbon}
    (hx : ∀ l, Holds x l → Holds (ribbonOf id s) l) : TablesSound (setRibbon id x s) :=
  setRibbon_tables hs fun l hl => hs.covers (hx l hl)

theorem handRibbon_within_rest (id : RibbonId) (o : RibbonOutcome) (s : State) :
    Within [.flag .rotationCommitted, .epochs (.sponsor id), .watch] (setRibbon id o.ribbon s) (handRibbon id o s) := by
  unfold handRibbon
  have raised := (raiseIf_within o.committed .rotationCommitted (setRibbon id o.ribbon s))
  dsimp only
  split
  · have hcommitted := raised.mono (qs := [.flag .rotationCommitted, .epochs (.sponsor id), .watch]) (by cases id <;> decide)
    exact (hcommitted.andThen (bumpZones_within (showsRibbon_kind id) _) (by cases id <;> decide)).andThen
      (rebuildWatch_within _) (by cases id <;> decide)
  · exact raised.mono (by cases id <;> decide)

theorem handRibbon_tables {s : State} {id : RibbonId} {o : RibbonOutcome} (h : TablesSound (setRibbon id o.ribbon s)) :
    TablesSound (handRibbon id o s) :=
  tablesSound_dependsOn.kept (handRibbon_within_rest id o s) (by cases id <;> rfl) h

theorem ribbonWork_tables (id : RibbonId) : Keeps TablesSound (ribbonWork id) := fun s hs =>
  handRibbon_tables (setRibbon_held hs (ribbonBoundary_works (clockPhase s) (ribbonOf id s)).lists)

theorem rotationWork_tables : Keeps TablesSound rotationWork := fun s hs => by
  unfold rotationWork
  split
  · exact hs
  · exact ribbonWork_tables .b _ (ribbonWork_tables .a s hs)

theorem ribbonEnable_tables (b : Byte) : Keeps TablesSound (fun s => (ribbonEnable b s).state) := fun s hs => by
  dsimp only [ribbonEnable]
  split
  · exact hs
  · split
    · split
      · exact hs
      · exact setRibbon_held hs fun _ h => h
    · exact hs
    · exact hs
    · exact setRibbon_held hs fun _ h => h

theorem ribbonDisable_tables (b : Byte) : Keeps TablesSound (fun s => (ribbonDisable b s).state) := fun s hs => by
  dsimp only [ribbonDisable]
  split
  · exact hs
  · split
    · exact hs
    · exact hs
    · refine handRibbon_tables (setRibbon_held hs fun l hl => ?_)
      have held := commitOff_lists _ l hl
      exact held
    · exact setRibbon_held hs fun _ h => h

theorem cancelStaged_tables (id : RibbonId) : Keeps TablesSound (fun s => (cancelStaged id s).state) := fun s hs => by
  dsimp only [cancelStaged]
  split
  · exact hs
  · refine setRibbon_held hs fun l hl => ?_
    rcases hl with h | ⟨x, hx, _⟩
    · exact .inl h
    · cases hx

/-- The pending list replaced. -/
theorem TablesSound.withGather {s : State} (h : TablesSound s) {g : Option Gather}
    (hg : Covers s.exposure.entries (gatherSponsors g)) : TablesSound { s with rotation.gather := g } := by
  obtain ⟨htable, hribbons, _, ⟨h1, h2, h3, h4, h5⟩, hcelebration⟩ := h
  exact ⟨htable, fun r => by cases r <;> [exact hribbons .a; exact hribbons .b], hg, ⟨h1, h2, h3, h4, h5⟩, hcelebration⟩

theorem covers_nil (t : List ExposureEntry) : Covers t [] := fun _ h => absurd h List.not_mem_nil

theorem TablesSound.ofGather {s : State} (h : TablesSound s) {g : Gather} (hg : s.rotation.gather = some g) :
    Covers s.exposure.entries (listSponsors g.list) := by
  have hcovers := h.gather
  rw [hg] at hcovers
  exact hcovers

theorem refuseAmend_tables (r : Result) (d : Nat) : Keeps TablesSound (refuseAmend r d) := fun _ hs =>
  tablesSound_dependsOn.kept (raise_within .rotationRefused _) (by decide)
    (tablesSound_dependsOn.kept (settleLong_within r d _) (by decide) (hs.withGather (g := none) (covers_nil _)))

theorem startAmend_tables (op : AmendOperand) : Keeps TablesSound (startAmend op) := fun s hs => by
  unfold startAmend
  split
  · exact refuseAmend_tables _ _ s hs
  · split
    · exact refuseAmend_tables _ _ s hs
    · rename_i id _
      dsimp only
      split
      · exact refuseAmend_tables _ _ s hs
      · split
        · exact refuseAmend_tables _ _ s hs
        · refine tablesSound_dependsOn.kept (setRecords_within _ _) (by decide) (hs.withGather fun n hn => ?_)
          obtain ⟨x, hx, hcontent⟩ := (mem_listSponsors _ n).1 hn
          have hmem : x ∈ pendingStart op (ribbonOf id s) := hx
          unfold pendingStart at hmem
          split at hmem
          · cases hlist : (ribbonOf id s).committed with
            | none =>
              rw [hlist] at hmem
              exact absurd hmem List.not_mem_nil
            | some l =>
              rw [hlist] at hmem
              exact hs.covers (.inl hlist) n ((mem_listSponsors l n).2 ⟨x, hmem, hcontent⟩)
          · exact absurd hmem List.not_mem_nil

theorem joinAmend_tables (op : AmendOperand) {g : Gather} {s : State} (hg : s.rotation.gather = some g)
    (hs : TablesSound s) : TablesSound (joinAmend op g s).state := by
  unfold joinAmend
  split
  · exact hs
  · split
    · exact refuseAmend_tables _ _ s hs
    · exact tablesSound_dependsOn.kept (setPhase_within _ _) (by decide) (hs.withGather (g := some _) (hs.ofGather hg :))

theorem gathering_some {op : AmendOperand} {s : State} {g : Gather} (h : gathering op s = some g) :
    s.rotation.gather = some g := by
  unfold gathering at h
  split at h
  · rename_i hg
    split at h
    · cases h
      exact hg
    · cases h
  · cases h

theorem longCue_keeps {ds : List Part} {inv : State → Prop} (h : DependsOn ds inv)
    (apart : meets ds (.lane :: settleParts) = false) {owner : State → State} (howner : Keeps inv owner) (c : LongCue)
    (tag : Half) (p : LanePhase) (addrs : List Quad) : Keeps inv (longCue c tag p addrs owner) := fun s hs => by
  have aside {s t : State} {ps : List Part} (hst : Within ps s t) (sub : ∀ p ∈ ps, p ∈ Part.lane :: settleParts)
      (hs : inv s) : inv t := h.kept (hst.mono sub) apart hs
  unfold longCue
  split
  · exact aside (settleShort_within _ _ _ _ s) (by decide) hs
  · have accepted := aside (acceptLong_within c tag p s) (by decide) hs
    dsimp only
    split
    · exact howner _ accepted
    · exact aside (settleLong_within _ _ _) (by decide) accepted

theorem cueRotationAmend_tables (tag : Half) (op : AmendOperand) : Keeps TablesSound (cueRotationAmend tag op) :=
  fun s hs => by
    unfold cueRotationAmend
    split
    · rename_i g hg
      refine tablesSound_dependsOn.kept (settleShort_within _ _ _ _ _) (by decide) ?_
      unfold withAddress
      split
      · exact hs
      · exact joinAmend_tables op (gathering_some hg) hs
    · exact longCue_keeps tablesSound_dependsOn (by decide) (startAmend_tables op) _ _ _ _ s hs

/-- R135, R144: a record joins with its sponsor entered. -/
theorem joinRecord_tables {x : SlotRec} {g : Gather} {t : List ExposureEntry} {s : State} (hs : TablesSound s)
    (hg : s.rotation.gather = some g) (ht : requestFor x s.exposure.entries = some t) :
    TablesSound (joinRecord x g { s with exposure.entries := t }) := by
  refine tablesSound_dependsOn.kept (setRecords_within _ _) (by decide) ?_
  unfold requestFor at ht
  have joined {u : List ExposureEntry} (hu : Covers u (listSponsors g.list))
      (hx : ∀ n duty a, x.content = .sponsor n duty a → Entered u n) :
      Covers u (gatherSponsors (some { g with list := { g.list with slots := g.list.slots ++ [x] }, left := g.left - 1 })) := by
    intro n hn
    obtain ⟨y, hy, duty, a, hcontent⟩ := (mem_listSponsors _ n).1 hn
    rcases List.mem_append.1 hy with hold | hnew
    · exact hu n ((mem_listSponsors _ n).2 ⟨y, hold, duty, a, hcontent⟩)
    · exact hx n duty a (List.mem_singleton.1 hnew ▸ hcontent)
  split at ht
  · rename_i n duty a hcontent
    obtain ⟨hnew, hgrows⟩ := requestEntry_entered ht
    refine (hs.withEntries (requestEntry_sound ht hs.table) hgrows).withGather (joined ((hs.ofGather hg).mono hgrows) ?_)
    intro k duty' a' hk
    rw [hcontent] at hk
    cases hk
    exact hnew
  · rename_i hskip
    cases ht
    refine hs.withGather (joined (hs.ofGather hg) ?_)
    intro k duty' a' hk
    rw [hskip] at hk
    cases hk

theorem takeRecords_tables (l : Line) (n : Nat) : ∀ k, Keeps TablesSound (takeRecords l n k) := by
  induction n with
  | zero => exact fun _ _ hs => hs
  | succ n ih =>
    intro k s hs
    unfold takeRecords
    split
    · exact hs
    · rename_i g hg
      dsimp only
      split
      · exact refuseAmend_tables _ _ s hs
      · split
        · exact refuseAmend_tables _ _ s hs
        · rename_i ht
          exact ih (k + 1) _ (joinRecord_tables hs hg ht)

theorem slotRecordLine_tables (l : Line) : Keeps TablesSound (slotRecordLine l) := fun s hs => by
  unfold slotRecordLine
  split
  · rename_i g _
    have taken := takeRecords_tables l (min 4 g.left) 0 s hs
    unfold afterRecords
    split
    · rename_i g hg
      split
      · exact tablesSound_dependsOn.kept (setPhase_within _ _) (by decide) (taken.withGather (g := some _) (taken.ofGather hg :))
      · exact taken.withGather (g := some _) (taken.ofGather hg :)
    · exact taken
  · exact hs

theorem stage_tables {g : Gather} {s : State} (hg : s.rotation.gather = some g) (hs : TablesSound s) :
    TablesSound (stage g s) := by
  have emptied := hs.withGather (g := none) (covers_nil _)
  have staged (l : SlotList) (hl : Holds { ribbonOf g.ribbon s with staged := some { list := g.list, point := g.point } } l) :
      Covers s.exposure.entries (listSponsors l) := by
    rcases hl with h | ⟨x, hx, rfl⟩
    · exact hs.covers (.inl h)
    · cases hx
      exact hs.ofGather hg
  unfold stage
  refine tablesSound_dependsOn.kept (settleLong_within _ _ _) (by decide) ?_
  dsimp only
  split
  · exact handRibbon_tables (setRibbon_tables emptied fun l hl => staged l (commitOff_lists _ l hl))
  · exact setRibbon_tables emptied staged

theorem stepGather_tables : Keeps TablesSound stepGather := fun s hs => by
  unfold stepGather
  split
  · rename_i g hg
    split
    · split
      · unfold judgeGather
        split
        · exact refuseAmend_tables _ _ s hs
        · exact stage_tables hg hs
      · exact hs.withGather (g := some _) (hs.ofGather hg :)
    · exact hs
  · exact hs

theorem expireGather_tables : Keeps TablesSound expireGather := fun s hs => by
  unfold expireGather
  split
  · split
    · exact stepGather_tables s hs
    · exact hs
  · exact hs

/-! ### Messages -/

/-- An operation on the messages alone. -/
theorem messages_tables {s t : State} (hs : TablesSound s) {ps : List Part} (hst : Within ps s t)
    (apart : meets [.entries, .ribbon .a, .ribbon .b, .gather, .celebration] ps = false)
    (h : ∀ P, KeepsRepeats P → MessagesSound P s → MessagesSound P t) : TablesSound t := by
  have kept := fun (p : Part) (hp : p ∈ [Part.entries, .ribbon .a, .ribbon .b, .gather, .celebration]) =>
    hst p fun hin => by
      simp only [meets, List.any_eq_false, decide_eq_true_eq] at apart
      exact apart p hp hin
  have hentries : t.exposure.entries = s.exposure.entries := kept .entries (by decide)
  have hgather : t.rotation.gather = s.rotation.gather := kept .gather (by decide)
  have hcelebration : t.figures.celebration = s.figures.celebration := kept .celebration (by decide)
  have hribbon (id : RibbonId) : ribbonOf id t = ribbonOf id s :=
    ribbonOf_congr (fun id => kept (.ribbon id) (by cases id <;> decide)) id
  refine ⟨hentries ▸ hs.table, fun id => ?_, ?_, ?_, hcelebration ▸ hs.celebration⟩
  · rw [hentries, hribbon]
    exact hs.ribbons id
  · rw [hentries, hgather]
    exact hs.gather
  · rw [hentries]
    exact h _ (entered_keepsRepeats _) hs.messages

/-- R156: a post of a record of priority up to 3. -/
theorem post_tables {m : Message} (htop : m.priority ≤ 3) : Keeps TablesSound (fun s => (post m s).state) := fun s hs => by
  have placed {t : List ExposureEntry} (ht : TableSound t)
      (hgrows : ∀ id, Entered s.exposure.entries id → Entered t id) (hm : Entered t m.sponsor)
      (hnew : ¬ onAirId s = some m.id) : TablesSound (placePost m { s with exposure.entries := t }) := by
    have grown := hs.withEntries ht hgrows
    have hfresh : ∀ o, s.messages.onAir = some o → o.msg.id ≠ m.id := fun o ho heq => hnew (by
      rw [onAirId, ho]
      exact congrArg some heq)
    have hmessages := placePost_sound (s := { s with exposure.entries := t }) hm htop hfresh grown.messages
    have hentries : (placePost m { s with exposure.entries := t }).exposure.entries = t :=
      placePost_within m { s with exposure.entries := t } .entries (by decide)
    have hgather : (placePost m { s with exposure.entries := t }).rotation.gather = s.rotation.gather :=
      placePost_within m { s with exposure.entries := t } .gather (by decide)
    have hcelebration : (placePost m { s with exposure.entries := t }).figures.celebration = s.figures.celebration :=
      placePost_within m { s with exposure.entries := t } .celebration (by decide)
    have hribbon (id : RibbonId) : ribbonOf id (placePost m { s with exposure.entries := t }) = ribbonOf id s :=
      ribbonOf_congr (fun id => placePost_within m { s with exposure.entries := t } (.ribbon id) (by cases id <;> decide)) id
    refine ⟨hentries.symm ▸ ht, fun id => ?_, ?_, ?_, hcelebration ▸ hs.celebration⟩
    · rw [hentries, hribbon]
      exact grown.ribbons id
    · rw [hentries, hgather]
      exact grown.gather
    · rw [hentries]
      exact hmessages
  dsimp only [post]
  split
  · exact hs
  · split
    · exact hs
    case isFalse hnew =>
      split
      · exact hs
      · split
        · exact hs
        · rename_i t ht
          split at ht
          · rename_i hnone
            cases ht
            exact placed hs.table (fun _ h => h) (fun h0 => absurd hnone h0) hnew
          · obtain ⟨hentered, hgrows⟩ := requestEntry_entered ht
            exact placed (requestEntry_sound ht hs.table) hgrows hentered hnew

theorem messageOk_priority {m : MessageOperand} (h : messageOk m = true) : m.priority.toNat ≤ 3 := by
  simp only [messageOk, Bool.and_eq_true, decide_eq_true_eq] at h
  obtain ⟨⟨⟨⟨⟨⟨⟨⟨⟨_, h⟩, _⟩, _⟩, _⟩, _⟩, _⟩, _⟩, _⟩, _⟩ := h
  exact h

theorem postOperand_tables (m : MessageOperand) : Keeps TablesSound (fun s => (postOperand m s).state) := fun s hs => by
  dsimp only [postOperand]
  split
  · rename_i hok
    exact post_tables (messageOk_priority hok) s hs
  · exact hs

theorem setCelebration_tables (e : Byte) (m : MessageOperand) : Keeps TablesSound (fun s => (setCelebration e m s).state) :=
  fun s hs => by
    have celebrating {x : Option Message} (hx : ∀ m, x = some m → m.priority ≤ 3) :
        TablesSound { s with figures.celebration := x } := by
      obtain ⟨htable, hribbons, hgather, ⟨h1, h2, h3, h4, h5⟩, _⟩ := hs
      exact ⟨htable, fun r => by cases r <;> [exact hribbons .a; exact hribbons .b], hgather, ⟨h1, h2, h3, h4, h5⟩, hx⟩
    dsimp only [setCelebration]
    split
    · exact celebrating nofun
    · split
      · rename_i hok
        refine celebrating fun x hx => ?_
        cases hx
        exact messageOk_priority hok.2
      · exact hs

theorem writeScores_tables (p : ScorePayload) : Keeps TablesSound (writeScores p) := fun s hs => by
  unfold writeScores
  have written : TablesSound { s with
      figures.home := clampScore p.home.toNat
      figures.guest := clampScore p.guest.toNat
      figures.homeAux := clampAux p.homeAux.toNat
      figures.guestAux := clampAux p.guestAux.toNat } :=
    tablesSound_dependsOn.kept (ps := [.home, .guest, .homeAux, .guestAux]) (.of_merge rfl) (by decide) hs
  have shown := tablesSound_dependsOn.kept (refreshStrings_within _) (by decide) written
  dsimp only
  split
  · rename_i m hm
    split
    · have posted := post_tables (shown.celebration m hm) _ shown
      unfold celebrate
      dsimp only
      split
      · exact posted
      · exact tablesSound_dependsOn.kept (raise_within .messageDropped _) (by decide)
          (tablesSound_dependsOn.kept (ps := [.lastGone]) (.of_merge rfl) (by decide) posted)
    · exact shown
  · exact shown

theorem tablesSound_alertKeeps : AlertKeeps tableParts TablesSound where
  dependsOn := tablesSound_dependsOn
  apart := by decide
  offAir := fun s x _ _ _ hs => tablesSound_dependsOn.kept
    (ps := [.alertState, .latch, .debounce, .raised, .standing, .colour, .chosen]) (.of_merge rfl) (by decide) hs
  entry := fun s hs => messages_tables hs (alertEntry_within s) (by decide) fun P _ hm =>
    (messagesSound_dependsOn P).kept (rebuildWatch_within _) (by decide)
      ((messagesSound_dependsOn P).kept (recomputeDuty_within _) (by decide)
        (alertReturnsMessage_sound _ ((messagesSound_dependsOn P).kept (alertHoldsClip_within _) (by decide)
          ((messagesSound_dependsOn P).kept (raise_within .alertOnAir _) (by decide)
            ((messagesSound_dependsOn P).kept (ps := [.alertState]) (.of_merge rfl) (by decide) hm)))))
  release := fun s hs => messages_tables hs (releaseAlert_within s) (by decide) fun P _ hm =>
    (messagesSound_dependsOn P).kept (rebuildWatch_within _) (by decide)
      (settleAir_sound false _ ((messagesSound_dependsOn P).kept (recomputeDuty_within _) (by decide)
        ((messagesSound_dependsOn P).kept (ps := [.alertState, .latch, .raised, .chosen]) (.of_merge rfl) (by decide) hm)))

/-! ### Every step -/

/-- Nothing names a sponsor. -/
theorem tablesSound_of_empty {s : State} (ht : TableSound s.exposure.entries) (hr : s.rotation = coldRotation)
    (hm : s.messages = coldMessages) (hc : s.figures.celebration = none) : TablesSound s := by
  refine ⟨ht, fun id => ?_, ?_, ⟨?_, ?_, ?_, ?_, ?_⟩, ?_⟩
  · have hid : ribbonSponsors (ribbonOf id s) = [] := by
      cases id
      · exact congrArg (fun r : RotationUnit => ribbonSponsors r.a) hr
      · exact congrArg (fun r : RotationUnit => ribbonSponsors r.b) hr
    rw [hid]
    exact covers_nil _
  · rw [hr]
    exact covers_nil _
  · rw [hm]
    exact Nat.zero_le _
  · rw [hm]
    exact .nil
  · rw [hm]
    exact nofun
  · rw [hm]
    exact nofun
  · rw [hm]
    exact nofun
  · rw [hc]
    exact nofun

theorem tableSound_nil : TableSound [] := ⟨nofun, Nat.zero_le _, .nil⟩

theorem endLong_tables : Keeps TablesSound endLong := fun s hs => by
  unfold endLong
  split
  · exact tablesSound_dependsOn.kept (cancelSnapshot_within _ s) (by decide) hs
  · refine tablesSound_dependsOn.kept (settleLong_within _ _ _) (by decide)
      (tablesSound_dependsOn.kept (dropRecord_within _) (by decide) ?_)
    exact tablesSound_dependsOn.kept (ps := [.load, .glyphLoad, .arm]) (.of_merge rfl) (by decide)
      (hs.withGather (g := none) (covers_nil _))

theorem cancel_tables (t : Byte) : Keeps TablesSound (fun s => (cancel t s).state) := fun s hs => by
  dsimp only [cancel]
  split
  · unfold cancelLong
    split
    · exact endLong_tables s hs
    · exact hs
  · exact cancelStaged_tables .a s hs
  · exact cancelStaged_tables .b s hs
  · exact hs

theorem restartUnits_tables : Keeps TablesSound restartUnits := fun _ hs =>
  tablesSound_of_empty hs.table rfl rfl rfl

theorem slotDeadline_tables : Keeps TablesSound slotDeadline :=
  slotDeadline_keeps tablesSound_dependsOn (by decide)
    (fun before x after => tablesSound_dependsOn.keeps (recordClose_within before x after) (by decide)) reportSlot_tables

theorem applyLayout_tables : Keeps TablesSound applyLayout :=
  have h := tablesSound_dependsOn
  applyLayout_keeps h (by decide) (fun l => h.keeps (installZones_within l) (by decide))
    (fun b => h.keeps (replayRelayout_within b) (by decide))
    (fun old new s hs => messages_tables hs (messageRelayout_within old new s) (by decide)
      fun _ _ hm => messageRelayout_sound old new s hm)
    (h.keeps rebuildWatch_within (by decide))

theorem tablesSound_keptByStep : KeptByStep TablesSound := by
  have h := tablesSound_dependsOn
  have alerts := tablesSound_alertKeeps
  have cold : Keeps TablesSound coldUnits := fun s _ => tablesSound_of_empty tableSound_nil rfl rfl rfl
  have short {owner : State → PostOutcome} (tag : Half) (code : Byte)
      (howner : Keeps TablesSound (fun s => (owner s).state)) : Keeps TablesSound (outOfBypass (shortCue tag code owner)) :=
    outOfBypass_keeps_of (shortCue_keeps h (by decide) howner tag code)
  refine h.keptByUnits (by decide) (by decide) (fun n d m => h.keeps (forwardWrite_within n d m) (by decide)) ?_
  intro i hgrant hmeets
  cases i
  case mportGrant => exact (hgrant rfl).elim
  case coldReset => exact coldReset_keeps h (by decide) cold
  case initialisationComplete straps =>
    exact initialisationComplete_keeps h (by decide) cold (h.keeps sampleLines_within (by decide)) straps
  case slotRecordLineArrival =>
    exact fun s hs => arrival_keeps (mine := fun o => o == .slotRecords) (use := slotRecordLine)
      (fun hs => h.kept (ps := [.port]) (.of_merge rfl) (by decide) hs) slotRecordLine_tables hs
  case sweepBoundary order hold =>
    refine outOfBypass_keeps_of (sweepBoundary_keeps h (by decide) slotDeadline_tables (fun t => ?_)
      (h.keeps exchangeFlips_within (by decide))
      (fun s hs => messages_tables hs (startOnAir_within s) (by decide) fun _ _ hm => startOnAir_sound s hm)
      (h.keeps startFrame_within (by decide)) order hold)
    cases t
    case layout => exact applyLayout_tables
    case alert => exact alerts.alertWork (by decide)
    case replay => exact h.keeps replayWork_within (by decide)
    case rotation => exact rotationWork_tables
    case message =>
      exact fun s hs => messages_tables hs (messageWork_within s) (by decide) fun _ hP hm => messageWork_sound hP s hm
  case slotDeadline => exact outOfBypass_keeps_of slotDeadline_tables
  case clockTimebaseStep =>
    exact timebaseStep_keeps h (by decide) (h.keeps stepClocks_within (by decide)) (h.keeps stepGap_within (by decide))
      (h.keeps stepWatchdog_within (by decide)) (h.keeps stepIdle_within (by decide))
      (h.keeps stepChase_within (by decide)) stepGather_tables alerts.stepDebounce (h.keeps stepHeat_within (by decide))
  case scoreFrame p => exact outOfBypass_keeps_of (writeScores_tables p)
  case gatherTimerExpiry => exact outOfBypass_keeps_of expireGather_tables
  case venueAlertLineAsserted => exact levelOr_keeps h (by decide) (alerts.venueAsserts (by decide)) _
  case debounceExpiry => exact outOfBypass_keeps_of alerts.expireDebounce
  case timingLineByte b e =>
    exact outOfBypass_keeps_of (takeByte_keeps h (by decide) (fun p => h.keeps (takeBeacon_within p) (by decide))
      writeScores_tables b e)
  case rotationAmend tag op => exact outOfBypass_keeps_of (cueRotationAmend_tables tag op)
  case exposureSnapshot tag z p d =>
    exact outOfBypass_keeps_of (longCue_keeps h (by decide) (startSnapshot_tables tag z p d.toNat) _ _ _ _)
  case ribbonEnable tag b => exact short tag 0x30 (ribbonEnable_tables b)
  case ribbonDisable tag b => exact short tag 0x31 (ribbonDisable_tables b)
  case messagePost tag m => exact short tag 0x40 (withAddress_keeps (postOperand_tables m) true m.addr)
  case messageWithdraw tag id =>
    exact short tag 0x41 (fun s hs => messages_tables hs (withdraw_within id.toNat s) (by decide)
      fun _ _ hm => withdraw_sound id.toNat s hm)
  case celebrationSet tag e m => exact short tag 0x42 (withAddress_keeps (setCelebration_tables e m) (e != 0) m.addr)
  case alertRaise tag a => exact short tag 0x51 (withAddress_keeps (alerts.alertRaise a.toNat) true a)
  case alertClear tag => exact short tag 0x52 alerts.alertClear
  case scoreSet tag op => exact short (owner := scoreSet op) tag 0x73 (writeScores_tables op)
  case cancelLong tag => exact short tag 0x82 (cancel_tables 0)
  case cancelStaged tag t => exact short tag 0x82 (cancel_tables t)
  case restart tag => exact outOfBypass_keeps_of (cueRestart_keeps h (by decide) endLong_tables restartUnits_tables tag)
  all_goals exact (Bool.false_ne_true hmeets).elim

/-! ### The forwarding queue (R26) -/

theorem forwardingBounded_dependsOn : DependsOn [.queue, .offered] ForwardingBounded := fun s t h hs => by
  have hqueue : t.path.queue = s.path.queue := h .queue (by decide)
  have hoffered : t.path.offered = s.path.offered := h .offered (by decide)
  rw [ForwardingBounded, hqueue, hoffered]
  exact hs

theorem offer_bounded (t : Transaction) : Keeps ForwardingBounded (offer t) := fun s hs => by
  obtain ⟨hlen, hwithheld⟩ := hs
  unfold offer
  rw [show Config.queueCapacity = 32 from rfl]
  split
  case isTrue hroom =>
    have joined : ForwardingBounded { s with path.queue := s.path.queue ++ [t] } := by
      refine ⟨?_, fun hne => absurd (hwithheld hne) hroom.ne⟩
      rw [List.length_append, List.length_singleton]
      exact hroom
    dsimp only
    split
    · exact forwardingBounded_dependsOn.kept (decideHead_within _) (by decide) joined
    · exact joined
  case isFalse hfull => exact ⟨hlen, fun _ => le_antisymm hlen (not_lt.1 hfull)⟩

theorem leaveQueue_bounded : Keeps ForwardingBounded leaveQueue := fun s hs => by
  obtain ⟨hlen, hwithheld⟩ := hs
  refine forwardingBounded_dependsOn.kept (decideHead_within _) (by decide) ⟨?_, fun hne => ?_⟩
  · rw [List.length_append, List.length_tail, List.length_take]
    cases hoffered : s.path.offered with
    | nil => exact (Nat.sub_le _ _).trans hlen
    | cons x rest =>
      have hfull := hwithheld (hoffered ▸ List.cons_ne_nil x rest)
      rw [List.length_cons]
      omega
  · cases hoffered : s.path.offered with
    | nil => exact absurd (by rw [hoffered]; rfl) hne
    | cons x rest =>
      have hfull := hwithheld (hoffered ▸ List.cons_ne_nil x rest)
      rw [List.length_append, List.length_tail, List.length_take, List.length_cons]
      omega

theorem progressRead_bounded : Keeps ForwardingBounded progressRead := fun s hs => by
  unfold progressRead
  split
  · split
    · exact leaveQueue_bounded _ (forwardingBounded_dependsOn.kept (ps := [.reply, .lane]) (.of_merge rfl) (by decide) hs)
    · exact hs
  · exact hs

theorem grantController_bounded : Keeps ForwardingBounded grantController := fun s hs => by
  have h := forwardingBounded_dependsOn
  unfold grantController
  split
  · exact leaveQueue_bounded _ (h.kept (forwardRead_within _ s) (by decide) hs)
  · exact leaveQueue_bounded _ (h.kept (handOffWrite_within _ _ _ _) (by decide)
      (h.kept (forwardWrite_within _ _ _ s) (by decide) hs))
  · exact hs

theorem mportGrant_bounded : Keeps ForwardingBounded mportGrant := fun s hs => by
  have h := forwardingBounded_dependsOn
  have granted (r : Requester) : Keeps ForwardingBounded (grantTo r) := fun s hs => by
    cases r with
    | controller => exact grantController_bounded s hs
    | sweep => exact h.kept (grantSweep_within s) (by decide) hs
    | part => exact h.kept (grantPart_within s) (by decide) hs
  unfold mportGrant
  split
  · exact hs
  · have captured : ForwardingBounded (if s.bypass then s else captureIfDue s) := by
      split
      · exact hs
      · exact h.kept (captureIfDue_within s) (by decide) hs
    generalize (if s.bypass then s else captureIfDue s) = u at captured
    unfold grantLine
    split
    · exact granted _ _ (h.kept (ps := [.turn]) (.of_merge rfl) (by decide) captured)
    · exact captured

theorem forwardingBounded_keptByStep : KeptByStep ForwardingBounded := by
  refine forwardingBounded_dependsOn.keptByStep (by decide) fun i s hmeets hs => ?_
  cases i
  case transactionAccepted t => exact offer_bounded t s hs
  case mportGrant => exact mportGrant_bounded s hs
  case progressLineRead => exact progressRead_bounded s hs
  all_goals exact (Bool.false_ne_true hmeets).elim

/-- Settles O58: the names, the table and the messages by one invariant, and the forwarding queue by itself. -/
theorem tablesAndQueuesStayBounded : Obligations.TablesAndQueuesStayBounded := by
  intro s t ⟨hbalances, hordered, hentered, hforwarding, hmessages⟩ hstep
  obtain ⟨hbalances', hordered', hentered', hmessages'⟩ := (tablesSound_iff t).1
    (tablesSound_keptByStep s t ((tablesSound_iff s).2 ⟨hbalances, hordered, hentered, hmessages⟩) hstep)
  exact ⟨hbalances', hordered', hentered', forwardingBounded_keptByStep s t hforwarding hstep, hmessages'⟩

end Sys2Proof.Proofs
end

section
/-! PROOFS. The watch list entry by entry (R35, R36): the list that the model derives by merging HOUSE pairs one after
another is the one that says of each pair whether it is merged. -/

namespace Sys2Proof.Proofs

open Sys2Proof.Machine Sys2Proof.Safety

/-! ### The entries of one zone -/

theorem ribbonContent_on {r : Ribbon} {l : SlotList} (hlist : r.committed = some l)
    (hstate : r.state = .on ∨ r.state = .stopping) : ribbonContent r =
      match r.entry with
      | .slot i =>
        match l.slots[i]? with
        | some { content := .sponsor id duty raster, .. } => some (.sponsorSlot i id duty raster)
        | _ => some (.houseMark l.house)
      | .house => some (.houseMark l.house)
      | .none => none := by
  unfold ribbonContent
  rcases hstate with h | h <;> rw [h, hlist] <;> rfl

theorem ribbonContent_none {r : Ribbon} (h : r.committed = none ∨ ¬ (r.state = .on ∨ r.state = .stopping)) :
    ribbonContent r = none := by
  unfold ribbonContent
  rcases h with h | h
  · rw [h]
    cases r.state <;> rfl
  · cases hs : r.state <;> rw [hs] at h <;> simp at h ⊢

/-- R35, SPONSOR row: the creative of the ribbon's slot, or the house creative, while the ribbon is ON or STOPPING. -/
theorem sponsorEntries (b : Ribbon) (entry : Nat → WatchEntry) :
    (match ribbonContent b with
      | some (.sponsorSlot _ _ _ a) => [entry a]
      | some (.houseMark a) => [entry a]
      | _ => []) =
    (match b.committed with
      | some l =>
        if b.state = .on ∨ b.state = .stopping then
          match b.entry with
          | .slot n =>
            match l.slots[n]? with
            | some { content := .sponsor _ _ raster, .. } => [entry raster]
            | _ => [entry l.house]
          | .house => [entry l.house]
          | .none => []
        else []
      | none => []) := by
  cases hlist : b.committed with
  | none => rw [ribbonContent_none (.inl hlist)]
  | some l =>
    by_cases hstate : b.state = .on ∨ b.state = .stopping
    · rw [ribbonContent_on hlist hstate]
      dsimp only
      rw [if_pos hstate]
      cases b.entry with
      | none => rfl
      | house => rfl
      | slot i =>
        dsimp only
        cases l.slots[i]? with
        | none => rfl
        | some x =>
          obtain ⟨content, _, _⟩ := x
          cases content <;> rfl
    · rw [ribbonContent_none (.inr hstate)]
      dsimp only
      rw [if_neg hstate]

/-- R35, FIGURE row: from the lowest glyph to the end of the highest. -/
theorem figureEntries (g : GlyphSet) (cells : List Glyph) (entry : Nat → Nat → WatchEntry) :
    (match glyphRange g cells with
      | some (a, n) => [entry a n]
      | none => []) =
    (match (cells.map (glyphAddr g)).min?, (cells.map (glyphAddr g)).max? with
      | some lo, some hi => [entry lo (hi + g.cellWidth * g.cellHeight * 4 - lo)]
      | _, _ => []) := by
  unfold glyphRange
  cases cells.map (glyphAddr g) <;> rfl

/-- R35, row by row: the entries of a zone as the rule spells them. -/
theorem watchOf_eq_zoneEntries (s : State) (merged : Bool) (z : ZoneRec) : watchOf s merged z = zoneEntries s merged z := by
  unfold watchOf zoneEntries
  cases z.role with
  | replay => cases s.replay.current <;> rfl
  | sponsor r => cases r <;> exact sponsorEntries _ _
  | figure f =>
    cases s.figures.glyphs with
    | none => rfl
    | some g => exact figureEntries g _ _
  | message => cases s.messages.onAir <;> rfl
  | house a b idle => cases merged <;> rfl

/-! ### The enabled zones -/

/-- The records of the enabled zones, in ascending order of zone ID (R35). -/
def enabledRecords (s : State) : List ZoneRec := (enabledZones s).map (·.cfg)

theorem enabledRecords_eq (s : State) : enabledRecords s =
    (List.range 24).filterMap (fun id => (s.sweep.zones.map (·.cfg)).find? (fun z => z.id == id && z.enabled)) := by
  rw [enabledRecords, enabledZones, List.map_filterMap]
  refine List.filterMap_congr fun id _ => ?_
  rw [List.find?_map]
  rfl

theorem enabledRecords_ordered (s : State) : (enabledRecords s).Pairwise (fun a b => a.id < b.id) := by
  rw [enabledRecords_eq]
  have hid {n : Nat} {z : ZoneRec} (h : (s.sweep.zones.map (·.cfg)).find? (fun z => z.id == n && z.enabled) = some z) :
      z.id = n := by
    have hfound := List.find?_some h
    simp only [Bool.and_eq_true, beq_iff_eq] at hfound
    exact hfound.1
  refine List.pairwise_filterMap.2 (List.pairwise_lt_range.imp fun {m n} hmn a ha b hb => ?_)
  rw [hid ha, hid hb]
  exact hmn

theorem enabledRecords_length (s : State) : (enabledRecords s).length ≤ 24 := by
  rw [enabledRecords_eq]
  exact (List.length_filterMap_le _ _).trans_eq List.length_range

/-- The zone IDs of the enabled HOUSE zones, ascending. -/
def houseIds (s : State) : List Nat := ((enabledRecords s).filter isHouse).map (·.id)

theorem houseIds_ordered (s : State) : (houseIds s).Pairwise (· < ·) :=
  List.pairwise_map.2 ((enabledRecords_ordered s).filter _)

theorem houseIds_eq (s : State) : ((enabledZones s).filter (fun z => isHouse z.cfg)).map (·.cfg.id) = houseIds s := by
  rw [houseIds, enabledRecords, List.filter_map, List.map_map]
  rfl

/-! ### Which pairs are merged -/

/-- Of an ascending list, the members with fewer than `j` others above them are its last `j`. -/
theorem filter_above {l : List Nat} (h : l.Pairwise (· < ·)) (j : Nat) :
    l.filter (fun x => (l.filter (fun y => x < y)).length < j) = l.drop (l.length - j) := by
  induction l with
  | nil => exact List.drop_nil.symm
  | cons a l ih =>
    obtain ⟨ha, hl⟩ := List.pairwise_cons.1 h
    have hself : ((a :: l).filter (fun y => a < y)).length = l.length := by
      rw [List.filter_cons_of_neg (by simp), List.filter_eq_self.2 fun y hy => by simpa using ha y hy]
    have hrest : l.filter (fun x => ((a :: l).filter (fun y => x < y)).length < j) = l.drop (l.length - j) := by
      rw [← ih hl]
      refine List.filter_congr fun x hx => ?_
      rw [List.filter_cons_of_neg (by simpa using (ha x hx).le)]
    by_cases hj : l.length < j
    · rw [List.filter_cons_of_pos (by rw [hself]; simpa using hj), hrest, List.length_cons,
        Nat.sub_eq_zero_of_le hj.le, Nat.sub_eq_zero_of_le hj]
      rfl
    · rw [List.filter_cons_of_neg (by rw [hself]; simpa using hj), hrest, List.length_cons,
        Nat.succ_sub (not_lt.1 hj), List.drop_succ_cons]

/-- The enabled HOUSE zones above one. -/
def pairsAbove (s : State) (z : ZoneRec) : Nat := ((houseIds s).filter (fun y => z.id < y)).length

/-- The watch list with the `j` highest pairs merged. -/
def watchMerging (s : State) (j : Nat) : List WatchEntry :=
  (enabledRecords s).flatMap (fun z => zoneEntries s (decide (pairsAbove s z < j)) z) ++ watchAlert s

theorem zoneEntries_length (s : State) (paired : Bool) (z : ZoneRec) :
    (zoneEntries s paired z).length + (if isHouse z && paired then 1 else 0) = (zoneEntries s false z).length := by
  cases paired
  · rw [Bool.and_false]
    rfl
  · unfold zoneEntries isHouse
    cases z.role <;> rfl

theorem zoneEntries_of_not_house {s : State} {z : ZoneRec} (h : isHouse z = false) (p q : Bool) :
    zoneEntries s p z = zoneEntries s q z := by
  unfold isHouse at h
  unfold zoneEntries
  cases hrole : z.role
  case house =>
    rw [hrole] at h
    cases h
  all_goals rfl

/-- The entries saved are the pairs merged. -/
theorem flatMap_zoneEntries_length (s : State) (p : ZoneRec → Bool) (zs : List ZoneRec) :
    (zs.flatMap (fun z => zoneEntries s (p z) z)).length + (zs.filter (fun z => isHouse z && p z)).length =
      (zs.flatMap (zoneEntries s false)).length := by
  induction zs with
  | nil => rfl
  | cons z zs ih =>
    have hz := zoneEntries_length s (p z) z
    rw [List.flatMap_cons, List.flatMap_cons, List.length_append, List.length_append, List.filter_cons]
    split
    · rename_i hp
      rw [if_pos hp] at hz
      rw [List.length_cons]
      omega
    · rename_i hp
      rw [if_neg hp] at hz
      omega

theorem merged_length (s : State) (j : Nat) :
    ((enabledRecords s).filter (fun z => isHouse z && decide (pairsAbove s z < j))).length =
      min j (houseIds s).length := by
  have hids : ((enabledRecords s).filter (fun z => isHouse z && decide (pairsAbove s z < j))).map (·.id) =
      (houseIds s).filter (fun x => ((houseIds s).filter (fun y => x < y)).length < j) := by
    rw [houseIds, List.filter_map, List.filter_filter]
    rw [show (fun a => isHouse a && decide (pairsAbove s a < j)) =
      fun a => ((fun x => decide ((List.filter (fun y => decide (x < y)) (houseIds s)).length < j)) ∘ (·.id)) a && isHouse a
      from funext fun a => Bool.and_comm _ _]
    rfl
  rw [← List.length_map (·.id), hids, filter_above (houseIds_ordered s), List.length_drop]
  omega

/-- Each pair merged saves one entry. -/
theorem watchMerging_length (s : State) (j : Nat) :
    (watchMerging s j).length + min j (houseIds s).length = (watchMerging s 0).length := by
  have hzero : (enabledRecords s).flatMap (fun z => zoneEntries s (decide (pairsAbove s z < 0)) z) =
      (enabledRecords s).flatMap (zoneEntries s false) := rfl
  have hsaved := flatMap_zoneEntries_length s (fun z => decide (pairsAbove s z < j)) (enabledRecords s)
  rw [merged_length] at hsaved
  rw [watchMerging, watchMerging, hzero, List.length_append, List.length_append]
  omega

theorem watchMerging_all (s : State) {j : Nat} (hj : (houseIds s).length ≤ j) :
    watchMerging s j = watchMerging s (houseIds s).length := by
  unfold watchMerging
  congr 1
  rw [List.flatMap, List.flatMap]
  refine congrArg List.flatten (List.map_congr_left fun z hz => ?_)
  cases hhouse : isHouse z
  · exact zoneEntries_of_not_house hhouse _ _
  · have hmem : z.id ∈ houseIds s := List.mem_map_of_mem (List.mem_filter.2 ⟨hz, hhouse⟩)
    have hbelow : pairsAbove s z < (houseIds s).length :=
      List.length_filter_lt_length_iff_exists.2 ⟨z.id, hmem, by simp⟩
    rw [decide_eq_true hbelow, decide_eq_true (hbelow.trans_le hj)]

/-- The model's list with the last HOUSE zones merged. -/
theorem watchWith_eq (s : State) {n : Nat} (hn : n ≤ (houseIds s).length) {merged : List Nat}
    (hmerged : ∀ x, x ∈ merged ↔ x ∈ (houseIds s).drop n) :
    watchWith s merged = watchMerging s ((houseIds s).length - n) := by
  unfold watchWith watchMerging enabledRecords
  rw [List.flatMap_map]
  congr 1
  rw [List.flatMap, List.flatMap]
  refine congrArg List.flatten (List.map_congr_left fun z hz => ?_)
  rw [watchOf_eq_zoneEntries]
  cases hhouse : isHouse z.cfg
  · exact zoneEntries_of_not_house hhouse _ _
  · have hmem : z.cfg.id ∈ houseIds s :=
      List.mem_map_of_mem (List.mem_filter.2 ⟨List.mem_map_of_mem hz, hhouse⟩)
    have habove := filter_above (houseIds_ordered s) ((houseIds s).length - n)
    rw [Nat.sub_sub_self hn] at habove
    congr 1
    rw [Bool.eq_iff_iff, List.contains_iff_mem, hmerged, ← habove, List.mem_filter]
    exact ⟨fun h => h.2, fun h => ⟨hmem, h⟩⟩

/-- The watch list as the rule merges it: as many pairs as bring it to 40 entries. -/
theorem deriveWatch_eq_merging (s : State) : deriveWatch s = watchMerging s ((watchMerging s 0).length - 40) := by
  have fit (n : Nat) (hn : n ≤ (houseIds s).length) (hdone : (houseIds s).length - n ≤ (watchMerging s 0).length - 40) :
      ∀ merged : List Nat, (∀ x, x ∈ merged ↔ x ∈ (houseIds s).drop n) →
        fitWatch s ((houseIds s).take n).reverse merged = watchMerging s ((watchMerging s 0).length - 40) := by
    induction n with
    | zero =>
      intro merged hmerged
      rw [List.take_zero, List.reverse_nil, fitWatch, watchWith_eq s hn hmerged]
      exact (watchMerging_all s hdone).symm
    | succ n ih =>
      intro merged hmerged
      have hlt : n < (houseIds s).length := hn
      rw [List.take_succ_eq_append_getElem hlt, List.reverse_append, List.reverse_singleton, List.singleton_append,
        fitWatch, watchWith_eq s hn hmerged]
      have hlength := watchMerging_length s ((houseIds s).length - (n + 1))
      rw [show Config.watchCapacity = 40 from rfl]
      split
      · congr 1
        omega
      · refine ih hlt.le (by omega) _ fun x => ?_
        rw [List.drop_eq_getElem_cons hlt, List.mem_cons, List.mem_cons, hmerged]
  have hall := fit (houseIds s).length le_rfl (by omega) [] (by simp)
  rw [List.take_length] at hall
  unfold deriveWatch
  rw [houseIds_eq]
  exact hall

/-! ### The list as the rule spells it -/

theorem watchAlert_eq (s : State) : watchAlert s =
    match s.alert.chosen, s.sweep.header with
    | some a, some h =>
      if s.alert.state = .onAir then
        [{ start := a, len := h.width * h.height * 4, zone := none, kind := .alertRaster }]
      else []
    | _, _ => [] := by
  unfold watchAlert alertOnAir
  cases s.alert.chosen <;> cases s.sweep.header <;> cases s.alert.state <;> rfl

/-- R35, R36: the list as the rule spells it, for an alert raster's entries. -/
def entriesWith (s : State) (raster : List WatchEntry) : List WatchEntry :=
  (enabledRecords s).flatMap (fun z => zoneEntries s
    (decide (40 + ((enabledRecords s).filter (fun y => isHouse y && z.id < y.id)).length <
      ((enabledRecords s).flatMap (zoneEntries s false) ++ raster).length)) z) ++ raster

theorem watchEntries_eq_entriesWith (s : State) : watchEntries s = entriesWith s (watchAlert s) := by
  rw [watchAlert_eq]
  unfold watchEntries
  rw [← enabledRecords_eq]
  rfl

theorem watchEntries_eq_merging (s : State) : watchEntries s = watchMerging s ((watchMerging s 0).length - 40) := by
  have hpairs (z : ZoneRec) :
      ((enabledRecords s).filter (fun y => isHouse y && z.id < y.id)).length = pairsAbove s z := by
    rw [pairsAbove, houseIds, List.filter_map, List.length_map, List.filter_filter]
    refine congrArg List.length (List.filter_congr fun y _ => ?_)
    exact Bool.and_comm _ _
  have hfull : ((enabledRecords s).flatMap (zoneEntries s false) ++ watchAlert s).length = (watchMerging s 0).length := rfl
  rw [watchEntries_eq_entriesWith, entriesWith, hfull, watchMerging]
  congr 1
  refine congrArg (fun f => List.flatMap f (enabledRecords s)) (funext fun z => ?_)
  rw [hpairs]
  congr 1
  rw [decide_eq_decide]
  omega

/-- R35, R36: the derived list is the one the rule spells. -/
theorem deriveWatch_eq_watchEntries (s : State) : deriveWatch s = watchEntries s :=
  (deriveWatch_eq_merging s).trans (watchEntries_eq_merging s).symm

theorem zoneEntries_true_length (s : State) (z : ZoneRec) : (zoneEntries s true z).length ≤ 1 := by
  rw [← watchOf_eq_zoneEntries]
  unfold watchOf
  cases z.role with
  | replay => dsimp only; split <;> simp
  | sponsor r => dsimp only; split <;> simp
  | figure f =>
    dsimp only
    split
    · split <;> simp
    · simp
  | message => dsimp only; split <;> simp
  | house => simp

/-- R36: at most 40 entries. -/
theorem deriveWatch_length (s : State) : (deriveWatch s).length ≤ 40 := by
  have hone (zs : List ZoneRec) : (zs.flatMap (zoneEntries s true)).length ≤ zs.length := by
    induction zs with
    | nil => exact le_rfl
    | cons z zs ih =>
      rw [List.flatMap_cons, List.length_append, List.length_cons, Nat.add_comm]
      exact Nat.add_le_add ih (zoneEntries_true_length s z)
  have halert : (watchAlert s).length ≤ 1 := by
    unfold watchAlert
    split <;> simp
  have hhouses : ((enabledRecords s).filter isHouse).length = (houseIds s).length := by
    rw [houseIds, List.length_map]
  have hmerged : ((enabledRecords s).flatMap (zoneEntries s true)).length + (houseIds s).length =
      ((enabledRecords s).flatMap (zoneEntries s false)).length := by
    have hsaved := flatMap_zoneEntries_length s (fun _ => true) (enabledRecords s)
    simp only [Bool.and_true] at hsaved
    rw [hhouses] at hsaved
    exact hsaved
  have hzones := (hone (enabledRecords s)).trans (enabledRecords_length s)
  have hfull : (watchMerging s 0).length =
      ((enabledRecords s).flatMap (zoneEntries s false)).length + (watchAlert s).length := by
    exact List.length_append
  have hlength := watchMerging_length s ((watchMerging s 0).length - 40)
  rw [deriveWatch_eq_merging]
  omega

end Sys2Proof.Proofs
end

section
/-! PROOFS. The watch list stays derived (R35 to R37): every operation that changes a source rebuilds it, and the ribbons
stay as their states say (R126, R128). -/

namespace Sys2Proof.Proofs

open Sys2Proof.Machine Sys2Proof.Safety

/-! ### The sources -/

/-- The sources of the watch list agree: the zone records, what each unit shows in its zones, and the alert raster. -/
structure SameSources (s t : State) : Prop where
  zones : t.sweep.zones.map (·.cfg) = s.sweep.zones.map (·.cfg)
  clip : t.replay.current.map clipSource = s.replay.current.map clipSource
  ribbons : ∀ id, ribbonContent (ribbonOf id t) = ribbonContent (ribbonOf id s)
  glyphs : t.figures.glyphs = s.figures.glyphs
  strings : t.figures.strings = s.figures.strings
  message : t.messages.onAir.map (fun o => (o.msg.addr, o.msg.width)) = s.messages.onAir.map (fun o => (o.msg.addr, o.msg.width))
  raster : watchAlert t = watchAlert s

theorem watchOf_congr {s t : State} (h : SameSources s t) (merged : Bool) (z : ZoneRec) :
    watchOf t merged z = watchOf s merged z := by
  unfold watchOf
  cases z.role with
  | replay =>
    have entries (u : State) : (match u.replay.current with
        | some c => [({ start := clipSource c, len := rasterBytes z.w z.h, zone := some z.id, kind := .clipFrame } : WatchEntry)]
        | none => []) = ((u.replay.current.map clipSource).map (fun a =>
          ({ start := a, len := rasterBytes z.w z.h, zone := some z.id, kind := .clipFrame } : WatchEntry))).toList := by
      cases u.replay.current <;> rfl
    exact (entries t).trans ((by rw [h.clip] : _ = _).trans (entries s).symm)
  | sponsor r =>
    dsimp only
    rw [h.ribbons r]
  | figure f =>
    dsimp only
    rw [h.glyphs, h.strings]
  | message =>
    have entries (u : State) : (match u.messages.onAir with
        | some o => [({ start := o.msg.addr, len := rasterBytes o.msg.width z.h, zone := some z.id, kind := .messageRaster } : WatchEntry)]
        | none => []) = ((u.messages.onAir.map (fun o => (o.msg.addr, o.msg.width))).map (fun a =>
          ({ start := a.1, len := rasterBytes a.2 z.h, zone := some z.id, kind := .messageRaster } : WatchEntry))).toList := by
      cases u.messages.onAir <;> rfl
    exact (entries t).trans ((by rw [h.message] : _ = _).trans (entries s).symm)
  | house a b idle => rfl

/-- The watch list is told by its sources. -/
theorem deriveWatch_congr {s t : State} (h : SameSources s t) : deriveWatch t = deriveWatch s := by
  have hzones : enabledRecords t = enabledRecords s := by rw [enabledRecords_eq, enabledRecords_eq, h.zones]
  have hids : houseIds t = houseIds s := by rw [houseIds, houseIds, hzones]
  have hmerging (j : Nat) : watchMerging t j = watchMerging s j := by
    unfold watchMerging pairsAbove
    rw [hzones, hids, h.raster]
    simp only [← watchOf_eq_zoneEntries, watchOf_congr h]
  rw [deriveWatch_eq_merging, deriveWatch_eq_merging, hmerging, hmerging]

/-- The watch list as its sources give it. -/
def Derived (s : State) : Prop := s.path.watch = deriveWatch s

theorem Derived.of_same {s t : State} (h : Derived s) (hwatch : t.path.watch = s.path.watch) (hsame : SameSources s t) :
    Derived t := by
  rw [Derived, hwatch, deriveWatch_congr hsame]
  exact h

theorem derived_rebuildWatch (s : State) : Derived (rebuildWatch s) :=
  (deriveWatch_congr (s := s) (t := rebuildWatch s) ⟨rfl, rfl, fun id => by cases id <;> rfl, rfl, rfl, rfl, rfl⟩).symm

abbrev sourceParts : List Part :=
  [.watch, .cfgs, .header, .current, .ribbon .a, .ribbon .b, .glyphs, .strings, .onAir, .alertState, .chosen]

theorem watchAlert_congr {s t : State} (hstate : alertOnAir t = alertOnAir s) (hchosen : t.alert.chosen = s.alert.chosen)
    (hheader : t.sweep.header = s.sweep.header) : watchAlert t = watchAlert s := by
  unfold watchAlert
  rw [hstate, hchosen, hheader]

theorem sameSources_of_parts {s t : State} (h : ∀ p ∈ sourceParts, p.Same s t) : SameSources s t := by
  have hcurrent : t.replay.current = s.replay.current := h .current (by decide)
  have hair : t.messages.onAir = s.messages.onAir := h .onAir (by decide)
  have hstate : t.alert.state = s.alert.state := h .alertState (by decide)
  refine ⟨h .cfgs (by decide), congrArg _ hcurrent, fun id => ?_, h .glyphs (by decide), h .strings (by decide),
    congrArg _ hair, watchAlert_congr ?_ (h .chosen (by decide)) (h .header (by decide))⟩
  · rw [ribbonOf_congr (fun id => h (.ribbon id) (by cases id <;> decide)) id]
  · rw [alertOnAir, hstate]
    rfl

theorem derived_dependsOn : DependsOn sourceParts Derived := fun s t h hs =>
  Derived.of_same (s := s) (t := t) hs (h .watch (by decide)) (sameSources_of_parts h)

/-- The sources agree where only other parts change. -/
theorem sameSources_of_within {s t : State} {ps : List Part} (hst : Within ps s t)
    (apart : meets sourceParts ps = false) : SameSources s t :=
  sameSources_of_parts fun p hp => hst p fun hin => by
    simp only [meets, List.any_eq_false, decide_eq_true_eq] at apart
    exact apart p hp hin

/-! ### The clip -/

/-- The clip changes in what is no source: neither its bases nor its stride, its index nor its angle. -/
theorem Derived.withClip {s : State} (h : Derived s) {c : Option Clip} (hc : c.map clipSource = s.replay.current.map clipSource) :
    Derived { s with replay.current := c } :=
  h.of_same rfl ⟨rfl, hc, fun id => by cases id <;> rfl, rfl, rfl, rfl, rfl⟩

theorem clipSource_congr {c d : Clip} (hbases : d.bases = c.bases) (hstride : d.stride = c.stride) (hmoved : moved c d = false) :
    clipSource d = clipSource c := by
  simp only [moved, Bool.or_eq_false_iff, bne_eq_false_iff_eq] at hmoved
  rw [clipSource, clipSource, hbases, hstride, hmoved.1, hmoved.2]

theorem readyClip_bases (p : ClockPhase) (c : Clip) :
    (readyClip p c).bases = c.bases ∧ (readyClip p c).stride = c.stride := by
  unfold readyClip releaseGuard
  split <;> exact ⟨rfl, rfl⟩

theorem endClip_bases (n : Nat) (c : Clip) : (endClip n c).1.bases = c.bases ∧ (endClip n c).1.stride = c.stride := by
  unfold endClip
  dsimp only
  split
  · exact ⟨rfl, rfl⟩
  · exact ⟨rfl, rfl⟩
  · exact ⟨rfl, rfl⟩
  · split <;> exact ⟨rfl, rfl⟩

theorem cadence_bases (c : Clip) : (cadence c).1.bases = c.bases ∧ (cadence c).1.stride = c.stride := by
  unfold cadence
  dsimp only
  split
  · unfold stepGrowing
    split
    · exact ⟨rfl, rfl⟩
    · split
      · split <;> exact ⟨rfl, rfl⟩
      · exact endClip_bases _ _
  · unfold stepFixed
    split
    · exact ⟨rfl, rfl⟩
    · exact endClip_bases _ _

theorem stepPlaying_bases (c : Clip) : (stepPlaying c).1.bases = c.bases ∧ (stepPlaying c).1.stride = c.stride := by
  unfold stepPlaying
  split
  · exact cadence_bases c
  · exact ⟨rfl, rfl⟩

theorem derived_clipChanged (s : State) : Derived (clipChanged s) := derived_rebuildWatch _

theorem consumeTake_derived : Keeps Derived consumeTake := fun s hs => by
  unfold consumeTake
  split
  · split
    · exact derived_clipChanged _
    · exact derived_dependsOn.kept (ps := [.take]) (.of_merge rfl) (by decide) hs
  · exact hs

theorem replayWork_derived : Keeps Derived replayWork := fun s hs => by
  have taken := consumeTake_derived s hs
  unfold replayWork
  generalize consumeTake s = u at taken
  dsimp only
  split
  · exact taken
  · rename_i c hc
    split
    · exact derived_clipChanged _
    · rename_i hstill
      refine derived_dependsOn.kept (raiseIf_within _ .clipEnded _) (by decide) (taken.withClip ?_)
      simp only [Bool.or_eq_true, not_or, Bool.not_eq_true] at hstill
      obtain ⟨hready, hnext⟩ := hstill
      obtain ⟨hbases, hstride⟩ := readyClip_bases (clockPhase u) c
      obtain ⟨hbases', hstride'⟩ := stepPlaying_bases (readyClip (clockPhase u) c)
      rw [hc, Option.map_some, Option.map_some, clipSource_congr hbases' hstride' hnext,
        clipSource_congr hbases hstride hready]

theorem placeClip_derived (c : Clip) : Keeps Derived (placeClip c) := fun s hs => by
  unfold placeClip
  split
  · exact derived_dependsOn.kept (settleLong_within _ _ _) (by decide) (derived_clipChanged _)
  · exact derived_dependsOn.kept (settleLong_within _ _ _) (by decide)
      (derived_dependsOn.kept (ps := [.onDeck, .arm]) (.of_merge rfl) (by decide) hs)

theorem clipLine_derived (l : Line) : Keeps Derived (clipLine l) := fun s hs => by
  have h := derived_dependsOn
  unfold clipLine
  split
  · exact hs
  · have fetched (a : ClipArm) : Derived (setRecords 1 { s with replay.arm := some a }) :=
      h.kept (setRecords_within 1 _) (by decide) (h.kept (ps := [.arm]) (.of_merge rfl) (by decide) hs)
    dsimp only
    split
    · exact h.kept (refuseClip_within _ _ _) (by decide) (fetched _)
    · exact fetched _
  · have kept := h.kept (setRecords_within 2 s) (by decide) hs
    unfold judgeClip
    split
    · exact h.kept (refuseClip_within _ _ _) (by decide) kept
    · split
      · exact h.kept (refuseClip_within _ _ _) (by decide) kept
      · exact placeClip_derived _ _ kept

theorem clipPlay_derived (r : Half) (g : Byte) : Keeps Derived (fun s => (clipPlay r g s).state) := fun s hs => by
  dsimp only [clipPlay]
  split
  · exact hs
  · split
    · exact hs
    · rename_i c hc
      split
      · exact hs
      · split
        · exact hs
        · dsimp only
          split
          · exact derived_clipChanged _
          · rename_i hstill
            refine hs.withClip ?_
            rw [hc, Option.map_some, Option.map_some, clipSource_congr ?_ ?_ (by simpa using hstill)]
            all_goals
              unfold playClip rewind
              split <;> rfl

theorem clipHold_derived : Keeps Derived (fun s => (clipHold s).state) := fun s hs => by
  dsimp only [clipHold]
  split
  · rename_i c hc
    split
    · exact hs.withClip (by rw [hc]; rfl)
    · split
      · exact hs.withClip (by rw [hc]; rfl)
      · exact hs
  · exact hs

theorem clipResume_derived : Keeps Derived (fun s => (clipResume s).state) := fun s hs => by
  dsimp only [clipResume]
  split
  · rename_i c hc
    split
    · split
      · exact hs
      · exact hs.withClip (by rw [hc]; rfl)
    · exact hs
  · exact hs

theorem clipRate_derived (r : Half) : Keeps Derived (fun s => (clipRate r s).state) := fun s hs => by
  dsimp only [clipRate]
  split
  · exact hs
  · split
    · exact hs
    · rename_i c hc
      exact hs.withClip (by rw [hc]; rfl)

theorem clipAngle_derived (a : Byte) : Keeps Derived (fun s => (clipAngle a s).state) := fun s hs => by
  dsimp only [clipAngle]
  split
  · exact hs
  · rename_i c hc
    split
    · exact hs
    · exact hs.withClip (by rw [hc]; rfl)

theorem clipDrop_derived : Keeps Derived (fun s => (clipDrop s).state) := fun s hs => by
  dsimp only [clipDrop]
  split
  · exact derived_rebuildWatch _
  · exact hs

theorem stepChase_derived : Keeps Derived stepChase := fun s hs => by
  unfold stepChase
  split
  · rename_i c hc
    split
    · split
      · exact derived_dependsOn.kept (raise_within .clipEnded _) (by decide)
          (derived_dependsOn.kept (raise_within .chaseTimeout _) (by decide) (hs.withClip (by rw [hc]; rfl)))
      · exact hs.withClip (by rw [hc]; rfl)
    · exact hs
  · exact hs

theorem expireChase_derived : Keeps Derived expireChase := fun s hs => by
  unfold expireChase
  split
  · split
    · exact stepChase_derived s hs
    · exact hs
  · exact hs

theorem clipSource_reportMark (c d : Clip) : clipSource (reportMark c d) = clipSource d := by
  unfold reportMark
  split <;> rfl

theorem clipSource_snoopClip (a n : Nat) (c : Clip) : clipSource (snoopClip a n c) = clipSource c := by
  unfold snoopClip
  split
  · unfold recordFrame
    dsimp only
    split <;> rfl
  · rfl

/-- R41: the snoop moves a clip's mark and window alone. -/
theorem chaseSnoop_derived (a : Nat) : Keeps Derived (chaseSnoop a) := fun s hs => by
  unfold chaseSnoop
  split
  · exact hs
  · rename_i z _
    refine derived_dependsOn.kept (ps := [.onDeck]) (s := { s with
        replay.current := s.replay.current.map (fun c => reportMark c (snoopClip a (zoneBytes z) c)) })
      (.of_merge rfl) (by decide) (hs.withClip ?_)
    cases s.replay.current with
    | none => rfl
    | some c => exact congrArg some ((clipSource_reportMark _ _).trans (clipSource_snoopClip _ _ c))

theorem forwardWrite_derived (n : LineNo) (d : Line) (m : Mask) : Keeps Derived (forwardWrite n d m) := fun s hs => by
  have h := derived_dependsOn
  have landed := h.kept (writeLine_within (forwardAddr (lineAddr n) s) d m s) (by decide) hs
  unfold forwardWrite
  dsimp only
  split
  · exact landed
  · have late := h.kept (raiseIf_within (isLateWrite (lineAddr n) (writeLine (forwardAddr (lineAddr n) s) d m s)) .lateWrite _)
      (by decide) landed
    split
    · exact late
    · exact chaseSnoop_derived _ _ (h.kept (watchMatch_within _ _ _ _) (by decide)
        (h.kept (hostEffects_within _ _) (by decide) late))

/-! ### Figures -/

theorem refreshStrings_derived : Keeps Derived refreshStrings := fun s hs => by
  unfold refreshStrings
  dsimp only
  split
  · rename_i hsame
    refine derived_dependsOn.kept (bumpZones_within (showsChanged_kind _ _) _) (by decide) ?_
    rw [← hsame]
    exact hs
  · exact derived_rebuildWatch _

theorem handStrings_derived : Keeps Derived handStrings := fun _ hs =>
  refreshStrings_derived _ (derived_dependsOn.kept (ps := [.gameString, .secondaryString, .shownPeriod]) (.of_merge rfl)
    (by decide) hs)

theorem stepClocks_derived : Keeps Derived stepClocks := fun s hs => by
  unfold stepClocks
  exact handStrings_derived _ (derived_dependsOn.kept (raiseIf_within _ .clockExpired _) (by decide)
    (derived_dependsOn.kept (ps := [.game, .secondary]) (.of_merge rfl) (by decide) hs))

theorem expireClock_derived (k : ClockId) : Keeps Derived (expireClock k) := fun s hs => by
  unfold expireClock
  split
  split
  · exact handStrings_derived _ (derived_dependsOn.kept (raise_within .clockExpired _) (by decide)
      (derived_dependsOn.kept (setClock_within k _ s) (by decide) hs))
  · exact hs

theorem takeBeacon_derived (p : BeaconPayload) : Keeps Derived (takeBeacon p) := fun s hs => by
  unfold takeBeacon
  split
  · exact hs
  · exact handStrings_derived _ (derived_dependsOn.kept (raiseIf_within _ .clockSnap _) (by decide)
      (derived_dependsOn.kept (ps := [.period, .game, .secondary, .console, .watchdog]) (.of_merge rfl) (by decide) hs))

theorem clockSet_derived (o : ClockSetOperand) : Keeps Derived (fun s => (clockSet o s).state) := fun s hs => by
  dsimp only [clockSet]
  split
  · exact handStrings_derived _ (derived_dependsOn.kept
      (ps := [.game, .secondary, .tenths, .period, .console, .watchdog]) (.of_merge rfl) (by decide) hs)
  · exact hs

theorem glyphLine_derived (l : Line) : Keeps Derived (glyphLine l) := fun s hs => by
  have h := derived_dependsOn
  have refused (r : Result) (d : Nat) {u : State} (hu : Derived u) : Derived (refuseGlyphs r d u) :=
    h.kept (refuseGlyphs_within r d u) (by decide) hu
  unfold glyphLine
  split
  · exact hs
  · rename_i load _
    have fetched (x : GlyphLoad) : Derived (setRecords (load.lines ++ [l]).length { s with figures.load := some x }) :=
      h.kept (setRecords_within _ _) (by decide) (h.kept (ps := [.glyphLoad]) (.of_merge rfl) (by decide) hs)
    dsimp only
    split
    · split
      · exact fetched _
      · exact refused _ _ (fetched _)
    · unfold judgeGlyphs
      split
      · exact refused _ _ (fetched _)
      · dsimp only
        split
        · exact refused _ _ (fetched _)
        · exact h.kept (settleLong_within _ _ _) (by decide) (derived_rebuildWatch _)
    · exact fetched _

/-! ### Messages -/

/-- The record on air changes in what is no source. -/
theorem Derived.withOnAir {s : State} (h : Derived s) {o : Option OnAir}
    (ho : o.map (fun o => (o.msg.addr, o.msg.width)) = s.messages.onAir.map (fun o => (o.msg.addr, o.msg.width))) :
    Derived { s with messages.onAir := o } :=
  h.of_same rfl ⟨rfl, rfl, fun id => by cases id <;> rfl, rfl, rfl, ho, rfl⟩

theorem airChanged_derived (s : State) : Derived (airChanged s) := derived_rebuildWatch _

/-- A choice of R159 that puts no record on air leaves the air empty. -/
theorem putOnAirIn_onAir (zone : Option ZoneRec) (s : State) :
    (s.messages.onAir = none ∧ (putOnAirIn zone s).messages.onAir.isSome = true)
      ∨ (putOnAirIn zone s).messages.onAir = s.messages.onAir := by
  unfold putOnAirIn
  split
  · rename_i hair _
    dsimp only
    split
    · exact .inl ⟨hair, by rw [dropHeads_onAir]; rfl⟩
    · exact .inr (dropHeads_onAir _ _)
  · exact .inr rfl

theorem putOnAirIn_derived (zone : Option ZoneRec) {s : State} (hs : Derived s)
    (hair : (putOnAirIn zone s).messages.onAir = s.messages.onAir) : Derived (putOnAirIn zone s) := by
  refine hs.of_same ?_ ⟨?_, ?_, fun id => ?_, ?_, ?_, congrArg _ hair, ?_⟩
  · exact putOnAirIn_within zone s .watch (by decide)
  · exact putOnAirIn_within zone s .cfgs (by decide)
  · exact congrArg _ (putOnAirIn_within zone s .current (by decide))
  · exact congrArg _ (ribbonOf_congr (fun id => putOnAirIn_within zone s (.ribbon id) (by cases id <;> decide)) id)
  · exact putOnAirIn_within zone s .glyphs (by decide)
  · exact putOnAirIn_within zone s .strings (by decide)
  · refine watchAlert_congr ?_ (putOnAirIn_within zone s .chosen (by decide)) (putOnAirIn_within zone s .header (by decide))
    rw [alertOnAir, (putOnAirIn_within zone s .alertState (by decide) : (putOnAirIn zone s).alert.state = s.alert.state)]
    rfl

theorem settleAirIn_derived (zone : Option ZoneRec) (left : Bool) : Keeps Derived (settleAirIn zone left) := fun s hs => by
  unfold settleAirIn
  dsimp only
  split
  · exact airChanged_derived _
  · rename_i hstill
    rcases putOnAirIn_onAir zone s with ⟨hnone, hsome⟩ | hair
    · rw [hnone, hsome] at hstill
      simp at hstill
    · exact putOnAirIn_derived zone hs hair

/-- A record that leaves the air rebuilds the list whatever it was. -/
theorem settleAirIn_left_derived (zone : Option ZoneRec) (s : State) : Derived (settleAirIn zone true s) :=
  airChanged_derived _

theorem placePost_derived (m : Message) : Keeps Derived (placePost m) := fun s hs => by
  unfold placePost
  split
  · exact airChanged_derived _
  · split
    · exact settleAirIn_derived _ false _ (derived_dependsOn.kept (ps := [.messageQueue]) (.of_merge rfl) (by decide) hs)
    · exact settleAirIn_derived _ false _ (derived_dependsOn.kept (joinQueue_within _ _) (by decide) hs)

theorem post_derived (m : Message) : Keeps Derived (fun s => (post m s).state) := fun s hs => by
  dsimp only [post]
  split
  · exact hs
  · split
    · exact hs
    · split
      · exact hs
      · split
        · exact hs
        · exact placePost_derived m _ (derived_dependsOn.kept (ps := [.entries]) (.of_merge rfl) (by decide) hs)

theorem postOperand_derived (m : MessageOperand) : Keeps Derived (fun s => (postOperand m s).state) := fun s hs => by
  dsimp only [postOperand]
  split
  · exact post_derived _ s hs
  · exact hs

theorem withdraw_derived (id : Nat) : Keeps Derived (fun s => (withdraw id s).state) := fun s hs => by
  dsimp only [withdraw]
  split
  · exact hs
  · split
    · exact settleAirIn_left_derived _ _
    · split
      · exact derived_dependsOn.kept (ps := [.messageQueue]) (.of_merge rfl) (by decide) hs
      · exact hs

theorem writeScores_derived (p : ScorePayload) : Keeps Derived (writeScores p) := fun s hs => by
  unfold writeScores
  have h := derived_dependsOn
  have shown := refreshStrings_derived _ (h.kept (s := s) (t := { s with
      figures.home := clampScore p.home.toNat
      figures.guest := clampScore p.guest.toNat
      figures.homeAux := clampAux p.homeAux.toNat
      figures.guestAux := clampAux p.guestAux.toNat }) (ps := [.home, .guest, .homeAux, .guestAux]) (.of_merge rfl) (by decide) hs)
  dsimp only
  split
  · rename_i m _
    split
    · have posted := post_derived m _ shown
      unfold celebrate
      dsimp only
      split
      · exact posted
      · exact h.kept (raise_within .messageDropped _) (by decide)
          (h.kept (ps := [.lastGone]) (.of_merge rfl) (by decide) posted)
    · exact shown
  · exact shown

theorem startOnAir_derived : Keeps Derived startOnAir := fun s hs => by
  unfold startOnAir
  split
  · rename_i ho
    exact hs.withOnAir (by rw [ho]; rfl)
  · exact hs

theorem messageWork_derived : Keeps Derived messageWork := fun s hs => by
  unfold messageWork
  split
  case h_2 => exact hs
  case h_1 o ho =>
    cases hshowing : o.showing with
    | notStarted =>
      rw [stepShowing_notStarted hshowing]
      exact startOnAir_derived s hs
    | still n =>
      rw [stepShowing_still hshowing]
      split
      · exact settleAirIn_left_derived _ _
      · exact hs.withOnAir (by rw [ho]; rfl)
    | crawl offset =>
      rw [stepShowing_crawl hshowing]
      split
      · exact settleAirIn_left_derived _ _
      · exact derived_dependsOn.kept (bumpZones_within (p := isMessage) isMessage_kind _) (by decide)
          (hs.withOnAir (by rw [ho]; rfl))

/-! ### Alerts -/

theorem derived_alertKeeps : AlertKeeps sourceParts Derived where
  dependsOn := derived_dependsOn
  apart := by decide
  offAir := fun s x h hx _ hs => hs.of_same rfl ⟨rfl, rfl, fun id => by cases id <;> rfl, rfl, rfl, rfl, by
    have hs' : alertOnAir s = false := by simpa [alertOnAir] using h
    have hx' : (x.state == .onAir) = false := by simpa using hx
    rw [watchAlert, watchAlert, hs', show alertOnAir { s with alert := x } = false from hx']⟩
  entry := fun s _ => derived_rebuildWatch _
  release := fun s _ => derived_rebuildWatch _

theorem startFrame_derived : Keeps Derived startFrame := fun s hs => by
  have h := derived_dependsOn
  have begun : Derived { s with sweep.duty := s.brightness.effective, sweep.link := [], sweep.frame := .none } :=
    h.kept (ps := [.duty, .link, .frame]) (.of_merge rfl) (by decide) hs
  unfold startFrame
  dsimp only
  split
  · exact begun
  · split
    · unfold startAlertFrame
      have chosen (x : Frame) (hd : ScreenHeader) (u : State) :
          Derived { allStale (chooseRaster hd u) with sweep.frame := x } :=
        h.kept (ps := [.frame]) (.of_merge rfl) (by decide)
          (h.kept (allStale_within _) (by decide) (derived_rebuildWatch _))
      dsimp only
      split
      · exact h.kept (sendItem_within _ _) (by decide) (chosen _ _ _)
      · exact h.kept (raise_within .linkDown _) (by decide) (chosen _ _ _)
    · exact h.kept (startZoneFrame_within _ _) (by decide) begun

/-! ### Ribbons -/

/-- The watch list derived, and the ribbons as their states say. -/
structure WatchSound (s : State) : Prop where
  derived : Derived s
  ribbons : ∀ id, RibbonConsistent (ribbonOf id s)

theorem watchSound_dependsOn : DependsOn sourceParts WatchSound := fun s t h hs =>
  ⟨derived_dependsOn s t h hs.derived, fun id => by
    rw [ribbonOf_congr (fun id => h (.ribbon id) (by cases id <;> decide)) id]
    exact hs.ribbons id⟩

theorem watchDerived_iff (s : State) : WatchDerived s ↔ WatchSound s := by
  constructor
  · rintro ⟨hderived, _, ha, hb⟩
    exact ⟨hderived, fun id => by cases id <;> assumption⟩
  · rintro ⟨hderived, hribbons⟩
    refine ⟨hderived, ⟨hderived.trans (deriveWatch_eq_watchEntries s), ?_⟩, hribbons .a, hribbons .b⟩
    rw [show s.path.watch = deriveWatch s from hderived]
    exact deriveWatch_length s

/-- An operation that leaves the ribbons alone. -/
theorem WatchSound.of_derived {f : State → State} {ps : List Part} (hf : Keeps Derived f)
    (hst : ∀ s, Within ps s (f s)) (apart : meets [.ribbon .a, .ribbon .b] ps = false) : Keeps WatchSound f := fun s hs => by
  refine ⟨hf s hs.derived, fun id => ?_⟩
  have kept (id : RibbonId) : (Part.ribbon id).Same s (f s) := hst s (.ribbon id) fun hin => by
    simp only [meets, List.any_eq_false, decide_eq_true_eq] at apart
    exact apart (.ribbon id) (by cases id <;> decide) hin
  rw [ribbonOf_congr kept]
  exact hs.ribbons id

theorem ribbonOf_setRibbon (id j : RibbonId) (x : Ribbon) (s : State) :
    ribbonOf j (setRibbon id x s) = if j = id then x else ribbonOf j s := by
  cases id <;> cases j <;> rfl

theorem consistent_setRibbon {s : State} (hs : ∀ j, RibbonConsistent (ribbonOf j s)) {x : Ribbon} (hx : RibbonConsistent x)
    (id j : RibbonId) : RibbonConsistent (ribbonOf j (setRibbon id x s)) := by
  rw [ribbonOf_setRibbon]
  split
  · exact hx
  · exact hs j

/-- A ribbon replaced by one that shows the same. -/
theorem setRibbon_watch {s : State} (hs : WatchSound s) {id : RibbonId} {x : Ribbon}
    (hshows : ribbonContent x = ribbonContent (ribbonOf id s)) (hx : RibbonConsistent x) :
    WatchSound (setRibbon id x s) := by
  refine ⟨hs.derived.of_same (by cases id <;> rfl) ⟨by rw [setRibbon_sweep], by rw [setRibbon_replay], fun j => ?_,
    by rw [setRibbon_figures], by rw [setRibbon_figures], by rw [setRibbon_messages], ?_⟩, consistent_setRibbon hs.ribbons hx id⟩
  · rw [ribbonOf_setRibbon]
    split
    · rename_i hj
      rw [hj, hshows]
    · rfl
  · exact watchAlert_congr (by rw [alertOnAir, setRibbon_alert]; rfl) (by rw [setRibbon_alert]) (by rw [setRibbon_sweep])

/-- R133, R139: a change handed on rebuilds the list; one that is not leaves what the ribbon shows. -/
theorem handRibbon_watch {s : State} (hs : WatchSound s) {id : RibbonId} {o : RibbonOutcome}
    (hshows : o.bumped = false → ribbonContent o.ribbon = ribbonContent (ribbonOf id s)) (hx : RibbonConsistent o.ribbon) :
    WatchSound (handRibbon id o s) := by
  have ribbons (j : RibbonId) : RibbonConsistent (ribbonOf j (handRibbon id o s)) := by
    rw [ribbonOf_congr (s := setRibbon id o.ribbon s) (t := handRibbon id o s)
      (fun j => handRibbon_within_rest id o s (.ribbon j) (by cases id <;> cases j <;> decide))]
    exact consistent_setRibbon hs.ribbons hx id j
  refine ⟨?_, ribbons⟩
  unfold handRibbon
  dsimp only
  split
  · exact derived_rebuildWatch _
  · rename_i hstill
    exact derived_dependsOn.kept (raiseIf_within _ .rotationCommitted _) (by decide)
      (setRibbon_watch hs (hshows (by simpa using hstill)) hx).derived

theorem ribbonWork_watch (id : RibbonId) : Keeps WatchSound (ribbonWork id) := fun s hs =>
  have works := ribbonBoundary_works (clockPhase s) (ribbonOf id s)
  handRibbon_watch hs (works.shows (hs.ribbons id)) (works.consistent (hs.ribbons id))

theorem rotationWork_watch : Keeps WatchSound rotationWork := fun s hs => by
  unfold rotationWork
  split
  · exact hs
  · exact ribbonWork_watch .b _ (ribbonWork_watch .a s hs)

theorem ribbonContent_notShowing {r : Ribbon} (h : r.state = .off ∨ r.state = .starting) : ribbonContent r = none :=
  ribbonContent_none (.inr (by rcases h with h | h <;> rw [h] <;> decide))

/-- ON and STOPPING show the same. -/
theorem ribbonContent_showing {r : Ribbon} {x : RibbonState} (h : r.state = .on ∨ r.state = .stopping)
    (hx : x = .on ∨ x = .stopping) : ribbonContent { r with state := x } = ribbonContent r := by
  unfold ribbonContent
  cases r.committed <;> rcases h with h | h <;> rcases hx with rfl | rfl <;> simp only [h]

theorem ribbonEnable_watch (b : Byte) : Keeps WatchSound (fun s => (ribbonEnable b s).state) := fun s hs => by
  dsimp only [ribbonEnable]
  split
  · exact hs
  · rename_i id _
    split
    · rename_i hstate
      split
      · exact hs
      · rename_i hlist
        have hentry := (ribbonConsistent_ofOff (hs.ribbons id) hstate).2
        refine setRibbon_watch hs ?_ ⟨hentry, ?_⟩
        · rw [ribbonContent_notShowing (.inr rfl), ribbonContent_notShowing (.inl hstate)]
        · simpa [Option.isNone_iff_eq_none, Option.isSome_iff_ne_none] using hlist
    · exact hs
    · exact hs
    · rename_i hstate
      have hlist := ribbonConsistent_committed (hs.ribbons id) (by rw [hstate]; decide)
      exact setRibbon_watch hs (ribbonContent_showing (.inr hstate) (.inl rfl)) (consistent_on rfl hlist)

theorem ribbonDisable_watch (b : Byte) : Keeps WatchSound (fun s => (ribbonDisable b s).state) := fun s hs => by
  dsimp only [ribbonDisable]
  split
  · exact hs
  · rename_i id _
    split
    · exact hs
    · exact hs
    · rename_i hstate
      have hentry := (ribbonConsistent_ofStarting (hs.ribbons id) hstate).1
      refine handRibbon_watch hs (fun _ => ?_) (commitOff_consistent rfl hentry)
      rw [ribbonContent_notShowing (.inr hstate), ribbonContent_noEntry]
      rw [commitOff_entry]
      exact hentry
    · rename_i hstate
      have hlist := ribbonConsistent_committed (hs.ribbons id) (by rw [hstate]; decide)
      exact setRibbon_watch hs (ribbonContent_showing (.inl hstate) (.inr rfl)) (consistent_stopping rfl hlist)

theorem cancelStaged_watch (id : RibbonId) : Keeps WatchSound (fun s => (cancelStaged id s).state) := fun s hs => by
  dsimp only [cancelStaged]
  split
  · exact hs
  · refine setRibbon_watch hs (ribbonContent_congr rfl rfl rfl) ?_
    have hr := hs.ribbons id
    unfold RibbonConsistent at hr ⊢
    dsimp only
    split <;> rename_i hstate <;> rw [hstate] at hr
    · exact ⟨rfl, hr.2⟩
    · exact hr
    · exact hr
    · exact hr

/-- A list staged on a ribbon that is not OFF. -/
theorem consistent_staged {r : Ribbon} (h : RibbonConsistent r) (hstate : r.state ≠ .off) (x : Option StagedList) :
    RibbonConsistent { r with staged := x } := by
  unfold RibbonConsistent at h ⊢
  dsimp only
  split <;> rename_i hs <;> rw [hs] at h
  · exact absurd hs hstate
  · exact h
  · exact h
  · exact h

theorem stage_watch (g : Gather) : Keeps WatchSound (stage g) := fun s hs => by
  have h := watchSound_dependsOn
  have emptied : WatchSound { s with rotation.gather := none } := h.kept (ps := [.gather]) (.of_merge rfl) (by decide) hs
  have hribbon : ribbonOf g.ribbon { s with rotation.gather := none } = ribbonOf g.ribbon s := by cases g.ribbon <;> rfl
  unfold stage
  refine h.kept (settleLong_within _ _ _) (by decide) ?_
  dsimp only
  split
  · rename_i hstate
    have hoff : (ribbonOf g.ribbon s).state = .off := hstate
    have hentry := (ribbonConsistent_ofOff (hs.ribbons g.ribbon) hoff).2
    refine handRibbon_watch emptied (fun _ => ?_) (commitOff_consistent hoff hentry)
    rw [hribbon, ribbonContent_notShowing (.inl hoff), ribbonContent_noEntry]
    rw [commitOff_entry]
    exact hentry
  · rename_i hstate
    refine setRibbon_watch emptied ?_ (consistent_staged (hs.ribbons g.ribbon) hstate _)
    rw [hribbon]
    exact ribbonContent_congr rfl rfl rfl

theorem stepGather_watch : Keeps WatchSound stepGather := fun s hs => by
  have h := watchSound_dependsOn
  unfold stepGather
  split
  · rename_i g _
    split
    · split
      · unfold judgeGather
        split
        · exact h.kept (refuseAmend_within _ _ s) (by decide) hs
        · exact stage_watch g s hs
      · exact h.kept (ps := [.gather]) (.of_merge rfl) (by decide) hs
    · exact hs
  · exact hs

theorem expireGather_watch : Keeps WatchSound expireGather := fun s hs => by
  unfold expireGather
  split
  · split
    · exact stepGather_watch s hs
    · exact hs
  · exact hs

theorem cancel_watch (t : Byte) : Keeps WatchSound (fun s => (cancel t s).state) := fun s hs => by
  dsimp only [cancel]
  split
  · exact watchSound_dependsOn.kept (cancelLong_within s) (by decide) hs
  · exact cancelStaged_watch .a s hs
  · exact cancelStaged_watch .b s hs
  · exact hs

/-! ### Layouts, resets and every step -/

theorem applyLayout_derived : Keeps Derived applyLayout := fun s hs => by
  unfold applyLayout
  split
  · exact derived_dependsOn.kept (settleLong_within _ _ _) (by decide) (derived_rebuildWatch _)
  · exact hs

/-- No zone is watched and no ribbon runs. -/
theorem watchSound_of_empty {s : State} (hwatch : s.path.watch = []) (hzones : s.sweep.zones = [])
    (hheader : s.sweep.header = none) (hrotation : s.rotation = coldRotation) : WatchSound s := by
  refine ⟨?_, fun id => ?_⟩
  · have hrecords : enabledRecords s = [] := by
      rw [enabledRecords_eq, hzones]
      rfl
    have halert : watchAlert s = [] := by
      rw [watchAlert_eq, hheader]
      cases s.alert.chosen <;> rfl
    rw [Derived, hwatch, deriveWatch_eq_merging, watchMerging, hrecords, halert]
    rfl
  · have hid : ribbonOf id s = coldRibbon := by
      cases id
      · exact congrArg RotationUnit.a hrotation
      · exact congrArg RotationUnit.b hrotation
    rw [hid]
    exact ⟨rfl, rfl⟩

theorem watchSound_alertKeeps : AlertKeeps sourceParts WatchSound where
  dependsOn := watchSound_dependsOn
  apart := by decide
  offAir := fun s x h hx hchosen hs => ⟨derived_alertKeeps.offAir s x h hx hchosen hs.derived,
    fun id => by cases id <;> [exact hs.ribbons .a; exact hs.ribbons .b]⟩
  entry := WatchSound.of_derived derived_alertKeeps.entry alertEntry_within (by decide)
  release := WatchSound.of_derived derived_alertKeeps.release releaseAlert_within (by decide)

theorem watchSound_keptByStep : KeptByStep WatchSound := by
  have h := watchSound_dependsOn
  have alerts := watchSound_alertKeeps
  have cold : Keeps WatchSound coldUnits := fun s _ => watchSound_of_empty rfl rfl rfl rfl
  have short {owner : State → PostOutcome} (tag : Half) (code : Byte)
      (howner : Keeps WatchSound (fun s => (owner s).state)) : Keeps WatchSound (outOfBypass (shortCue tag code owner)) :=
    outOfBypass_keeps_of (shortCue_keeps h (by decide) howner tag code)
  have lined {mine : FlightOrigin → Bool} {use : Line → State → State} (huse : ∀ l, Keeps WatchSound (use l)) :
      Keeps WatchSound (arrival mine use) := fun s hs =>
    arrival_keeps (fun hs => h.kept (ps := [.port]) (.of_merge rfl) (by decide) hs) huse hs
  refine h.keptByUnits (by decide) (by decide)
    (fun n d m => WatchSound.of_derived (forwardWrite_derived n d m) (forwardWrite_within n d m) (by decide)) ?_
  intro i hgrant hmeets
  cases i
  case mportGrant => exact (hgrant rfl).elim
  case coldReset => exact coldReset_keeps h (by decide) cold
  case initialisationComplete straps =>
    exact initialisationComplete_keeps h (by decide) cold (h.keeps sampleLines_within (by decide)) straps
  case glyphLineArrival =>
    exact lined (mine := fun o => o == .glyph) fun l => WatchSound.of_derived (glyphLine_derived l) (glyphLine_within l) (by decide)
  case clipDescriptorLineArrival =>
    exact lined (mine := fun o => o == .clip) fun l => WatchSound.of_derived (clipLine_derived l) (clipLine_within l) (by decide)
  case sweepBoundary order hold =>
    refine outOfBypass_keeps_of (sweepBoundary_keeps h (by decide) (h.keeps slotDeadline_within (by decide)) (fun t => ?_)
      (h.keeps exchangeFlips_within (by decide))
      (WatchSound.of_derived startOnAir_derived startOnAir_within (by decide))
      (WatchSound.of_derived startFrame_derived startFrame_within (by decide)) order hold)
    cases t
    case layout => exact WatchSound.of_derived applyLayout_derived applyLayout_within (by decide)
    case alert => exact alerts.alertWork (by decide)
    case replay => exact WatchSound.of_derived replayWork_derived replayWork_within (by decide)
    case rotation => exact rotationWork_watch
    case message => exact WatchSound.of_derived messageWork_derived messageWork_within (by decide)
  case clockTimebaseStep =>
    exact timebaseStep_keeps h (by decide) (WatchSound.of_derived stepClocks_derived stepClocks_within (by decide))
      (h.keeps stepGap_within (by decide)) (h.keeps stepWatchdog_within (by decide)) (h.keeps stepIdle_within (by decide))
      (WatchSound.of_derived stepChase_derived stepChase_within (by decide)) stepGather_watch alerts.stepDebounce
      (h.keeps stepHeat_within (by decide))
  case clockExpiry k =>
    exact outOfBypass_keeps_of (WatchSound.of_derived (expireClock_derived k) (expireClock_within k) (by decide))
  case beacon p =>
    exact outOfBypass_keeps_of (WatchSound.of_derived (takeBeacon_derived p) (takeBeacon_within p) (by decide))
  case scoreFrame p =>
    exact outOfBypass_keeps_of (WatchSound.of_derived (writeScores_derived p) (writeScores_within p) (by decide))
  case chaseTimeout =>
    exact outOfBypass_keeps_of (WatchSound.of_derived expireChase_derived expireChase_within (by decide))
  case gatherTimerExpiry => exact outOfBypass_keeps_of expireGather_watch
  case venueAlertLineAsserted => exact levelOr_keeps h (by decide) (alerts.venueAsserts (by decide)) _
  case debounceExpiry => exact outOfBypass_keeps_of alerts.expireDebounce
  case timingLineByte b e =>
    exact outOfBypass_keeps_of (takeByte_keeps h (by decide)
      (fun p => WatchSound.of_derived (takeBeacon_derived p) (takeBeacon_within p) (by decide))
      (fun p => WatchSound.of_derived (writeScores_derived p) (writeScores_within p) (by decide)) b e)
  case clipPlay tag r g =>
    exact short tag 0x21 (WatchSound.of_derived (clipPlay_derived r g) (clipPlay_within r g) (by decide))
  case clipHold tag => exact short tag 0x22 (WatchSound.of_derived clipHold_derived clipHold_within (by decide))
  case clipResume tag => exact short tag 0x23 (WatchSound.of_derived clipResume_derived clipResume_within (by decide))
  case clipRate tag r => exact short tag 0x24 (WatchSound.of_derived (clipRate_derived r) (clipRate_within r) (by decide))
  case clipAngle tag a => exact short tag 0x25 (WatchSound.of_derived (clipAngle_derived a) (clipAngle_within a) (by decide))
  case clipDrop tag => exact short tag 0x26 (WatchSound.of_derived clipDrop_derived clipDrop_within (by decide))
  case ribbonEnable tag b => exact short tag 0x30 (ribbonEnable_watch b)
  case ribbonDisable tag b => exact short tag 0x31 (ribbonDisable_watch b)
  case messagePost tag m =>
    exact short tag 0x40 (withAddress_keeps
      (WatchSound.of_derived (postOperand_derived m) (postOperand_within m) (by decide)) true m.addr)
  case messageWithdraw tag id =>
    exact short tag 0x41 (WatchSound.of_derived (withdraw_derived id.toNat) (withdraw_within id.toNat) (by decide))
  case alertRaise tag a => exact short tag 0x51 (withAddress_keeps (alerts.alertRaise a.toNat) true a)
  case alertClear tag => exact short tag 0x52 alerts.alertClear
  case clockSet tag op => exact short tag 0x70 (WatchSound.of_derived (clockSet_derived op) (clockSet_within op) (by decide))
  case scoreSet tag op =>
    exact short (owner := scoreSet op) tag 0x73
      (WatchSound.of_derived (writeScores_derived op) (writeScores_within op) (by decide))
  case cancelStaged tag t => exact short tag 0x82 (cancel_watch t)
  case restart tag =>
    exact outOfBypass_keeps_of (cueRestart_keeps h (by decide) (h.keeps endLong_within (by decide))
      (fun s _ => watchSound_of_empty rfl rfl rfl rfl) tag)
  all_goals exact (Bool.false_ne_true hmeets).elim

/-- Settles O59, by the list rebuilt at each change of a source. -/
theorem watchListStaysDerived : Obligations.WatchListStaysDerived := fun s t hs hstep =>
  (watchDerived_iff t).2 (watchSound_keptByStep s t ((watchDerived_iff s).1 hs) hstep)

end Sys2Proof.Proofs
end

section
/-! PROOFS. The two resets and initialisation (R29, R45, R55, and the reset sections): the cold values, the count of ten
timebase events, and the warm values. -/

namespace Sys2Proof.Proofs

open Sys2Proof.Machine Sys2Proof.Safety

/-- Settles O60: the reset state holds no list, no zone and no entry. -/
theorem resetMeetsTheInvariants : Obligations.ResetMeetsTheInvariants := by
  have hclock (ceiling : Nat) : ClockInRange ceiling coldClock :=
    ⟨Nat.zero_le _, by decide, by decide, by decide, fun _ => ⟨rfl, rfl⟩⟩
  have hvalues : ValuesInRange State.reset :=
    ⟨hclock _, hclock _, by decide, by decide, by decide, by decide, by decide, by decide, List.forall_mem_nil _⟩
  have htables : TablesSound State.reset := tablesSound_of_empty tableSound_nil rfl rfl rfl
  obtain ⟨hbalances, hordered, hentered, hmessages⟩ := (tablesSound_iff _).1 htables
  have hduty : DutyAsTable State.reset := rfl
  have hlatches : LatchesCovered State.reset := rfl
  have hwatch : WatchDerived State.reset := (watchDerived_iff _).2 (watchSound_of_empty rfl rfl rfl rfl)
  have hforwarding : ForwardingBounded State.reset := ⟨Nat.zero_le _, fun h => (h rfl).elim⟩
  exact ⟨reset_wf, hvalues, hbalances, hordered, hentered, hduty, hlatches, hforwarding, hmessages, hwatch⟩

/-- Settles O3: every value is the cold one by definition. -/
theorem resetTakesColdValues : Obligations.ResetTakesColdValues :=
  ⟨by
    intro s
    refine ⟨rfl, rfl, rfl, rfl, rfl, rfl, rfl, rfl, rfl, rfl, rfl, rfl, rfl, rfl, rfl, rfl, rfl, rfl, rfl, rfl, rfl, rfl,
      rfl, rfl, rfl, rfl, rfl, rfl, rfl, rfl, rfl, rfl, rfl, rfl, rfl, rfl, rfl, rfl, rfl, rfl, rfl, rfl, rfl, rfl, rfl,
      rfl, rfl, rfl, rfl, rfl, rfl, rfl, rfl, rfl, rfl, rfl, rfl, rfl, rfl, rfl⟩,
    fun s => by simp only [exec, execColdReset, coldReset, coldUnits, State.reset]⟩

/-! ### Initialisation -/

theorem runCommands_cons (i : Instr) (rest : List Instr) (s : State) :
    runCommands (i :: rest) s = runCommands rest (effect i s) := by
  rw [runCommands, exec_eq]

/-- In bypass a timebase event takes 1 from the count of R29 and does nothing else. -/
theorem runCommands_timebaseSteps (rest : List Instr) (n k : Nat) (s : State) (hbypass : s.bypass = true) :
    runCommands (List.replicate n .clockTimebaseStep ++ rest) { s with initCount := some k }
      = runCommands rest { s with initCount := some (k - n) } := by
  induction n generalizing k with
  | zero => rfl
  | succ n ih =>
    have hstep : effect .clockTimebaseStep { s with initCount := some k } = { s with initCount := some (k - 1) } := by
      simp only [effect, timebaseStep, hbypass, if_true, stepInit, Option.map_some]
    rw [List.replicate_succ, List.cons_append, runCommands_cons, hstep, ih, Nat.sub_sub, Nat.add_comm]

theorem resetDeassert_asserted {s : State} (h : s.pins.reset = true) :
    resetDeassert s = { s with pins := { s.pins with reset := false }, initCount := some 10 } := by
  simp only [resetDeassert, h, if_true, Config.initEvents]

theorem initialisationComplete_early {s : State} {n : Nat} (straps : BitVec 4) (h : s.initCount = some n)
    (hn : 1 < n) : initialisationComplete straps s = s := by
  have hlate : ¬ n ≤ 1 := by omega
  simp [initialisationComplete, h, hlate]

theorem initialisationComplete_due {s : State} {n : Nat} (straps : BitVec 4) (h : s.initCount = some n)
    (hn : n ≤ 1) (hbypass : s.bypass = true) : initialisationComplete straps s = finishInit straps s := by
  simp [initialisationComplete, h, hn, hbypass]

/-- The commands from RESET's deassertion to INITIALISATION_COMPLETE, with `n` timebase events between. -/
theorem runCommands_initialisation (n : Nat) (straps : BitVec 4) {s : State} (hreset : s.pins.reset = true)
    (hbypass : s.bypass = true) :
    runCommands (.resetDeassert :: (List.replicate n .clockTimebaseStep ++ [.initialisationComplete straps])) s
      = .next (initialisationComplete straps
          { s with pins := { s.pins with reset := false }, initCount := some (10 - n) }) := by
  rw [runCommands_cons, show effect .resetDeassert s = _ from resetDeassert_asserted hreset,
    runCommands_timebaseSteps _ n 10 { s with pins := { s.pins with reset := false } } hbypass, runCommands_cons]
  rfl

/-- Settles O4: nine timebase events and the row itself make ten. -/
theorem initialisationTakesTenEvents : Obligations.InitialisationTakesTenEvents := by
  intro s straps
  refine ⟨fun hreset => ?_, fun hreset hbypass n hn => ?_, fun hreset hbypass => ?_, fun n hbypass hcount hn => ?_⟩
  · rw [exec_eq]
    exact congrArg _ (resetDeassert_asserted hreset)
  · rw [runCommands_initialisation n straps hreset hbypass, initialisationComplete_early straps rfl (by omega)]
  · have hdue := initialisationComplete_due (n := 1)
      (s := { s with pins := { s.pins with reset := false }, initCount := some 1 }) straps rfl (Nat.le_refl 1) hbypass
    refine ⟨_, (runCommands_initialisation 9 straps hreset hbypass).trans (congrArg _ hdue), ?_⟩
    have hheat (x : Bool) : heatFound x coldBrightness
        = if x = true then { coldBrightness with state := .warming, warm := some 2000 } else coldBrightness := by
      cases x <;> rfl
    exact ⟨rfl, rfl, rfl, rfl, rfl, rfl, rfl, rfl, rfl, rfl, rfl, rfl, rfl, rfl, rfl, rfl, rfl, hheat _⟩
  · exact ⟨_, exec_eq _ s, by
      rw [effect, initialisationComplete_due straps hcount hn hbypass]
      exact ⟨rfl, rfl⟩⟩

/-! ### RESTART -/

/-- The state that RESTART leaves, from the lane and the snapshot as the settlement of the cue in flight left them. -/
def warmed (tag : Half) (lane : Option Lane) (snapshot : Option Snapshot) (s : State) : State :=
  let aux : List Glyph := if hasDash s.figures.glyphs = true then [.blank, .dash] else [.blank, .digit 0]
  { s with
    path := { s.path with watch := [], houses := [] }
    port := s.port.map (fun f => { f with dropped := true })
    decoder :=
      { lane := lane, mask := 0, latches := 0, last := { tag := tag, code := 0x83, result := .done, detail := 0 } }
    status := { s.status with flags := 0 }
    sweep := { coldSweep with number := s.sweep.number, rate := s.sweep.rate }
    clock := { coldClockUnit with receiver := s.clock.receiver }
    figures := { coldFigures with
      glyphs := s.figures.glyphs, strings := { coldStrings with homeAux := aux, guestAux := aux } }
    replay := coldReplay
    rotation := coldRotation
    exposure := { s.exposure with snapshot := snapshot }
    messages := coldMessages
    alert := { coldAlert with
      standing := s.alert.standing, colour := s.alert.colour
      debounce := if s.pins.venue = true then some 100 else none }
    brightness := if s.pins.heat = true then { coldBrightness with state := .hold, effective := 4 } else coldBrightness }

theorem restartFigures_strings (s : State) :
    let aux : List Glyph := if hasDash s.figures.glyphs = true then [.blank, .dash] else [.blank, .digit 0]
    restartFigures s = { s with figures := { coldFigures with
      glyphs := s.figures.glyphs, strings := { coldStrings with homeAux := aux, guestAux := aux } } } := by
  have haux : auxString s.figures.glyphs 0
      = if hasDash s.figures.glyphs = true then [.blank, .dash] else [.blank, .digit 0] := by
    cases hdash : hasDash s.figures.glyphs <;> simp only [auxString, hdash] <;> rfl
  intro aux
  show ({ s with figures := { coldFigures with glyphs := s.figures.glyphs, strings := { coldStrings with
    homeAux := auxString s.figures.glyphs 0, guestAux := auxString s.figures.glyphs 0 } } } : State) = _
  rw [haux]

theorem restartBrightness_heat (s : State) : restartBrightness s = { s with brightness :=
    if s.pins.heat = true then { coldBrightness with state := .hold, effective := 4 } else coldBrightness } := by
  cases hheat : s.pins.heat <;> simp only [restartBrightness, hheat] <;> rfl

/-- The warm values follow a settlement that touched the lane and the snapshot only. -/
theorem settleShort_restartUnits (tag : Half) (s : State) :
    settleShort tag 0x83 .done 0 (restartUnits s) = warmed tag s.decoder.lane s.exposure.snapshot s := by
  rw [settleShort_taken tag 0x83 .done 0 _ rfl, restartUnits, restartBrightness_heat, restartFigures_strings]
  simp only [warmed, restartFlags, restartAlert, restartClock, restartContent, restartSweep, restartPath, dropFlight,
    Config.debounceTime]
  rfl

theorem laneUnsettled_open {s : State} {l : Lane} (h : s.decoder.lane = some l) (hfinal : l.final = none) :
    laneUnsettled s = true := by
  simp [laneUnsettled, h, hfinal]

theorem laneUnsettled_settled {s : State} (h : ∀ l, s.decoder.lane = some l → l.final ≠ none) :
    laneUnsettled s = false := by
  cases hlane : s.decoder.lane with
  | none => simp [laneUnsettled, hlane]
  | some l => simpa [laneUnsettled, hlane] using Option.ne_none_iff_isSome.1 (h l hlane)

/-- A cue in flight without a snapshot: its work, and a record line in flight, go with the cold values of their units. -/
theorem warmed_cancelled {s : State} {l : Lane} (tag : Half) (h : s.decoder.lane = some l) (hfinal : l.final = none) :
    warmed tag (settleLong .cancelled 0 (dropRecord (discardWork s))).decoder.lane s.exposure.snapshot
        (settleLong .cancelled 0 (dropRecord (discardWork s)))
      = warmed tag (settled l .cancelled 0) s.exposure.snapshot s := by
  have hlane : s.decoder.lane.map (settleLane .cancelled 0) = settled l .cancelled 0 := by
    rw [h, Option.map_some, settleLane_open .cancelled 0 l hfinal]
    rfl
  have hport : (s.port.map (fun f => if sweepOrigin f.origin then f else { f with dropped := true })).map
      (fun f => { f with dropped := true }) = s.port.map (fun f => { f with dropped := true }) := by
    rw [Option.map_map]
    congr 1
    funext f
    dsimp only [Function.comp]
    split <;> rfl
  rw [← hlane]
  exact congrArg (fun p => { warmed tag (s.decoder.lane.map (settleLane .cancelled 0)) s.exposure.snapshot s with
    port := p }) hport

/-- Settles O5: the cue in flight is settled, then every unit takes its warm values. -/
theorem restartTakesWarmValues : Obligations.RestartTakesWarmValues := by
  intro s tag hbypass aux warm
  have hexec : exec (.restart tag) s = .next (cueRestart tag s) := by
    rw [exec_eq]
    exact congrArg _ (outOfBypass_out hbypass)
  rw [hexec, cueRestart]
  refine ⟨fun hsettled => ?_, fun l hlane hfinal hsnapshot => ?_, fun l p hlane hfinal hsnapshot => ?_⟩
  · rw [laneUnsettled_settled hsettled, if_neg Bool.false_ne_true, settleShort_restartUnits]
    rfl
  · rw [laneUnsettled_open hlane hfinal, if_pos rfl, endLong, hsnapshot, settleShort_restartUnits]
    exact congrArg _ ((warmed_cancelled tag hlane hfinal).trans (by rw [hsnapshot]; rfl))
  · rw [laneUnsettled_open hlane hfinal, if_pos rfl, endLong, hsnapshot, settleShort_restartUnits]
    have hcancelled : s.decoder.lane.map (settleLane .cancelled p.written) = settled l .cancelled p.written := by
      rw [hlane, Option.map_some, settleLane_open .cancelled p.written l hfinal]
      rfl
    exact congrArg (fun x => Host.Outcome.next (warm x _)) hcancelled

end Sys2Proof.Proofs
end

section
/-! PROOFS. Raises and settlements (R48, R58, R61), and the cabinet heat line (R177, R178). -/

namespace Sys2Proof.Proofs

open Sys2Proof.Machine Sys2Proof.Safety

/-! ### Raises and settlements -/

/-- R61: a raise sets the latch of its own flag alone, where that is a rise of an enabled flag. -/
theorem latch_raise (f g : Flag) (s : State) :
    (raise f s).decoder.latches.getLsbD (flagBit g)
      = (s.decoder.latches.getLsbD (flagBit g)
          || (g = f && !s.status.flags.getLsbD (flagBit g) && s.decoder.mask.getLsbD (flagBit g))) := by
  by_cases h : g = f
  · subst h
    rw [decide_eq_true rfl, Bool.true_and]
    exact latch_raise_self g s
  · rw [decide_eq_false h, Bool.false_and, Bool.false_and, Bool.or_false]
    exact latchUp_raise_other h s

theorem attention_iff_latch (s : State) :
    attention s = true ↔ ∃ f, s.decoder.latches.getLsbD (flagBit f) = true := by
  rw [attention_iff, ← not_iff_not, not_not, not_exists]
  constructor
  · intro h f
    simp [h]
  · intro h
    exact flagRegister_ext fun f => by simpa using h f

theorem refuses_iff (r : Result) : refuses r = true ↔ ¬ (r = .done ∨ r = .cancelled) := by
  simp [refuses]

/-- Settles O6, by the tables and by what a raise does to each flag's bit. -/
theorem raisesAndSettlements : Obligations.RaisesAndSettlements := by
  refine ⟨?bits, ?results, ?phases, ?cues, fun f s => ?raised, attention_iff_latch, fun tag code r d s => ?settled⟩
  case bits => decide
  case results => decide
  case phases => decide
  case cues => decide
  case raised => exact ⟨_, _, rfl, fun g => ⟨flagUp_raise f g s, latch_raise f g s⟩⟩
  case settled =>
    split
    case isTrue h => exact settleShort_taken tag code r d s (by simpa [h] using mt (refuses_iff r).1 (not_not.2 h))
    case isFalse h => exact settleShort_refused tag code r d s ((refuses_iff r).2 h)

/-! ### The heat line -/

theorem dutyOf_limited {b : BrightnessGovernor} (h : b.state = .hold ∨ b.state = .cooling) (onAir : Bool) :
    dutyOf b onAir = min b.requested b.thermal := by
  rcases h with h | h <;> simp [dutyOf, thermalLimit, h]

theorem dutyOf_free {b : BrightnessGovernor} (h : b.state = .normal ∨ b.state = .warming) (s : State) :
    dutyOf b (alertOnAir s) = if s.alert.state = .onAir then 8 else b.requested := by
  rcases h with h | h <;> simp [dutyOf, thermalLimit, h, alertOnAir, Config.alertDuty]

section
variable {b : BrightnessGovernor}

theorem heatAsserted_normal (h : b.state = .normal) :
    heatAsserted b = { b with state := .warming, warm := some 2000 } := by
  simp only [heatAsserted, h, Config.warmTime]

theorem heatAsserted_cooling (h : b.state = .cooling) : heatAsserted b = { b with state := .hold, cool := none } := by
  simp only [heatAsserted, h]

theorem heatAsserted_kept (h : b.state = .warming ∨ b.state = .hold) : heatAsserted b = b := by
  rcases h with h | h <;> simp only [heatAsserted, h]

theorem heatDeasserted_warming (h : b.state = .warming) :
    heatDeasserted b = { b with state := .normal, warm := none } := by
  simp only [heatDeasserted, h]

theorem heatDeasserted_hold (h : b.state = .hold) :
    heatDeasserted b = { b with state := .cooling, cool := some 10000 } := by
  simp only [heatDeasserted, h, Config.coolTime]

theorem heatDeasserted_kept (h : b.state = .normal ∨ b.state = .cooling) : heatDeasserted b = b := by
  rcases h with h | h <;> simp only [heatDeasserted, h]

end

/-- The state's thermal state moves before the duty is recomputed, which the line alone never changes. -/
theorem heatLine_eq (x : Bool) (s : State) : heatLine x s = { s with
    pins := { s.pins with heat := x }
    brightness := { heatFound x s.brightness with effective := dutyOf s.brightness (alertOnAir s) } } := by
  rw [← dutyOf_heatFound x]
  rfl

theorem enterHold_eq (s : State) : enterHold s = raise .thermalHold { s with brightness :=
    { s.brightness with state := .hold, warm := none, effective := min s.brightness.requested s.brightness.thermal } } :=
  rfl

theorem releaseHeat_eq (s : State) : releaseHeat s = raise .thermalRelease { s with brightness :=
    { s.brightness with
      state := .normal, cool := none, thermal := s.brightness.pendingThermal.getD s.brightness.thermal
      pendingThermal := none, effective := if s.alert.state = .onAir then 8 else s.brightness.requested } } := by
  rw [← dutyOf_free (b := { s.brightness with state := .normal }) (.inl rfl)]
  rfl

theorem expireWarm_last {s : State} (hstate : s.brightness.state = .warming) (hline : s.pins.heat = true)
    (htimer : s.brightness.warm = some 1) : expireWarm s = enterHold s := by
  simp [expireWarm, stepWarm, hstate, hline, htimer]

theorem expireCool_last {s : State} (hstate : s.brightness.state = .cooling) (hline : s.pins.heat = false)
    (htimer : s.brightness.cool = some 1) : expireCool s = releaseHeat s := by
  simp [expireCool, stepCool, hstate, hline, htimer]

/-- Settles O55: the line's rows by the thermal state, the timers' by their last events. -/
theorem heatLineMovesTheThermalState : Obligations.HeatLineMovesTheThermalState := by
  intro s b level free moved
  refine ⟨fun hbypass => ?inBypass, fun hbypass => ?outOfBypass⟩
  case inBypass =>
    exact ⟨congrArg _ (if_pos hbypass), congrArg _ (if_pos hbypass)⟩
  case outOfBypass =>
    have asserted : exec .heatLineAsserted s
        = .next (moved true { heatAsserted b with effective := dutyOf b (alertOnAir s) }) := by
      simp only [exec, execHeatLineAsserted, hbypass, Bool.false_eq_true, if_false]
      exact congrArg _ (heatLine_eq true s)
    have deasserted : exec .heatLineDeasserted s
        = .next (moved false { heatDeasserted b with effective := dutyOf b (alertOnAir s) }) := by
      simp only [exec, execHeatLineDeasserted, hbypass, Bool.false_eq_true, if_false]
      exact congrArg _ (heatLine_eq false s)
    rw [asserted, deasserted]
    refine ⟨fun h => ?_, fun h => ?_, fun h => ?_, fun h => ?_, fun h => ?_, fun h hline htimer => ?_,
      fun h hline htimer => ?_⟩
    · rw [dutyOf_free (.inl h), heatAsserted_normal h]
    · rw [dutyOf_free (.inr h), heatAsserted_kept (.inl h), heatDeasserted_warming h]
      exact ⟨rfl, rfl⟩
    · rw [dutyOf_limited (.inl h), heatAsserted_kept (.inr h), heatDeasserted_hold h]
      exact ⟨rfl, rfl⟩
    · rw [dutyOf_limited (.inr h), heatAsserted_cooling h, heatDeasserted_kept (.inr h)]
      exact ⟨rfl, rfl⟩
    · rw [dutyOf_free (.inl h), heatDeasserted_kept (.inl h)]
    · exact congrArg _ ((outOfBypass_out hbypass).trans ((expireWarm_last h hline htimer).trans (enterHold_eq s)))
    · exact congrArg _ ((outOfBypass_out hbypass).trans ((expireCool_last h hline htimer).trans (releaseHeat_eq s)))

end Sys2Proof.Proofs
end

section
/-! PROOFS. The long lane (R47, R49, R50, R54): the cues that take an idle lane, an occupied lane, and CANCEL. -/

namespace Sys2Proof.Proofs

open Sys2Proof.Machine Sys2Proof.Safety

/-! ### Taking the lane -/

/-- The lane as a cue takes it. -/
def takenLane (cue : LongCue) (tag : Half) (phase : LanePhase) : Lane :=
  { cue := cue, tag := tag, phase := phase, records := 0, toggle := false, final := none }

section
variable {s : State} {cue : LongCue} {tag : Half} {phase : LanePhase} {addrs : List Quad} {owner : State → State}

theorem longCue_idle (hidle : s.decoder.lane = none) (haddrs : addrs.all addressOk = true) :
    longCue cue tag phase addrs owner s
      = owner { s with decoder := { s.decoder with lane := some (takenLane cue tag phase) } } := by
  simp only [longCue, laneOccupied, hidle, haddrs]
  rfl

/-- R47: an address at or above 16 GiB is the Cue Decoder's own RANGE. -/
theorem longCue_outside (hidle : s.decoder.lane = none) (haddrs : addrs.all addressOk = false) :
    longCue cue tag phase addrs owner s
      = { s with decoder := { s.decoder with lane := settled (takenLane cue tag phase) .range 0 } } := by
  simp only [longCue, laneOccupied, hidle, haddrs]
  rfl

theorem longCue_busy {l : Lane} (hlane : s.decoder.lane = some l) :
    longCue cue tag phase addrs owner s = settleShort tag (longCode cue) .busy 0 s := by
  simp only [longCue, laneOccupied, hlane]
  rfl

end

/-- The settlement of the lane just taken. -/
theorem settleLong_taken (cue : LongCue) (tag : Half) (phase : LanePhase) (r : Result) (d : Nat) (s : State) :
    settleLong r d { s with decoder := { s.decoder with lane := some (takenLane cue tag phase) } }
      = { s with decoder := { s.decoder with lane := settled (takenLane cue tag phase) r d } } := rfl

theorem settleLong_open {s : State} {l : Lane} (hlane : s.decoder.lane = some l) (hopen : l.final = none) (r : Result)
    (d : Nat) : settleLong r d s = { s with decoder := { s.decoder with lane := settled l r d } } := by
  simp only [settleLong, hlane, Option.map_some, settleLane_open r d l hopen]
  rfl

/-! ### The record of a fetching cue -/

theorem lineAligned_iff (a : Nat) : lineAligned a = true ↔ a % 64 = 0 := by
  simp [lineAligned]

theorem fits_iff (a n : Nat) : fits a n = true ↔ a + n ≤ 0x400000000 :=
  decide_eq_true_iff

theorem addressOk_iff (a : Quad) : addressOk a = true ↔ a.toNat < 0x400000000 :=
  decide_eq_true_iff

/-- An address that every check of a fetching cue passes, for a record of `n` bytes. -/
def RecordPlaced (a : Quad) (n : Nat) : Prop := a.toNat < 0x400000000 ∧ a.toNat % 64 = 0 ∧ a.toNat + n ≤ 0x400000000

theorem RecordPlaced.addressOk {a : Quad} {n : Nat} (h : RecordPlaced a n) : [a].all addressOk = true := by
  rw [List.all_cons, (addressOk_iff a).2 h.1]
  rfl

theorem RecordPlaced.aligned {a : Quad} {n : Nat} (h : RecordPlaced a n) : lineAligned a.toNat = true :=
  (lineAligned_iff _).2 h.2.1

theorem RecordPlaced.fits {a : Quad} {n : Nat} (h : RecordPlaced a n) : fits a.toNat n = true :=
  (fits_iff _ _).2 h.2.2

theorem place_refused {a : Quad} {n : Nat} (haddr : addressOk a = true) (hbad : ¬ RecordPlaced a n) :
    (lineAligned a.toNat && fits a.toNat n) = false := by
  rw [Bool.eq_false_iff, Ne, Bool.and_eq_true]
  rintro ⟨haligned, hfits⟩
  exact hbad ⟨(addressOk_iff a).1 haddr, (lineAligned_iff _).1 haligned, (fits_iff _ _).1 hfits⟩

/-- A misplaced record settles its cue RANGE, by the Cue Decoder's check of the address or by the owner's own. -/
theorem longCue_misplaced {s : State} {cue : LongCue} {tag : Half} {addr : Quad} {owner : State → State}
    (hidle : s.decoder.lane = none)
    (howner : ∀ t, addressOk addr = true → owner t = settleLong .range 0 t) :
    longCue cue tag .fetching [addr] owner s
      = { s with decoder := { s.decoder with lane := settled (takenLane cue tag .fetching) .range 0 } } := by
  cases haddr : addressOk addr
  · exact longCue_outside hidle (by rw [List.all_cons, haddr]; rfl)
  · rw [longCue_idle hidle (by rw [List.all_cons, haddr]; rfl), howner _ haddr]
    rfl

theorem exec_layoutLoad {s : State} (h : s.bypass = false) (tag : Half) (addr : Quad) :
    exec (.layoutLoad tag addr) s = .next (longCue .layoutLoad tag .fetching [addr] (startLayout addr.toNat) s) :=
  congrArg _ (outOfBypass_out h)

theorem exec_glyphLoad {s : State} (h : s.bypass = false) (tag : Half) (addr : Quad) :
    exec (.glyphLoad tag addr) s = .next (longCue .glyphLoad tag .fetching [addr] (startGlyphs addr.toNat) s) :=
  congrArg _ (outOfBypass_out h)

theorem exec_clipArm {s : State} (h : s.bypass = false) (tag : Half) (addr : Quad) :
    exec (.clipArm tag addr) s = .next (longCue .clipArm tag .fetching [addr] (startClipArm addr.toNat) s) :=
  congrArg _ (outOfBypass_out h)

theorem exec_exposureSnapshot {s : State} (h : s.bypass = false) (tag : Half) (zero purge : Byte) (dest : Quad) :
    exec (.exposureSnapshot tag zero purge dest) s = .next
      (longCue .exposureSnapshot tag .writing [dest] (startSnapshot tag zero purge dest.toNat) s) :=
  congrArg _ (outOfBypass_out h)

theorem exec_rotationAmend {s : State} (h : s.bypass = false) (tag : Half) (op : AmendOperand) :
    exec (.rotationAmend tag op) s = .next (cueRotationAmend tag op s) :=
  congrArg _ (outOfBypass_out h)

theorem gathering_eq_none {s : State} {l : Lane} (op : AmendOperand) (hlane : s.decoder.lane = some l)
    (h : ¬ (l.cue = .rotationAmend ∧ l.phase = .gathering)) : gathering op s = none := by
  rw [gathering, hlane]
  split
  case h_1 heq _ =>
    cases heq
    exact if_neg fun hjoin => h ⟨hjoin.1, hjoin.2.1⟩
  case h_2 => rfl

/-- An occupied lane refuses every cue that does not join its gathering. -/
theorem longCues_busy {s : State} {l : Lane} (hbypass : s.bypass = false) (hlane : s.decoder.lane = some l) (tag : Half)
    (addr : Quad) (z p : Byte) (op : AmendOperand) :
    exec (.layoutLoad tag addr) s = .next (settleShort tag 0x01 .busy 0 s)
    ∧ exec (.glyphLoad tag addr) s = .next (settleShort tag 0x02 .busy 0 s)
    ∧ exec (.clipArm tag addr) s = .next (settleShort tag 0x03 .busy 0 s)
    ∧ exec (.exposureSnapshot tag z p addr) s = .next (settleShort tag 0x05 .busy 0 s)
    ∧ (¬ (l.cue = .rotationAmend ∧ l.phase = .gathering) →
        exec (.rotationAmend tag op) s = .next (settleShort tag 0x04 .busy 0 s)) := by
  rw [exec_layoutLoad hbypass, exec_glyphLoad hbypass, exec_clipArm hbypass, exec_exposureSnapshot hbypass,
    exec_rotationAmend hbypass]
  simp only [longCue_busy hlane]
  refine ⟨rfl, rfl, rfl, rfl, fun hother => ?_⟩
  rw [cueRotationAmend, gathering_eq_none op hlane hother]
  exact congrArg _ (longCue_busy hlane)

/-- Settles O19, by the idle lane and the occupied one. -/
theorem longCuesTakeTheLaneOrAreBusy : Obligations.LongCuesTakeTheLaneOrAreBusy := by
  refine ⟨fun s tag addr hbypass hidle => ?_, fun s l tag addr z p op hbypass hlane =>
    longCues_busy hbypass hlane tag addr z p op⟩
  intro lane rangeZero refused good
  rw [exec_layoutLoad hbypass, exec_glyphLoad hbypass, exec_clipArm hbypass]
  refine ⟨fun h => ?_, fun h => ?_, fun h => ?_, fun h => ?_, fun h => ?_, fun h => ?_⟩
  · have hplaced : RecordPlaced addr 0 := h
    rw [longCue_idle hidle hplaced.addressOk, startLayout, hplaced.aligned]
    rfl
  · refine congrArg _ (longCue_misplaced hidle fun t haddr => ?_)
    have hinside : fits addr.toNat 0 = true := (fits_iff _ _).2 ((addressOk_iff addr).1 haddr).le
    have haligned : lineAligned addr.toNat = false := by
      simpa only [hinside, Bool.and_true] using place_refused (n := 0) haddr h
    rw [startLayout, haligned]
    rfl
  · have hplaced : RecordPlaced addr 192 := h
    rw [longCue_idle hidle hplaced.addressOk, startGlyphs, hplaced.aligned, hplaced.fits]
    rfl
  · refine congrArg _ (longCue_misplaced hidle fun t haddr => ?_)
    rw [startGlyphs, place_refused haddr h]
    rfl
  · have hplaced : RecordPlaced addr 128 := h
    rw [longCue_idle hidle hplaced.addressOk, startClipArm, hplaced.aligned, hplaced.fits]
    rfl
  · refine congrArg _ (longCue_misplaced hidle fun t haddr => ?_)
    rw [startClipArm, place_refused haddr h]
    rfl

/-! ### CANCEL -/

theorem exec_cancelLong {s : State} (h : s.bypass = false) (tag : Half) :
    exec (.cancelLong tag) s = .next (shortCue tag 0x82 cancelLong s) :=
  congrArg _ (outOfBypass_out h)

theorem exec_cancelStaged {s : State} (h : s.bypass = false) (tag : Half) (target : Byte) :
    exec (.cancelStaged tag target) s = .next (shortCue tag 0x82 (cancel target) s) :=
  congrArg _ (outOfBypass_out h)

theorem cancelLong_open {s : State} {l : Lane} (hlane : s.decoder.lane = some l) (hopen : l.final = none) (tag : Half) :
    shortCue tag 0x82 cancelLong s = settleShort tag 0x82 .done 0 (endLong s) := by
  rw [shortCue, cancelLong, laneUnsettled_open hlane hopen]
  rfl

theorem dropRecord_eq (s : State) : dropRecord s = { s with port := s.port.map (fun f =>
    { f with
      dropped := f.dropped || f.origin == .layout || f.origin == .glyph || f.origin == .clip
        || f.origin == .slotRecords }) } := by
  rw [dropRecord]
  congr 2
  funext f
  obtain ⟨origin, data, dropped⟩ := f
  cases origin <;> cases dropped <;> rfl

/-- What is left of a snapshot's lines: the header not yet written IN_PROGRESS, and the header CANCELLED. -/
theorem cancelledLines_of_rest {rest : List SnapshotLine} (h : ∀ x ∈ rest, x ≠ .header .inProgress) :
    cancelledLines (.header .inProgress :: rest) = [.header .inProgress, .header .cancelled]
      ∧ cancelledLines rest = [.header .cancelled] := by
  have hnone : rest.filter (fun l => l == .header .inProgress) = [] := by
    rw [List.filter_eq_nil_iff]
    intro x hx
    simpa using h x hx
  refine ⟨?_, ?_⟩
  · rw [cancelledLines, List.filter_cons_of_pos rfl, hnone]
    rfl
  · rw [cancelledLines, hnone]
    rfl

/-- Settles O29, target by target. -/
theorem cancelEndsTheCueItNames : Obligations.CancelEndsTheCueItNames := by
  intro s tag hbypass
  rw [exec_cancelLong hbypass]
  simp only [exec_cancelStaged hbypass]
  refine ⟨fun hsettled => ?_, fun l hlane hopen hnone => ?_, fun l p hlane hopen hsnapshot => ?_,
    fun id target htarget => ?_, fun target htarget => ?_⟩
  · rw [shortCue, cancelLong, laneUnsettled_settled hsettled]
    rfl
  · rw [cancelLong_open hlane hopen, endLong, hnone]
    dsimp only
    rw [settleLong_open (s := dropRecord (discardWork s)) hlane hopen, dropRecord_eq]
    rfl
  · refine ⟨cancelledLines p.lines, ?_, fun rest hrest => ⟨?_, ?_⟩⟩
    · rw [cancelLong_open hlane hopen, endLong, hsnapshot]
      dsimp only
      exact congrArg (fun t => Host.Outcome.next (settleShort tag 0x82 .done 0 t))
        (settleLong_open (s := { s with exposure.snapshot := some { p with lines := cancelledLines p.lines } }) hlane hopen
          .cancelled p.written)
    · rintro hlines
      rw [hlines, (cancelledLines_of_rest hrest).1]
    · rintro hlines
      rw [hlines, (cancelledLines_of_rest hrest).2]
  · have hcancel : cancel target = cancelStaged id := by
      cases id
      · rw [htarget]
        rfl
      · rw [htarget]
        rfl
    rw [hcancel, shortCue, cancelStaged]
    cases hstaged : (ribbonOf id s).staged with
    | none => exact ⟨fun _ => rfl, fun h => (h rfl).elim⟩
    | some x => exact ⟨nofun, fun _ => rfl⟩
  · have hrefused : cancel target = refusal .range := by
      obtain ⟨k, hk⟩ : ∃ k, target.toNat = k + 3 := ⟨target.toNat - 3, by omega⟩
      funext t
      rw [cancel, hk]
      rfl
    rw [hrefused]
    rfl

end Sys2Proof.Proofs
end

section
/-! PROOFS. Bumps and reports (R9, R37), and the strings of an event (R80, R91, R93), in the words of the statements. -/

namespace Sys2Proof.Proofs

open Sys2Proof.Machine Sys2Proof.Safety

/-! ### Bumps -/

theorem bumps_map {p : ZoneRec → Bool} {P : ZoneRec → Prop} (hp : ∀ z, p z = true ↔ P z) (zones : List Zone) :
    Bumps P zones (zones.map (bumpZone p)) := by
  refine ⟨List.length_map _, fun n z u hz hu => ?_⟩
  rw [List.getElem?_map, hz, Option.map_some, Option.some.injEq] at hu
  subst hu
  rw [bumpZone, ← hp, ← Bool.and_eq_true]
  exact ⟨fun h => if_pos h, fun h => if_neg h⟩

theorem bumps_refl {P : ZoneRec → Prop} {zones : List Zone} (h : ∀ z ∈ zones, z.cfg.enabled = true → ¬ P z.cfg) :
    Bumps P zones zones := by
  refine ⟨rfl, fun n z u hz hu => ?_⟩
  cases hz.symm.trans hu
  exact ⟨fun hbumped => (h z (List.mem_of_getElem? hz) hbumped.1 hbumped.2).elim, fun _ => rfl⟩

theorem bumps_congr {P Q : ZoneRec → Prop} {zones after : List Zone} (h : Bumps P zones after) (hpq : ∀ z, P z ↔ Q z) :
    Bumps Q zones after := by
  rwa [show Q = P from funext fun z => propext (hpq z).symm]

theorem isMessage_iff (z : ZoneRec) : isMessage z = true ↔ z.role = .message := by
  simp [isMessage]

theorem isReplay_iff (z : ZoneRec) : isReplay z = true ↔ z.role = .replay := by
  simp [isReplay]

theorem showsRibbon_iff (id : RibbonId) (z : ZoneRec) : showsRibbon id z = true ↔ z.role = .sponsor id := by
  simp [showsRibbon]

theorem isFigure_iff (z : ZoneRec) : isFigure z = true ↔ ∃ f, z.role = .figure f := by
  rw [isFigure]
  cases z.role <;> simp

/-- A footprint with no zone of a kind leaves each such zone as it is. -/
theorem Within.zone_eq {ps : List Part} {s t : State} (h : Within ps s t) {n : Nat} {z u : Zone} {k : ZoneKind}
    (hz : s.sweep.zones[n]? = some z) (hu : t.sweep.zones[n]? = some u) (hkind : roleKind z.cfg.role = k)
    (hparts : .cfgs ∉ ps ∧ .epochs k ∉ ps ∧ .holds ∉ ps ∧ .sent ∉ ps ∧ .underruns ∉ ps) : u = z := by
  obtain ⟨hcfgs, hepochs, hholds, hsent, hunderruns⟩ := hparts
  have hcfg := congrArg (·[n]?) (h _ hcfgs)
  have hepoch := congrArg (·[n]?) (h _ hepochs)
  have hhold := congrArg (·[n]?) (h _ hholds)
  have hlast := congrArg (·[n]?) (h _ hsent)
  have hunder := congrArg (·[n]?) (h _ hunderruns)
  simp only [List.getElem?_map, hz, hu, Option.map_some, Option.some.injEq, Prod.mk.injEq] at hcfg hepoch hhold hlast hunder
  rw [epochOf, epochOf, hcfg, hkind, if_pos rfl, if_pos rfl, Option.some.injEq] at hepoch
  obtain ⟨_, _, _, _, _, _⟩ := z
  obtain ⟨_, _, _, _, _, _⟩ := u
  simp_all

/-- The parts that belong to the zones. -/
def zonePart : Part → Bool
  | .cfgs | .epochs _ | .holds | .sent | .underruns => true
  | _ => false

/-- A footprint with no part of the zones leaves them as they are. -/
theorem Within.zones_eq {ps : List Part} {s t : State} (h : Within ps s t) (hparts : ps.any zonePart = false) :
    t.sweep.zones = s.sweep.zones := by
  have hout {p : Part} (hp : zonePart p = true) : p ∉ ps := fun hin => by
    rw [List.any_eq_false] at hparts
    exact hparts p hin hp
  have hlength : t.sweep.zones.length = s.sweep.zones.length := by
    simpa only [List.length_map] using congrArg List.length (h .cfgs (hout rfl))
  refine List.ext_getElem hlength fun n hn hm => ?_
  exact h.zone_eq (List.getElem?_eq_getElem hm) (List.getElem?_eq_getElem hn) rfl
    ⟨hout rfl, hout rfl, hout rfl, hout rfl, hout rfl⟩

/-! ### Reports -/

theorem reported_iff {P : ZoneRec → Prop} {u t : State} :
    Reported P u t ↔ ∃ zones watch, Bumps P u.sweep.zones zones
      ∧ t = { u with sweep := { u.sweep with zones := zones }, path := { u.path with watch := watch } } :=
  ⟨fun ⟨hbumps, heq⟩ => ⟨_, _, hbumps, heq⟩, by
    rintro ⟨zones, watch, hbumps, rfl⟩
    exact ⟨hbumps, rfl⟩⟩

/-- The units report a change by one bump of the zones that show it and by the rebuilt watch list. -/
theorem reported_bump {p : ZoneRec → Bool} {P : ZoneRec → Prop} (hp : ∀ z, p z = true ↔ P z) (u : State) :
    Reported P u (rebuildWatch (bumpZones p u)) :=
  reported_iff.2 ⟨_, _, bumps_map hp _, rfl⟩

theorem reported_bumpOnly {p : ZoneRec → Bool} {P : ZoneRec → Prop} (hp : ∀ z, p z = true ↔ P z) (u : State) :
    Reported P u (bumpZones p u) :=
  reported_iff.2 ⟨_, u.path.watch, bumps_map hp _, rfl⟩

theorem reported_watchOnly {P : ZoneRec → Prop} {u : State} (h : ∀ z ∈ u.sweep.zones, z.cfg.enabled = true → ¬ P z.cfg) :
    Reported P u (rebuildWatch u) :=
  reported_iff.2 ⟨_, _, bumps_refl h, rfl⟩

theorem reported_refl {P : ZoneRec → Prop} {u : State} (h : ∀ z ∈ u.sweep.zones, z.cfg.enabled = true → ¬ P z.cfg) :
    Reported P u u :=
  reported_iff.2 ⟨_, u.path.watch, bumps_refl h, rfl⟩

section
variable {P : ZoneRec → Prop} {u t : State}

/-- A change of neither the zones nor the watch list goes by after a report as before it. -/
theorem reported_after (h : Reported P u t) (f : State → State) (hzones : (f u).sweep.zones = u.sweep.zones)
    (hf : ∀ zones watch,
      f { u with sweep := { u.sweep with zones := zones }, path := { u.path with watch := watch } }
        = { f u with
            sweep := { (f u).sweep with zones := zones }, path := { (f u).path with watch := watch } }) :
    Reported P (f u) (f t) := by
  obtain ⟨zones, watch, hbumps, rfl⟩ := reported_iff.1 h
  exact reported_iff.2 ⟨zones, watch, by rwa [hzones], hf zones watch⟩

theorem reported_settleLong (h : Reported P u t) (r : Result) (d : Nat) :
    Reported P (settleLong r d u) (settleLong r d t) :=
  reported_after h (settleLong r d) rfl fun _ _ => rfl

theorem reported_raise (h : Reported P u t) (f : Flag) : Reported P (raise f u) (raise f t) :=
  reported_after h (raise f) rfl fun _ _ => rfl

theorem reported_settleShort (h : Reported P u t) (tag : Half) (code : Byte) (r : Result) (d : Nat) :
    Reported P (settleShort tag code r d u) (settleShort tag code r d t) := by
  cases hr : refuses r
  · rw [settleShort_taken tag code r d _ hr, settleShort_taken tag code r d _ hr]
    exact reported_after h (fun s => { s with decoder.last := { tag := tag, code := code, result := r, detail := d } }) rfl
      fun _ _ => rfl
  · rw [settleShort_refused tag code r d _ hr, settleShort_refused tag code r d _ hr]
    exact reported_raise (reported_after h
      (fun s => { s with decoder.last := { tag := tag, code := code, result := r, detail := d } }) rfl
      fun _ _ => rfl) .cueRefused

theorem reported_rebuild (h : Reported P u t) : Reported P u (rebuildWatch t) := by
  obtain ⟨zones, watch, hbumps, rfl⟩ := reported_iff.1 h
  exact reported_iff.2 ⟨zones, _, hbumps, rfl⟩

theorem reported_congr {Q : ZoneRec → Prop} (h : Reported P u t) (hpq : ∀ z, P z ↔ Q z) : Reported Q u t :=
  ⟨bumps_congr h.1 hpq, h.2⟩

end

/-! ### Strings -/

theorem showsChanged_iff (old new : FigureStrings) (z : ZoneRec) :
    showsChanged old new z = true ↔ ∃ f, z.role = .figure f ∧ figureString old f ≠ figureString new f := by
  rw [showsChanged]
  cases z.role <;> simp

/-- R91, R93: an event's recomputation, whether or not a string changes. -/
theorem refreshStrings_restrung (u : State) : Restrung u (refreshStrings u) := by
  have hchanged := showsChanged_iff u.figures.strings
    (renderStrings u.figures u.clock.gameString u.clock.secondaryString)
  rw [refreshStrings]
  dsimp only
  split
  · exact ⟨rfl, bumps_map hchanged _, rfl⟩
  · exact ⟨rfl, bumps_map hchanged _, rfl⟩

/-- R80. -/
theorem handStrings_redisplayed (u : State) : Redisplayed u (handStrings u) := refreshStrings_restrung _

theorem restrung_iff {u t : State} :
    Restrung u t ↔
      let strings := renderStrings u.figures u.clock.gameString u.clock.secondaryString
      ∃ zones watch,
        Bumps (fun z => ∃ f, z.role = .figure f ∧ figureString u.figures.strings f ≠ figureString strings f)
          u.sweep.zones zones
        ∧ t = { u with
            figures := { u.figures with strings := strings }
            sweep := { u.sweep with zones := zones }
            path := { u.path with watch := watch } } := by
  constructor
  · rintro ⟨hstrings, hbumps, heq⟩
    rw [hstrings] at hbumps heq
    exact ⟨_, _, hbumps, heq⟩
  · rintro ⟨zones, watch, hbumps, rfl⟩
    exact ⟨rfl, hbumps, rfl⟩

theorem restrung_raiseIf {u t : State} (h : Restrung u t) (c : Bool) (f : Flag) :
    Restrung (raiseIf c f u) (raiseIf c f t) := by
  obtain ⟨zones, watch, hbumps, rfl⟩ := restrung_iff.1 h
  cases c
  · exact h
  · exact restrung_iff.2 ⟨zones, watch, hbumps, rfl⟩

end Sys2Proof.Proofs
end

section
/-! PROOFS. ROTATION AMEND (R134, R136): the checks, the start of a pending list and its joins; and the gather timer's
end (R137, R139). -/

namespace Sys2Proof.Proofs

open Sys2Proof.Machine Sys2Proof.Safety

/-! ### The operand's checks -/

theorem sizeOk_iff (lo hi v : Nat) : sizeOk lo hi v = true ↔ lo ≤ v ∧ v ≤ hi ∧ v % 16 = 0 := by
  simp [sizeOk, and_assoc]

theorem recordsOk_iff (op : AmendOperand) :
    recordsOk op = true ↔ 1 ≤ op.count.toNat ∧ op.count.toNat ≤ 40 ∧ op.slots.toNat % 64 = 0
      ∧ op.slots.toNat + 16 * op.count.toNat ≤ 0x400000000 := by
  simp only [recordsOk, Bool.and_eq_true, decide_eq_true_eq, lineAligned_iff, fits_iff, and_assoc]
  rfl

theorem amendHeaderOk_iff (op : AmendOperand) :
    amendHeaderOk op = true ↔ op.ribbon.toNat ≤ 1 ∧ op.mode.toNat ≤ 1 ∧ op.commitPoint.toNat ≤ 1
      ∧ (1 ≤ op.count.toNat ∧ op.count.toNat ≤ 40 ∧ op.slots.toNat % 64 = 0
        ∧ op.slots.toNat + 16 * op.count.toNat ≤ 0x400000000)
      ∧ 16 ≤ op.width.toNat ∧ op.width.toNat ≤ 8192 ∧ op.width.toNat % 16 = 0
      ∧ 16 ≤ op.height.toNat ∧ op.height.toNat ≤ 4096 ∧ op.height.toNat % 16 = 0
      ∧ op.house.toNat % 64 = 0 ∧ op.house.toNat + op.width.toNat * op.height.toNat * 4 ≤ 0x400000000 := by
  simp only [amendHeaderOk, Bool.and_eq_true, decide_eq_true_eq, recordsOk_iff, sizeOk_iff, lineAligned_iff, fits_iff,
    rasterBytes, and_assoc]

theorem ribbonId_of_le_one {b : Byte} (h : b.toNat ≤ 1) : ribbonId b = some (if b = 0 then .a else .b) := by
  have hb : b = 0 ∨ b = 1 := by bv_omega
  rcases hb with rfl | rfl <;> rfl

theorem ribbonId_eq_some {b : Byte} {id : RibbonId} :
    ribbonId b = some id ↔ (b = 0 ∧ id = .a) ∨ (b = 1 ∧ id = .b) := by
  rw [ribbonId]
  cases id <;> split <;> simp_all

/-! ### On an idle lane -/

theorem addresses_below (op : AmendOperand) :
    [op.house, op.slots].all addressOk = true ↔ op.house.toNat < 0x400000000 ∧ op.slots.toNat < 0x400000000 := by
  simp only [List.all_cons, List.all_nil, Bool.and_true, Bool.and_eq_true, addressOk_iff]

/-- R138: the lane settled, the pending list gone and ROTATION_REFUSED raised. -/
theorem refuseAmend_open {s : State} {l : Lane} (hlane : s.decoder.lane = some l) (hopen : l.final = none) (r : Result)
    (d : Nat) : refuseAmend r d s = raise .rotationRefused
      { s with
        decoder := { s.decoder with lane := settled l r d }
        rotation := { s.rotation with gather := none } } :=
  congrArg (raise .rotationRefused) (settleLong_open (s := { s with rotation.gather := none }) hlane hopen r d)

/-- The gathering of an amend that was taken with these slots to start from. -/
def startedGather (op : AmendOperand) (id : RibbonId) (slots : List SlotRec) : Gather :=
  { ribbon := id
    list := { slots := slots, house := op.house.toNat, w := op.width.toNat, h := op.height.toNat }
    point := if op.commitPoint = 1 then .atCycle else .atSlot
    next := op.slots.toNat, left := op.count.toNat, timer := none }

section
variable {op : AmendOperand} {s : State}

theorem startAmend_badHeader (h : amendHeaderOk op = false) : startAmend op s = refuseAmend .range 0 s := by
  rw [startAmend, h]
  rfl

theorem startAmend_staged {id : RibbonId} (h : amendHeaderOk op = true) (hid : ribbonId op.ribbon = some id)
    (hstaged : (ribbonOf id s).staged ≠ none) : startAmend op s = refuseAmend .stagedPending 0 s := by
  rw [startAmend, h, hid]
  exact if_pos (Option.isSome_iff_ne_none.2 hstaged)

theorem startAmend_long {id : RibbonId} (h : amendHeaderOk op = true) (hid : ribbonId op.ribbon = some id)
    (hstaged : (ribbonOf id s).staged = none)
    (hlong : 40 < (pendingStart op (ribbonOf id s)).length + op.count.toNat) :
    startAmend op s = refuseAmend .range 0 s := by
  have hfree : ¬ (ribbonOf id s).staged.isSome = true := by simp [hstaged]
  rw [startAmend, h, hid]
  exact (if_neg hfree).trans (if_pos hlong)

theorem startAmend_taken {id : RibbonId} (h : amendHeaderOk op = true) (hid : ribbonId op.ribbon = some id)
    (hstaged : (ribbonOf id s).staged = none)
    (hroom : (pendingStart op (ribbonOf id s)).length + op.count.toNat ≤ 40) :
    startAmend op s = setRecords (pendingStart op (ribbonOf id s)).length { s with
      rotation.gather := some (startedGather op id (pendingStart op (ribbonOf id s))) } := by
  have hfree : ¬ (ribbonOf id s).staged.isSome = true := by simp [hstaged]
  rw [startAmend, h, hid]
  exact (if_neg hfree).trans (if_neg (Nat.not_lt.2 hroom))

end

/-! ### In a gathering -/

theorem gathering_same {s : State} {l : Lane} {g : Gather} (op : AmendOperand) (hlane : s.decoder.lane = some l)
    (hcue : l.cue = .rotationAmend) (hphase : l.phase = .gathering) (hgather : s.rotation.gather = some g) :
    gathering op s = if ribbonId op.ribbon = some g.ribbon then some g else none := by
  simp only [gathering, hlane, hgather, hcue, hphase, true_and]

section
variable {op : AmendOperand} {g : Gather} {s : State} {tag : Half}

theorem cueRotationAmend_join (h : gathering op s = some g) (haddr : addressOk op.slots = true) :
    cueRotationAmend tag op s = shortCue tag 0x04 (joinAmend op g) s := by
  have hchecked : withAddress true op.slots (joinAmend op g) s = joinAmend op g s := by
    rw [withAddress, haddr]
    rfl
  rw [cueRotationAmend, h]
  dsimp only
  rw [shortCue, shortCue, hchecked]
  rfl

/-- An amend whose records are not in place is refused, by the Cue Decoder or by the owner. -/
theorem cueRotationAmend_misplaced (h : gathering op s = some g) (hbad : recordsOk op = false) :
    cueRotationAmend tag op s = settleShort tag 0x04 .range 0 s := by
  cases haddr : addressOk op.slots
  · rw [cueRotationAmend, h]
    dsimp only
    rw [shortCue, withAddress, haddr]
    rfl
  · rw [cueRotationAmend_join h haddr, shortCue, joinAmend, hbad]
    rfl

theorem cueRotationAmend_alone (h : gathering op s = none) :
    cueRotationAmend tag op s = longCue .rotationAmend tag .fetching [op.house, op.slots] (startAmend op) s := by
  rw [cueRotationAmend, h]

theorem joinAmend_long (hok : recordsOk op = true) (hlong : 40 < g.list.slots.length + op.count.toNat) :
    joinAmend op g s = { state := refuseAmend .range 0 s, result := .range, detail := 0 } := by
  rw [joinAmend, hok]
  exact if_pos hlong

theorem joinAmend_taken (hok : recordsOk op = true) (hroom : g.list.slots.length + op.count.toNat ≤ 40) :
    joinAmend op g s =
      { state := setPhase .fetching { s with
          rotation.gather := some { g with next := op.slots.toNat, left := op.count.toNat, timer := none } }
        result := .done, detail := 0 } := by
  rw [joinAmend, hok]
  exact if_neg (Nat.not_lt.2 hroom)

end

/-- Settles O25, by the lane idle or gathering. -/
theorem amendsTakeTheLaneOrJoin : Obligations.AmendsTakeTheLaneOrJoin := by
  intro s tag op hbypass recordsFine fine below ribbon start lane ended
  rw [exec_rotationAmend hbypass]
  refine ⟨fun hidle => ?idle, fun l g hlane hcue hphase hopen hgather => ?gathering⟩
  case idle =>
    have halone : gathering op s = none := by simp only [gathering, hidle]
    let taken : State :=
      { s with decoder := { s.decoder with lane := some (takenLane .rotationAmend tag .fetching) } }
    have hribbon : ribbonOf (if op.ribbon = 0 then .a else .b) taken = ribbon := by
      by_cases h : op.ribbon = 0
      · simp only [ribbon, h, if_true, ribbonOf, taken]
      · simp only [ribbon, h, if_false, ribbonOf, taken]
    have hstart : pendingStart op ribbon = start := by
      simp only [start, pendingStart]
      cases ribbon.committed <;> rfl
    have hid (hfine : fine) := ribbonId_of_le_one hfine.1
    rw [cueRotationAmend_alone halone]
    refine ⟨fun h => ?_, fun h hfine => ?_, fun h hfine hstaged => ?_, fun h hfine hstaged hlong => ?_,
      fun h hfine hstaged hroom => ?_⟩
    · exact congrArg _ (longCue_outside hidle (Bool.eq_false_iff.2 fun hok => h ((addresses_below op).1 hok)))
    all_goals rw [longCue_idle hidle ((addresses_below op).2 h)]
    · rw [startAmend_badHeader (Bool.eq_false_iff.2 fun hok => hfine ((amendHeaderOk_iff op).1 hok)),
        refuseAmend_open rfl rfl]
      rfl
    all_goals have hheader := (amendHeaderOk_iff op).2 hfine
    · rw [startAmend_staged hheader (hid hfine) (hribbon.symm ▸ hstaged), refuseAmend_open rfl rfl]
      rfl
    all_goals have hfree : (ribbonOf (if op.ribbon = 0 then .a else .b) taken).staged = none := hribbon.symm ▸ hstaged
    · rw [startAmend_long hheader (hid hfine) hfree (by rw [hribbon, hstart]; exact hlong), refuseAmend_open rfl rfl]
      rfl
    · rw [startAmend_taken hheader (hid hfine) hfree (by rw [hribbon, hstart]; exact hroom), hribbon, hstart]
      rfl
  case gathering =>
    intro same
    have hsame : same ↔ ribbonId op.ribbon = some g.ribbon := ribbonId_eq_some.symm
    have hgathering := gathering_same op hlane hcue hphase hgather
    refine ⟨fun h => ?_, fun h hbad => ?_, fun h hrecords hlong => ?_, fun h hrecords hroom => ?_⟩
    · rw [if_neg fun hid => h (hsame.2 hid)] at hgathering
      rw [cueRotationAmend_alone hgathering, longCue_busy hlane]
      rfl
    all_goals rw [if_pos (hsame.1 h)] at hgathering
    · rw [cueRotationAmend_misplaced hgathering (Bool.eq_false_iff.2 fun hok => hbad ((recordsOk_iff op).1 hok))]
    all_goals
      have hslots : addressOk op.slots = true := (addressOk_iff _).2 (by
        obtain ⟨hone, _, _, hfits⟩ := hrecords
        omega)
      rw [cueRotationAmend_join hgathering hslots, shortCue]
    · rw [joinAmend_long ((recordsOk_iff op).2 hrecords) hlong]
      dsimp only
      rw [refuseAmend_open hlane hopen]
    · rw [joinAmend_taken ((recordsOk_iff op).2 hrecords) hroom]
      simp only [setPhase, hlane, Option.map_some]

/-! ### The gather timer's end -/

theorem sizeMismatch_iff (id : RibbonId) (l : SlotList) (z : ZoneRec) :
    sizeMismatch id l z = true ↔ z.role = .sponsor id ∧ (z.w ≠ l.w ∨ z.h ≠ l.h) := by
  simp [sizeMismatch, showsRibbon_iff]

/-- R137: zone `i` names a SPONSOR zone that the list does not fit. -/
def Mismatched (id : RibbonId) (l : SlotList) (s : State) (i : Nat) : Prop :=
  ∃ z ∈ s.sweep.zones, z.cfg.id = i ∧ z.cfg.role = .sponsor id ∧ (z.cfg.w ≠ l.w ∨ z.cfg.h ≠ l.h)

theorem mismatched_iff (id : RibbonId) (l : SlotList) (s : State) (i : Nat) :
    s.sweep.zones.any (fun z => z.cfg.id == i && sizeMismatch id l z.cfg) = true ↔ Mismatched id l s i := by
  simp only [List.any_eq_true, Bool.and_eq_true, beq_iff_eq, sizeMismatch_iff, Mismatched]

theorem mismatchedZone_lowest {id : RibbonId} {l : SlotList} {s : State} {i : Nat} (hi : i < 24)
    (h : Mismatched id l s i) (hlowest : ∀ j, Mismatched id l s j → i ≤ j) : mismatchedZone id l s = some i := by
  refine List.find?_range_eq_some.2 ⟨(mismatched_iff id l s i).2 h, List.mem_range.2 hi, fun j hj => ?_⟩
  rw [Bool.not_eq_true', Bool.eq_false_iff]
  exact fun hbad => (hlowest j ((mismatched_iff id l s j).1 hbad)).not_gt hj

theorem mismatchedZone_none {id : RibbonId} {l : SlotList} {s : State} (h : ∀ i, ¬ Mismatched id l s i) :
    mismatchedZone id l s = none :=
  List.find?_eq_none.2 fun i _ hbad => h i ((mismatched_iff id l s i).1 hbad)

theorem exec_gatherTimerExpiry {s : State} {g : Gather} (hbypass : s.bypass = false)
    (hgather : s.rotation.gather = some g) (htimer : g.timer = some 1) :
    exec .gatherTimerExpiry s = .next (judgeGather g s) := by
  refine congrArg _ ((outOfBypass_out hbypass).trans ?_)
  obtain ⟨ribbon, list, point, next, left, timer⟩ := g
  cases htimer
  simp only [expireGather, stepGather, hgather, Nat.le_refl, if_true]

theorem setRibbon_ribbonOf (id : RibbonId) (r : Ribbon) (s : State) :
    ribbonOf id (setRibbon id r s) = r := by
  cases id <;> rfl

/-- R139: with the ribbon OFF the staged list is committed as it is staged. -/
theorem stage_off {g : Gather} {s : State} (h : (ribbonOf g.ribbon s).state = .off) :
    stage g s = settleLong .done g.list.slots.length (rebuildWatch (bumpZones (showsRibbon g.ribbon)
      (raise .rotationCommitted (setRibbon g.ribbon
        { ribbonOf g.ribbon s with
          committed := some g.list, staged := none, search := g.list.slots.length - 1 }
        { s with rotation.gather := none })))) := by
  rw [stage]
  dsimp only
  rw [if_pos h]
  rfl

theorem stage_live {g : Gather} {s : State} (h : (ribbonOf g.ribbon s).state ≠ .off) :
    stage g s = settleLong .done g.list.slots.length (setRibbon g.ribbon
      { ribbonOf g.ribbon s with staged := some { list := g.list, point := g.point } }
      { s with rotation.gather := none }) := by
  rw [stage]
  dsimp only
  rw [if_neg h]

/-- A ribbon's replacement goes by before a settlement as after it. -/
theorem settleLong_setRibbon (id : RibbonId) (r : Ribbon) (x : Result) (d : Nat) (s : State) :
    settleLong x d (setRibbon id r s) = setRibbon id r (settleLong x d s) := by
  cases id <;> rfl

/-- Settles O27, by the lowest zone that the list does not fit, if any. -/
theorem gatherExpiryStagesOrCommits : Obligations.GatherExpiryStagesOrCommits := by
  intro s l g hbypass hlane hopen hgather htimer misfit ended ribbon n
  have hended (r : Result) (d : Nat) : settleLong r d { s with rotation.gather := none } = ended r d :=
    settleLong_open (s := { s with rotation.gather := none }) hlane hopen r d
  rw [exec_gatherTimerExpiry hbypass hgather htimer, judgeGather]
  refine ⟨fun z hz hid hmisfit hlowest => ?misfits, fun hfits => ?fits⟩
  case misfits =>
    have hzone : mismatchedZone g.ribbon g.list s = some z.cfg.id :=
      mismatchedZone_lowest hid ⟨z, hz, rfl, hmisfit⟩ fun j ⟨y, hy, hj, hbad⟩ => hj ▸ hlowest y hy hbad
    rw [hzone]
    dsimp only
    rw [refuseAmend_open hlane hopen]
  case fits =>
    have hzone : mismatchedZone g.ribbon g.list s = none :=
      mismatchedZone_none fun i ⟨z, hz, _, hbad⟩ => hfits z hz hbad
    rw [hzone]
    dsimp only
    refine ⟨fun hstate => ?_, fun hstate => ⟨_, rfl, ?_⟩⟩
    · rw [stage_live hstate, settleLong_setRibbon, hended]
    · rw [stage_off hstate, ← hended, ← settleLong_setRibbon]
      show Reported _ (settleLong .done n (raise .rotationCommitted _)) _
      exact reported_settleLong (reported_bump (showsRibbon_iff g.ribbon) _) .done n

end Sys2Proof.Proofs
end

section
/-! PROOFS. The slot records of an amend (R135, R144): what a record reads as, the entry it requests, and the records of
a line one after another. -/

namespace Sys2Proof.Proofs

open Sys2Proof.Machine Sys2Proof.Safety

/-! ### Entry requests -/

theorem insertEntry_between {e : ExposureEntry} {x y : List ExposureEntry} (hx : ∀ a ∈ x, a.sponsor < e.sponsor)
    (hy : ∀ a ∈ y, e.sponsor < a.sponsor) : insertEntry e (x ++ y) = x ++ e :: y := by
  induction x with
  | nil =>
    cases y with
    | nil => rfl
    | cons b y => exact if_pos (hy b List.mem_cons_self)
  | cons a x ih =>
    have hlt := hx a List.mem_cons_self
    rw [List.cons_append, insertEntry, if_neg (Nat.not_lt.2 hlt.le), ih fun b hb => hx b (List.mem_cons_of_mem a hb)]
    rfl

/-- An ordered table without the sponsor splits where its entry goes. -/
theorem exists_split_at {t : List ExposureEntry} (id : Nat) (ht : t.Pairwise (fun a b => a.sponsor < b.sponsor))
    (hnew : ∀ e ∈ t, e.sponsor ≠ id) :
    ∃ x y, t = x ++ y ∧ (∀ e ∈ x, e.sponsor < id) ∧ ∀ e ∈ y, id < e.sponsor := by
  induction t with
  | nil => exact ⟨[], [], rfl, List.forall_mem_nil _, List.forall_mem_nil _⟩
  | cons a t ih =>
    obtain ⟨ha, hrest⟩ := List.pairwise_cons.1 ht
    rcases Nat.lt_or_gt_of_ne (hnew a List.mem_cons_self) with hlt | hgt
    · obtain ⟨x, y, rfl, hx, hy⟩ := ih hrest fun e he => hnew e (List.mem_cons_of_mem a he)
      exact ⟨a :: x, y, rfl, List.forall_mem_cons.2 ⟨hlt, hx⟩, hy⟩
    · exact ⟨[], a :: t, rfl, List.forall_mem_nil _,
        List.forall_mem_cons.2 ⟨hgt, fun e he => Nat.lt_trans hgt (ha e he)⟩⟩

theorem hasEntry_eq_false {id : Nat} {t : List ExposureEntry} (h : ∀ e ∈ t, e.sponsor ≠ id) : hasEntry id t = false := by
  rw [hasEntry, List.any_eq_false]
  exact fun e he => by simpa using h e he

theorem requestEntry_of_requested {id : Nat} {t u : List ExposureEntry} (h : EntryRequested id t u) :
    requestEntry id t = some u := by
  obtain ⟨hknown, hnew⟩ := h
  by_cases hentry : ∃ e ∈ t, e.sponsor = id
  · rw [requestEntry, (hasEntry_iff id t).2 hentry, hknown hentry]
    rfl
  · have hnone : ∀ e ∈ t, e.sponsor ≠ id := fun e he hid => hentry ⟨e, he, hid⟩
    obtain ⟨hroom, x, y, rfl, hx, hy, rfl⟩ := hnew hnone
    rw [requestEntry, hasEntry_eq_false hnone, if_neg Bool.false_ne_true]
    exact (if_pos hroom).trans (congrArg some (insertEntry_between (e := newEntry id) hx hy))

theorem requestEntry_full {id : Nat} {t : List ExposureEntry} (hnew : ∀ e ∈ t, e.sponsor ≠ id) (hfull : 64 ≤ t.length) :
    requestEntry id t = none := by
  rw [requestEntry, hasEntry_eq_false hnew, if_neg Bool.false_ne_true]
  exact if_neg (Nat.not_lt.2 hfull)

/-! ### A record -/

/-- The fields that every record is judged by. -/
def RecordCommon (line : Line) (k : Nat) : Prop :=
  byteNat line (16 * k + 2) ≤ 2 ∧ 25 ≤ halfNat line (16 * k + 4) ∧ halfNat line (16 * k + 4) ≤ 6000

/-- The fields of a sponsor's record, for a creative of `w` by `h`. -/
def RecordCreative (line : Line) (w h k : Nat) : Prop :=
  1 ≤ byteNat line (16 * k) ∧ byteNat line (16 * k) ≤ 250
    ∧ 1 ≤ byteNat line (16 * k + 1) ∧ byteNat line (16 * k + 1) ≤ 8
    ∧ quadNat line (16 * k + 8) % 64 = 0 ∧ quadNat line (16 * k + 8) + w * h * 4 ≤ 0x400000000

def phaseSetOf (n : Nat) : PhaseSet := if n = 0 then .running else if n = 1 then .stopped else .any

/-- The slot that a record of this content describes. -/
def recordAt (line : Line) (k : Nat) (c : SlotContent) : SlotRec :=
  { content := c, phases := phaseSetOf (byteNat line (16 * k + 2)), dwell := halfNat line (16 * k + 4) }

/-- Record `k` of a line passes its checks and is slot `x`. -/
def ReadsAs (line : Line) (w h k : Nat) (x : SlotRec) : Prop :=
  RecordCommon line k
    ∧ ((byteNat line (16 * k + 3) = 0 ∧ RecordCreative line w h k
        ∧ x = recordAt line k
          (.sponsor (byteNat line (16 * k)) (byteNat line (16 * k + 1)) (quadNat line (16 * k + 8))))
      ∨ (byteNat line (16 * k + 3) = 1 ∧ x = recordAt line k .skip))

theorem slotRecOf_iff (line : Line) (w h k : Nat) (x : SlotRec) :
    slotRecOf line k w h = some x ↔ ReadsAs line w h k x := by
  rw [slotRecOf, ReadsAs, RecordCommon, RecordCreative, recordAt, recordAt]
  simp only [lineAligned_iff, fits_iff, rasterBytes]
  generalize byteNat line (16 * k + 2) = phases
  generalize byteNat line (16 * k + 3) = content
  match phases, content with
  | 0, 0 | 1, 0 | 2, 0 => grind [phaseSetOf]
  | 0, 1 | 1, 1 | 2, 1 => grind [phaseSetOf]
  | 0, c + 2 | 1, c + 2 | 2, c + 2 => simp
  | p + 3, c => simp

theorem slotRecOf_eq_none {line : Line} {w h k : Nat} (hbad : ∀ x, ¬ ReadsAs line w h k x) :
    slotRecOf line k w h = none :=
  Option.eq_none_iff_forall_ne_some.2 fun x hx => hbad x ((slotRecOf_iff line w h k x).1 hx)

/-- The table after the request that a joining record makes. -/
theorem requestFor_of_requested {x : SlotRec} {t u : List ExposureEntry}
    (h : match x.content with | .sponsor id _ _ => EntryRequested id t u | .skip => u = t) :
    requestFor x t = some u := by
  rw [requestFor]
  cases hx : x.content with
  | sponsor id duty raster =>
    rw [hx] at h
    exact requestEntry_of_requested h
  | skip =>
    rw [hx] at h
    exact congrArg some h.symm

/-! ### The records of a line -/

/-- The state after the records `xs` joined, the table standing at `t`. -/
def joinedRecords (l : Lane) (g : Gather) (xs : List SlotRec) (t : List ExposureEntry) (s : State) : State :=
  { s with
    decoder := { s.decoder with lane := some { l with
      records := if xs.length = 0 then l.records else g.list.slots.length + xs.length } }
    rotation := { s.rotation with gather := some { g with
      list := { g.list with slots := g.list.slots ++ xs }, left := g.left - xs.length } }
    exposure := { s.exposure with entries := t } }

theorem joinedRecords_nil {l : Lane} {g : Gather} {s : State} (hlane : s.decoder.lane = some l)
    (hgather : s.rotation.gather = some g) : joinedRecords l g [] s.exposure.entries s = s := by
  have hslots : g.list.slots ++ [] = g.list.slots := List.append_nil _
  rw [joinedRecords, hslots]
  show ({ s with
    decoder := { s.decoder with lane := some l }, rotation := { s.rotation with gather := some g } } : State) = s
  rw [← hlane, ← hgather]

theorem joinedRecords_cons (l : Lane) (g : Gather) (x : SlotRec) (xs : List SlotRec) (t u : List ExposureEntry)
    (s : State) :
    joinedRecords { l with records := g.list.slots.length + 1 }
        { g with list := { g.list with slots := g.list.slots ++ [x] }, left := g.left - 1 } xs u
        (joinedRecords l g [x] t s) = joinedRecords l g (x :: xs) u s := by
  have hrecords : (if xs.length = 0 then g.list.slots.length + 1 else (g.list.slots ++ [x]).length + xs.length)
      = g.list.slots.length + (xs.length + 1) := by
    rw [List.length_append, List.length_singleton]
    split <;> omega
  have hslots : g.list.slots ++ [x] ++ xs = g.list.slots ++ x :: xs := List.append_cons _ x xs |>.symm
  have hleft : g.left - 1 - xs.length = g.left - (xs.length + 1) := by omega
  simp only [joinedRecords, hslots, hleft, List.length_cons, Nat.add_one_ne_zero, if_false]
  rw [hrecords]

theorem joinRecord_eq {l : Lane} {g : Gather} {s : State} (x : SlotRec) (t : List ExposureEntry)
    (hlane : s.decoder.lane = some l) :
    joinRecord x g { s with exposure.entries := t } = joinedRecords l g [x] t s := by
  simp only [joinRecord, setRecords, hlane, Option.map_some, List.length_append, List.length_singleton]
  rfl

/-- Records that pass, each with an entry that the table has room for, join one after another. -/
theorem takeRecords_joins (line : Line) (m : Nat) (xs : List SlotRec) :
    ∀ (table : Nat → List ExposureEntry) (k : Nat) (l : Lane) (g : Gather) (s : State), s.decoder.lane = some l →
      s.rotation.gather = some g → table 0 = s.exposure.entries →
      (∀ i x, xs[i]? = some x → ReadsAs line g.list.w g.list.h (k + i) x
        ∧ requestFor x (table i) = some (table (i + 1))) →
      takeRecords line (xs.length + m) k s
        = takeRecords line m (k + xs.length) (joinedRecords l g xs (table xs.length) s) := by
  induction xs with
  | nil =>
    intro table k l g s hlane hgather htable _
    rw [List.length_nil, htable, joinedRecords_nil hlane hgather, Nat.zero_add]
    rfl
  | cons x xs ih =>
    intro table k l g s hlane hgather htable hjoins
    obtain ⟨hreads, hrequest⟩ := hjoins 0 x rfl
    have hrecord := (slotRecOf_iff line g.list.w g.list.h k x).2 hreads
    have hfirst : takeRecords line (xs.length + m + 1) k s
        = takeRecords line (xs.length + m) (k + 1) (joinedRecords l g [x] (table 1) s) := by
      rw [takeRecords, hgather]
      dsimp only
      rw [hrecord]
      dsimp only
      rw [← htable, hrequest]
      dsimp only
      rw [joinRecord_eq x (table 1) hlane]
    have hrest := ih (fun i => table (i + 1)) (k + 1) { l with records := g.list.slots.length + 1 }
      { g with list := { g.list with slots := g.list.slots ++ [x] }, left := g.left - 1 }
      (joinedRecords l g [x] (table 1) s) rfl rfl rfl fun i y hy => by
        obtain ⟨hy, hrequest⟩ := hjoins (i + 1) y hy
        exact ⟨by rwa [Nat.add_assoc, Nat.add_comm 1 i], hrequest⟩
    rw [List.length_cons, Nat.add_right_comm, hfirst, hrest, joinedRecords_cons, Nat.add_assoc, Nat.add_comm 1]

/-- A record that fails ends the amend RANGE. -/
theorem takeRecords_bad {line : Line} {m k : Nat} {g : Gather} {s : State} (hgather : s.rotation.gather = some g)
    (hbad : ∀ x, ¬ ReadsAs line g.list.w g.list.h k x) :
    takeRecords line (m + 1) k s = refuseAmend .range (1 + g.list.slots.length) s := by
  rw [takeRecords, hgather]
  dsimp only
  rw [slotRecOf_eq_none hbad]

/-- A record whose entry finds no room ends the amend TABLE_FULL. -/
theorem takeRecords_full {line : Line} {m k : Nat} {g : Gather} {s : State} {x : SlotRec}
    (hgather : s.rotation.gather = some g) (hreads : ReadsAs line g.list.w g.list.h k x)
    (hfull : requestFor x s.exposure.entries = none) :
    takeRecords line (m + 1) k s = refuseAmend .tableFull (1 + g.list.slots.length) s := by
  rw [takeRecords, hgather]
  dsimp only
  rw [(slotRecOf_iff line g.list.w g.list.h k x).2 hreads]
  dsimp only
  rw [hfull]

/-- After a line the gather timer runs if the amend is complete, else the next line follows. -/
theorem afterRecords_joined (l : Lane) (g : Gather) (xs : List SlotRec) (t : List ExposureEntry) (s : State)
    (hxs : xs.length = min 4 g.left) (hleft : 0 < g.left) :
    afterRecords (joinedRecords l g xs t s) =
      { s with
        decoder := { s.decoder with lane := some { l with
          records := g.list.slots.length + min 4 g.left, phase := if g.left ≤ 4 then .gathering else l.phase } }
        rotation := { s.rotation with gather := some { g with
          list := { g.list with slots := g.list.slots ++ xs }
          left := g.left - min 4 g.left
          next := if g.left ≤ 4 then g.next else g.next + 64
          timer := if g.left ≤ 4 then some 400 else g.timer } }
        exposure := { s.exposure with entries := t } } := by
  have hsome : ¬ min 4 g.left = 0 := by omega
  have hcomplete : g.left - min 4 g.left = 0 ↔ g.left ≤ 4 := by omega
  simp only [afterRecords, joinedRecords, hsome, if_false, hxs, hcomplete]
  split
  · rfl
  · rfl

theorem slotRecordArrival_open {s : State} {line : Line} {g : Gather}
    (hport : s.port = some { origin := .slotRecords, data := line, dropped := false })
    (hgather : s.rotation.gather = some g) :
    slotRecordArrival s = afterRecords (takeRecords line (min 4 g.left) 0 { s with port := none }) := by
  rw [slotRecordArrival, arrival, hport]
  show slotRecordLine line { s with port := none } = _
  rw [slotRecordLine, show ({ s with port := none } : State).rotation.gather = some g from hgather]

theorem afterRecords_refused (r : Result) (d : Nat) (s : State) : afterRecords (refuseAmend r d s) = refuseAmend r d s :=
  rfl

/-- The records of a line that follow one another to its end, or to the first that fails or finds the table full. -/
theorem slotRecordLine_takes {s : State} {l : Lane} {line : Line} {g : Gather} (hlane : s.decoder.lane = some l)
    (hopen : l.final = none) (hgather : s.rotation.gather = some g)
    (hport : s.port = some { origin := .slotRecords, data := line, dropped := false }) (xs : List SlotRec)
    (table : Nat → List ExposureEntry) (htable : table 0 = s.exposure.entries)
    (hjoins : ∀ i x, xs[i]? = some x → ReadsAs line g.list.w g.list.h i x
      ∧ requestFor x (table i) = some (table (i + 1))) :
    let stopped (r : Result) : State := raise .rotationRefused
      { s with
        port := none
        decoder := { s.decoder with
          lane := settled { l with records := if xs.length = 0 then l.records else g.list.slots.length + xs.length } r
            (1 + g.list.slots.length + xs.length) }
        rotation := { s.rotation with gather := none }
        exposure := { s.exposure with entries := table xs.length } }
    (xs.length = min 4 g.left → slotRecordArrival s = afterRecords
      (joinedRecords l g xs (table xs.length) { s with port := none }))
    ∧ (xs.length < min 4 g.left → (∀ x, ¬ ReadsAs line g.list.w g.list.h xs.length x) →
        slotRecordArrival s = stopped .range)
    ∧ ∀ x, xs.length < min 4 g.left → ReadsAs line g.list.w g.list.h xs.length x →
        requestFor x (table xs.length) = none → slotRecordArrival s = stopped .tableFull := by
  intro stopped
  have htaken (m : Nat) := takeRecords_joins line m xs table 0 l g { s with port := none } hlane hgather htable
    fun i x hx => by simpa only [Nat.zero_add] using hjoins i x hx
  have hmore (h : xs.length < min 4 g.left) : xs.length + (min 4 g.left - xs.length - 1 + 1) = min 4 g.left := by omega
  have hrefused (r : Result) : refuseAmend r (1 + (g.list.slots ++ xs).length)
      (joinedRecords l g xs (table xs.length) { s with port := none }) = stopped r := by
    have hposition : 1 + (g.list.slots ++ xs).length = 1 + g.list.slots.length + xs.length := by
      rw [List.length_append, Nat.add_assoc]
    rw [hposition]
    exact refuseAmend_open (s := joinedRecords l g xs (table xs.length) { s with port := none }) rfl hopen r _
  have hjoined : (joinedRecords l g xs (table xs.length) { s with port := none }).rotation.gather = some
      { g with list := { g.list with slots := g.list.slots ++ xs }, left := g.left - xs.length } := rfl
  rw [slotRecordArrival_open hport hgather]
  refine ⟨fun h => ?_, fun h hbad => ?_, fun x h hreads hfull => ?_⟩
  · rw [← h]
    exact congrArg afterRecords (htaken 0)
  all_goals rw [← hmore h, htaken, Nat.zero_add]
  · rw [takeRecords_bad hjoined hbad, afterRecords_refused]
    exact hrefused .range
  · rw [takeRecords_full hjoined hreads hfull, afterRecords_refused]
    exact hrefused .tableFull

/-- Settles O26: the line's records up to its end or to the first that is refused; an amend's last record is a line of
one. -/
theorem slotRecordsJoin : Obligations.SlotRecordsJoin := by
  intro s l line g hlane hopen hgather hport phaseOf common creativeAt creative record known position ended joined
  have htakes := slotRecordLine_takes hlane hopen hgather hport
  have hlines (xs : List SlotRec) (t : List ExposureEntry) (hleft : 0 < g.left) (hxs : xs.length = min 4 g.left) :=
    afterRecords_joined l g xs t { s with port := none } hxs hleft
  refine ⟨fun hleft => ⟨fun hbad => ?bad, fun hcommon hskip => ?skip, fun hcommon hsponsor hcreative => ?sponsor⟩, ?line⟩
  case line =>
    intro reads n stopped xs table hleft htable hjoins
    obtain ⟨hall, hbad, hfull⟩ := htakes xs table htable fun i x hx =>
      ⟨(hjoins i x hx).1, requestFor_of_requested (hjoins i x hx).2⟩
    refine ⟨fun hxs => ?_, fun hxs hnone => congrArg _ (hbad hxs hnone), fun x id duty raster hxs hreads hx hnew hroom =>
      congrArg _ (hfull x hxs hreads ?_)⟩
    · have hrun := (hall hxs).trans (hlines xs _ hleft hxs)
      rw [hxs] at hrun
      exact congrArg Host.Outcome.next hrun
    · rw [requestFor, hx]
      exact requestEntry_full hnew hroom
  all_goals have hone : min 4 g.left = 1 := by omega
  case bad =>
    obtain ⟨_, hrefused, _⟩ := htakes [] (fun _ => s.exposure.entries) rfl nofun
    refine congrArg _ (hrefused (by rw [hone]; decide) fun x hreads => hbad ?_)
    obtain ⟨hcommon, ⟨hkind, hcreative, _⟩ | ⟨hkind, _⟩⟩ := hreads
    · exact ⟨hcommon, .inl ⟨hkind, hcreative⟩⟩
    · exact ⟨hcommon, .inr hkind⟩
  all_goals
    have hjoined {x : SlotRec} {t : List ExposureEntry} (hreads : ReadsAs line g.list.w g.list.h 0 x)
        (hrequest : requestFor x s.exposure.entries = some t) : exec .slotRecordLineArrival s = .next (joined x t) := by
      obtain ⟨hall, _⟩ := htakes [x] (fun i => if i = 0 then s.exposure.entries else t) rfl fun i y hy => by
        obtain ⟨rfl, rfl⟩ : i = 0 ∧ x = y := by simpa [List.getElem?_cons] using hy
        exact ⟨hreads, hrequest⟩
      have hjoin := (hall hone.symm).trans (hlines [x] _ (by omega) hone.symm)
      rw [hone, hleft] at hjoin
      exact congrArg Host.Outcome.next hjoin
  case skip => exact hjoined ⟨hcommon, .inr ⟨hskip, rfl⟩⟩ rfl
  case sponsor =>
    intro x
    have hreads : ReadsAs line g.list.w g.list.h 0 x := ⟨hcommon, .inl ⟨hsponsor, hcreative, rfl⟩⟩
    have hnew (hunknown : ¬ known) : ∀ e ∈ s.exposure.entries, e.sponsor ≠ byteNat line 0 :=
      fun e he hid => hunknown ⟨e, he, hid⟩
    refine ⟨fun hknown => ?_, fun hunknown hfull => ?_, fun hunknown hroom hordered => ?_⟩
    · exact hjoined hreads (requestEntry_of_requested ⟨fun _ => rfl, fun hnone => (hknown.elim fun e he =>
        hnone e he.1 he.2).elim⟩)
    · obtain ⟨_, _, hrefused⟩ := htakes [] (fun _ => s.exposure.entries) rfl nofun
      exact congrArg _ (hrefused x (by rw [hone]; decide) hreads (requestEntry_full (hnew hunknown) hfull))
    · obtain ⟨before, after, hsplit, hbefore, hafter⟩ := exists_split_at (byteNat line 0) hordered.2 (hnew hunknown)
      refine ⟨before, after, hsplit, hbefore, hafter, hjoined hreads (requestEntry_of_requested ⟨fun hknown =>
        (hunknown hknown).elim, fun _ => ⟨hroom, before, after, hsplit, hbefore, hafter, rfl⟩⟩)⟩

end Sys2Proof.Proofs
end

section
/-! PROOFS. EXPOSURE SNAPSHOT (R150, R151): its checks, and the table that zeroing and purging leave. -/

namespace Sys2Proof.Proofs

open Sys2Proof.Machine Sys2Proof.Safety

/-- R144: the sponsor IDs named, list by list. -/
theorem namesSponsor_iff (s : State) (id : Nat) :
    let names (x : Option SlotList) : Prop :=
      ∃ c, x = some c ∧ ∃ r ∈ c.slots, ∃ duty raster, r.content = .sponsor id duty raster
    NamesSponsor s id ↔ names s.rotation.a.committed ∨ names (s.rotation.a.staged.map (·.list))
      ∨ names s.rotation.b.committed ∨ names (s.rotation.b.staged.map (·.list))
      ∨ names (s.rotation.gather.map (·.list))
      ∨ (∃ m ∈ s.messages.queue, m.sponsor = id) ∨ ∃ o, s.messages.onAir = some o ∧ o.msg.sponsor = id := by
  intro names
  simp only [NamesSponsor, or_and_right, exists_or, or_assoc]
  rfl

/-- R151: purging keeps whole entries, by their sponsor IDs, which zeroing leaves. -/
theorem zeroAndPurge_eq (zero purge : Bool) (keep : List Nat) (t : List ExposureEntry) :
    zeroAndPurge zero purge keep t
      = (if purge then t.filter (fun e => keep.contains e.sponsor) else t).map
          (fun e => if zero then zeroEntry e else e) := by
  cases zero <;> cases purge
  · exact (List.map_id' t).symm
  · exact (List.map_id' _).symm
  · rfl
  · show (t.map zeroEntry).filter _ = _
    rw [List.filter_map]
    rfl

/-- R150: the image's place. -/
theorem snapshotPlaceOk_iff (dest n : Nat) (s : State) :
    snapshotPlaceOk dest n s = true ↔ dest % 64 = 0 ∧ dest + 64 * ((n + 1) / 2) < 0x400000000
      ∧ (dest + 64 * (1 + (n + 1) / 2) ≤ apertureBase s ∨ apertureBase s + 512 ≤ dest) := by
  have hapart (base lines : Nat) : rangesOverlap dest (64 * (1 + lines)) base 512 = false
      ↔ dest + 64 * (1 + lines) ≤ base ∨ base + 512 ≤ dest := by
    rw [rangesOverlap, ← Bool.not_eq_true]
    simp only [Bool.and_eq_true, decide_eq_true_eq]
    omega
  simp only [snapshotPlaceOk, Bool.and_eq_true, lineAligned_iff, decide_eq_true_eq, Bool.not_eq_true', hapart, and_assoc]
  rfl

/-- Settles O28: the Cue Decoder's and the unit's own checks give one RANGE. -/
theorem snapshotTakesItsImage : Obligations.SnapshotTakesItsImage := by
  intro s tag zero purge dest hbypass hidle n lineCount fine lane names named zeroed
  let taken : State := { s with decoder := { s.decoder with lane := some lane } }
  have hok : (decide (zero.toNat ≤ 1) && decide (purge.toNat ≤ 1) && snapshotPlaceOk dest.toNat n taken) = true
      ↔ fine := by
    simp only [Bool.and_eq_true, decide_eq_true_eq, snapshotPlaceOk_iff, and_assoc]
    rfl
  have haddr (h : fine) : [dest].all addressOk = true := by
    obtain ⟨_, _, _, hbelow, _⟩ := h
    rw [List.all_cons, (addressOk_iff dest).2 (by omega)]
    rfl
  rw [exec_exposureSnapshot hbypass]
  refine ⟨fun hbad => ?refused, fun h hzero hair => ?onAir, fun h hclear => ?taken⟩
  case refused =>
    refine congrArg _ ?_
    cases hinside : [dest].all addressOk
    · exact longCue_outside hidle hinside
    · rw [longCue_idle hidle hinside, startSnapshot]
      have hfails := Bool.eq_false_iff.2 fun hgood => hbad (hok.1 hgood)
      exact if_pos (by rw [Bool.not_eq_true']; exact hfails)
  all_goals
    rw [longCue_idle hidle (haddr h), startSnapshot]
    have hpasses : ¬ (!(decide (zero.toNat ≤ 1) && decide (purge.toNat ≤ 1)
        && snapshotPlaceOk dest.toNat n taken)) = true := by
      rw [hok.2 h]
      decide
  case onAir =>
    have hrefused : zero = 1 ∧ alertOnAir taken = true := ⟨hzero, by simpa [alertOnAir] using hair⟩
    exact congrArg _ ((if_neg hpasses).trans (if_pos hrefused))
  case taken =>
    have haccepted : ¬ (zero = 1 ∧ alertOnAir taken = true) :=
      fun hrefused => hclear ⟨hrefused.1, by simpa [alertOnAir] using hrefused.2⟩
    have hnamed (id : Nat) : (referenced taken).contains id = true ↔ named id := by
      rw [List.contains_iff_mem, mem_referenced]
      exact namesSponsor_iff taken id
    refine ⟨if purge == 1 then s.exposure.entries.filter (fun e => (referenced taken).contains e.sponsor)
      else s.exposure.entries, ?_, fun e he => ?_, congrArg _ ((if_neg hpasses).trans ((if_neg haccepted).trans ?_))⟩
    · split
      · exact List.filter_sublist
      · exact List.Sublist.refl _
    · split
      case isTrue hpurge => rw [List.mem_filter, hnamed]; simp [he, beq_iff_eq.1 hpurge]
      case isFalse hpurge => exact ⟨fun _ => he, fun _ hpurged => (hpurge (beq_iff_eq.2 hpurged)).elim⟩
    · have hzeroed : (fun e => if (zero == 1) = true then zeroEntry e else e) = zeroed := by
        funext e
        simp only [beq_iff_eq, zeroed]
        rfl
      rw [takeSnapshot, zeroAndPurge_eq, hzeroed]
      rfl

end Sys2Proof.Proofs
end

section
/-! PROOFS. The two clocks (R69, R74, R75): one timebase event, the slew worked off, the beacon and house control. -/

namespace Sys2Proof.Proofs

open Sys2Proof.Machine Sys2Proof.Safety

/-! ### One event of a clock -/

/-- The slew phase after an event. -/
def tickPhase (c : Clock) : Nat := (c.slewPhase + 1) % 10

/-- R74: the milliseconds of an event: 1, or 0 or 2 where the phase works off a millisecond of the remainder. -/
def tickSize (c : Clock) : Nat :=
  if (tickPhase c == 0 && (match c.direction with | .down => 0 < c.slew | .up => c.slew < 0 : Bool)) then 0
  else if (tickPhase c == 0 && (match c.direction with | .down => c.slew < 0 | .up => 0 < c.slew : Bool)) then 2
  else 1

/-- The remainder after an event. -/
def tickLeft (c : Clock) : Int := if tickPhase c = 0 then c.slew - c.slew.sign else c.slew

/-- R75: the event brings the clock to its limit. -/
def tickExpires (top : Nat) (c : Clock) : Bool :=
  c.running && (match c.direction with | .down => c.value ≤ tickSize c | .up => top ≤ c.value + tickSize c)

/-- The clock after an event. -/
def tickNext (top : Nat) (c : Clock) : Clock :=
  if c.running = false then c
  else if tickExpires top c then
    { c with
      value := match c.direction with | .down => 0 | .up => top
      running := false, slew := 0, slewPhase := 0 }
  else
    { c with
      value := match c.direction with | .down => c.value - tickSize c | .up => c.value + tickSize c
      slew := tickLeft c, slewPhase := tickPhase c }

theorem tickSize_le_two (c : Clock) : tickSize c ≤ 2 := by
  rw [tickSize]
  split_ifs <;> decide

theorem slewStep_down {c : Clock} (hdir : c.direction = .down) :
    slewStep c (tickPhase c) 0 2 = (tickSize c, tickLeft c) := by
  unfold slewStep tickSize tickLeft
  rw [hdir]
  by_cases hp : tickPhase c = 0
  · rcases lt_trichotomy c.slew 0 with h | h | h
    · simp [hp, h, h.not_gt, Int.sign_eq_neg_one_of_neg h]
    · simp [hp, h]
    · simp [hp, h, Int.sign_eq_one_of_pos h]
  · simp [hp]

theorem slewStep_up {c : Clock} (hdir : c.direction = .up) :
    slewStep c (tickPhase c) 2 0 = (tickSize c, tickLeft c) := by
  unfold slewStep tickSize tickLeft
  rw [hdir]
  by_cases hp : tickPhase c = 0
  · rcases lt_trichotomy c.slew 0 with h | h | h
    · simp [hp, h, h.not_gt, Int.sign_eq_neg_one_of_neg h]
    · simp [hp, h]
    · simp [hp, h, h.not_gt, Int.sign_eq_one_of_pos h]
  · simp [hp]

theorem stepClock_eq (top : Nat) (c : Clock) : stepClock top c = (tickNext top c, tickExpires top c) := by
  have hstopped (v : Nat) : stopAt v c = { c with value := v, running := false, slew := 0, slewPhase := 0 } := rfl
  cases hrun : c.running
  · simp [stepClock, tickNext, tickExpires, hrun]
  · cases hdir : c.direction
    · have hstep := slewStep_down hdir
      rw [tickPhase] at hstep
      by_cases hexpires : c.value ≤ tickSize c
      · simp [stepClock, tickNext, tickExpires, hrun, hdir, hstep, hexpires, hstopped]
      · simp [stepClock, tickNext, tickExpires, hrun, hdir, hstep, hexpires, tickPhase]
    · have hstep := slewStep_up hdir
      rw [tickPhase] at hstep
      by_cases hexpires : top ≤ c.value + tickSize c
      · simp [stepClock, tickNext, tickExpires, hrun, hdir, hstep, hexpires, hstopped]
      · simp [stepClock, tickNext, tickExpires, hrun, hdir, hstep, hexpires, tickPhase]

/-! ### A remainder worked off (R72, R74) -/

/-- A clock's value `k` milliseconds on in its direction. -/
def movedBy (d : Direction) (k v : Nat) : Nat := match d with | .down => v - k | .up => v + k

/-- `k` more milliseconds do not bring a clock to its limit. -/
def Clear (d : Direction) (top k v : Nat) : Prop := match d with | .down => k < v | .up => v + k < top

theorem Clear.mono {d : Direction} {top k m v : Nat} (h : Clear d top m v) (hk : k ≤ m) : Clear d top k v := by
  cases d
  · exact Nat.lt_of_le_of_lt hk h
  · exact Nat.lt_of_le_of_lt (Nat.add_le_add_left hk v) h

theorem Clear.moved {d : Direction} {top j k v : Nat} (h : Clear d top (j + k) v) : Clear d top k (movedBy d j v) := by
  cases d <;> simp only [Clear, movedBy] at h ⊢ <;> omega

theorem tickNext_clear {top : Nat} {c : Clock} (hrun : c.running = true)
    (hclear : Clear c.direction top (tickSize c) c.value) :
    tickNext top c =
      { c with value := movedBy c.direction (tickSize c) c.value, slew := tickLeft c, slewPhase := tickPhase c } := by
  have hgoes : tickExpires top c = false := by
    rw [tickExpires, hrun, Bool.true_and]
    cases hdir : c.direction <;> rw [hdir] at hclear
    · exact decide_eq_false (Nat.not_le.2 hclear)
    · exact decide_eq_false (Nat.not_le.2 hclear)
  rw [tickNext, hrun, hgoes]
  rfl

section
variable {top : Nat} {c : Clock}

/-- The first nine events of a cycle leave the remainder alone. -/
theorem nineTicks (hrun : c.running = true) (hphase : c.slewPhase = 0) (k : Nat) (hk : k ≤ 9)
    (hclear : Clear c.direction top k c.value) :
    (tickNext top)^[k] c = { c with value := movedBy c.direction k c.value, slewPhase := k } := by
  induction k with
  | zero =>
    obtain ⟨value, running, direction, slew, phase⟩ := c
    obtain rfl : phase = 0 := hphase
    cases direction <;> rfl
  | succ k ih =>
    have hmid : tickPhase { c with value := movedBy c.direction k c.value, slewPhase := k } = k + 1 :=
      Nat.mod_eq_of_lt (show k + 1 < 10 by omega)
    have hone : tickSize { c with value := movedBy c.direction k c.value, slewPhase := k } = 1 := by
      rw [tickSize, hmid]
      rfl
    have hmoved : movedBy c.direction 1 (movedBy c.direction k c.value) = movedBy c.direction (k + 1) c.value := by
      cases c.direction
      · exact Nat.sub_sub _ _ _
      · exact Nat.add_assoc _ _ _
    have hlast := tickNext_clear (top := top) (c := { c with value := movedBy c.direction k c.value, slewPhase := k }) hrun
      (by rw [hone]; exact hclear.moved)
    rw [Function.iterate_succ_apply', ih (by omega) (hclear.mono (by omega)), hlast, hone, tickLeft, hmid, hmoved]
    rfl

/-- Ten events of a cycle move the clock ten milliseconds, and one more or less towards its remainder. -/
theorem tenTicks (hrun : c.running = true) (hphase : c.slewPhase = 0) (hclear : Clear c.direction top 11 c.value) :
    (tickNext top)^[10] c = { c with
      value := ((c.value : Int) + (match c.direction with | .down => -10 | .up => 10) + c.slew.sign).toNat
      slew := c.slew - c.slew.sign } := by
  have hzero : tickPhase { c with value := movedBy c.direction 9 c.value, slewPhase := 9 } = 0 := Nat.mod_self 10
  have hsize : (tickSize { c with value := movedBy c.direction 9 c.value, slewPhase := 9 } : Int)
      = match c.direction with | .down => 1 - c.slew.sign | .up => 1 + c.slew.sign := by
    rw [tickSize, hzero]
    rcases lt_trichotomy c.slew 0 with h | h | h
    · cases c.direction <;> simp [h, h.not_gt, Int.sign_eq_neg_one_of_neg h]
    · cases c.direction <;> simp [h]
    · cases c.direction <;> simp [h, h.not_gt, Int.sign_eq_one_of_pos h]
  have hlast := tickNext_clear (top := top) (c := { c with value := movedBy c.direction 9 c.value, slewPhase := 9 }) hrun
    ((Clear.moved (j := 9) (k := 2) hclear).mono (tickSize_le_two _))
  rw [Function.iterate_succ_apply', nineTicks hrun hphase 9 le_rfl (hclear.mono (by omega)), hlast, tickLeft, hzero]
  obtain ⟨value, running, direction, slew, phase⟩ := c
  obtain rfl : phase = 0 := hphase
  cases direction <;> simp only [Clear, movedBy] at hsize hclear ⊢ <;>
    simp only [Clock.mk.injEq, if_true, and_true] <;> omega

/-- Ten events a millisecond work a remainder of `n` milliseconds off. -/
theorem slewTicks (n : Nat) (hrun : c.running = true) (hphase : c.slewPhase = 0) (hslew : c.slew.natAbs = n)
    (hclear : Clear c.direction top (11 * n) c.value ∨ n = 0) :
    (tickNext top)^[10 * n] c = { c with
      value := ((c.value : Int) + (match c.direction with | .down => -10 | .up => 10) * n + c.slew).toNat
      slew := 0 } := by
  induction n generalizing c with
  | zero =>
    obtain ⟨value, running, direction, slew, phase⟩ := c
    obtain rfl : slew = 0 := Int.natAbs_eq_zero.1 hslew
    simp
  | succ n ih =>
    have hroom : Clear c.direction top (11 * (n + 1)) c.value := hclear.resolve_right (Nat.succ_ne_zero n)
    have hten := tenTicks hrun hphase (hroom.mono (k := 11) (by omega))
    have hsign : c.slew.sign = 1 ∧ c.slew = n + 1 ∨ c.slew.sign = -1 ∧ c.slew = -(n + 1) := by
      rcases lt_trichotomy c.slew 0 with h | h | h
      · exact .inr ⟨Int.sign_eq_neg_one_of_neg h, by omega⟩
      · omega
      · exact .inl ⟨Int.sign_eq_one_of_pos h, by omega⟩
    have hrest : (c.slew - c.slew.sign).natAbs = n := by omega
    have hnext := ih (c := { c with
      value := ((c.value : Int) + (match c.direction with | .down => -10 | .up => 10) + c.slew.sign).toNat
      slew := c.slew - c.slew.sign }) hrun hphase hrest (by
        obtain ⟨value, running, direction, slew, phase⟩ := c
        cases direction <;> simp only [Clear] at hroom hsign ⊢ <;> omega)
    rw [Nat.mul_add_one, Function.iterate_add_apply, hten, hnext]
    obtain ⟨value, running, direction, slew, phase⟩ := c
    cases direction <;> simp only [Clear] at hroom hsign ⊢ <;>
      simp only [Clock.mk.injEq, and_true] <;> omega

end

/-- Settles O37: ten events a millisecond, and the value an uncorrected clock would have, moved by the remainder. -/
theorem slewIsWorkedOff : Obligations.SlewIsWorkedOff := by
  intro top c hrun hphase n
  have hstep : (fun x => (stepClock top x).1) = tickNext top := funext fun x => by rw [stepClock_eq]
  rw [hstep]
  refine ⟨fun hdir hroom => ?_, fun hdir hroom => ?_⟩
  · rw [slewTicks n hrun hphase rfl (.inl (by rw [hdir]; exact hroom)), hdir]
    simp only [neg_mul, Int.sub_eq_add_neg]
  · rw [slewTicks n hrun hphase rfl (.inl (by rw [hdir]; exact hroom)), hdir]

/-! ### A timebase event of both clocks -/

/-- The state whose clocks have taken an event, with CLOCK_EXPIRED where one expires. -/
def clocksTicked (s : State) : State :=
  raiseIf (tickExpires 5999000 s.clock.game || tickExpires 999000 s.clock.secondary) .clockExpired
    { s with clock := { s.clock with
      game := tickNext 5999000 s.clock.game, secondary := tickNext 999000 s.clock.secondary } }

theorem stepClocks_eq (s : State) : stepClocks s = handStrings (clocksTicked s) := by
  rw [stepClocks, stepClock_eq, stepClock_eq]
  rfl

theorem flagUp_raiseIf (c : Bool) (f : Flag) (s : State) : flagUp f (raiseIf c f s) = (flagUp f s || c) := by
  cases c
  · rw [raiseIf_false, Bool.or_false]
  · rw [raiseIf_true, flagUp_raise, decide_eq_true rfl, Bool.true_or, Bool.or_true]

theorem clocksTicked_clock (s : State) : (clocksTicked s).clock = { s.clock with
    game := tickNext 5999000 s.clock.game, secondary := tickNext 999000 s.clock.secondary } := by
  rw [clocksTicked, raiseIf]
  split <;> rfl

theorem clocksTicked_figures (s : State) : (clocksTicked s).figures = s.figures := by
  rw [clocksTicked, raiseIf]
  split <;> rfl

theorem clocksTicked_zones (s : State) : (clocksTicked s).sweep.zones = s.sweep.zones := by
  rw [clocksTicked, raiseIf]
  split <;> rfl

/-- The timers that count after the clocks at a timebase event. -/
def countTimers (s : State) : State :=
  stepHeat (stepDebounce (stepGather (stepChase (stepIdle (stepWatchdog (stepGap s))))))

/-- What the timers can change. -/
abbrev timerParts : List Part :=
  [.receiver, .console, .watchdog, .houses, .current, .latch, .debounce, .flag .consoleLost, .flag .houseStale,
    .flag .chaseTimeout, .flag .clipEnded] ++ gatherParts ++ heatParts ++ entryParts

theorem countTimers_within (s : State) : Within timerParts s (countTimers s) := by
  have counted : Within timerParts s (stepChase (stepIdle (stepWatchdog (stepGap s)))) :=
    ((((stepGap_within s).mono (by decide)).andThen (stepWatchdog_within _) (by decide)).andThen
      (stepIdle_within _) (by decide)).andThen (stepChase_within _) (by decide)
  exact ((counted.andThen (stepGather_within _) (by decide)).andThen (stepDebounce_within _) (by decide)).andThen
    (stepHeat_within _) (by decide)

theorem exec_clockTimebaseStep {s : State} (h : s.bypass = false) :
    exec .clockTimebaseStep s = .next (countTimers (stepClocks s)) := by
  refine congrArg Host.Outcome.next ?_
  rw [timebaseStep, h]
  rfl

section
variable {s : State}

/-! With no timer running, a timebase event is the clocks' alone. -/

theorem stepGap_none (h : s.clock.receiver.gap = none) : stepGap s = s := by
  rw [stepGap, h]

theorem stepWatchdog_none (h : s.clock.watchdog = none) : stepWatchdog s = s := by
  rw [stepWatchdog, h]

theorem stepIdle_none (h : ∀ x ∈ s.path.houses, x.idle = none) : stepIdle s = s := by
  have hkept : s.path.houses.map idleStep = s.path.houses :=
    (List.map_congr_left fun x hx => show idleStep x = id x by rw [idleStep, h x hx]; rfl).trans (List.map_id _)
  have hquiet : s.path.houses.any idleExpires = false := List.any_eq_false.2 fun x hx => by
    rw [idleExpires, h x hx]
    decide
  rw [stepIdle, hquiet, hkept]
  rfl

theorem stepChase_none (h : ∀ c, s.replay.current = some c → c.chase = none) : stepChase s = s := by
  rw [stepChase]
  split
  · rename_i c hc
    rw [h c hc]
  · rfl

theorem stepGather_none (h : ∀ g, s.rotation.gather = some g → g.timer = none) : stepGather s = s := by
  rw [stepGather]
  split
  · rename_i g hg
    rw [h g hg]
  · rfl

theorem stepDebounce_none (h : s.pins.venue = false) : stepDebounce s = s := by
  rw [stepDebounce, h]
  rfl

theorem stepHeat_none (hstate : s.brightness.state = .normal) (hline : s.pins.heat = false) : stepHeat s = s := by
  have hfound : heatFound s.pins.heat s.brightness = s.brightness := by
    rw [hline]
    exact heatDeasserted_kept (.inl hstate)
  have hwarm : stepWarm s = s := by
    rw [stepWarm, hstate]
  have hcool : stepCool s = s := by
    rw [stepCool, hstate]
  rw [stepHeat, if_neg (not_not.2 hfound), hwarm, hcool]

end

/-- Settles O35: the clocks' step is `tickNext`, and the timers that count after it leave its parts alone. -/
theorem timebaseStepCountsClocks : Obligations.TimebaseStepCountsClocks := by
  intro s hbypass phase fast slow size left expires next ticked expired
  rw [exec_clockTimebaseStep hbypass]
  have hticked := stepClocks_within s
  have hdisplay : Redisplayed (clocksTicked s) (stepClocks s) := by
    rw [stepClocks_eq]
    exact handStrings_redisplayed _
  refine ⟨⟨_, rfl, ?_⟩, fun hgap hwatchdog hidle hchase hgather hdebounce hvenue hheat hline => ⟨_, rfl, ?_⟩⟩
  · have hcounted := countTimers_within (stepClocks s)
    have hclock : (countTimers (stepClocks s)).clock = { (stepClocks s).clock with
        receiver := (countTimers (stepClocks s)).clock.receiver, console := (countTimers (stepClocks s)).clock.console
        watchdog := (countTimers (stepClocks s)).clock.watchdog } := congrArg State.clock hcounted.eq_merge
    have hfigures : (countTimers (stepClocks s)).figures = (stepClocks s).figures :=
      (congrArg State.figures hcounted.eq_merge).trans rfl
    have hflag : flagUp .clockExpired (countTimers (stepClocks s)) = flagUp .clockExpired (stepClocks s) :=
      (hcounted (.flag .clockExpired) (by decide)).1
    have hlength : (countTimers (stepClocks s)).sweep.zones.length = (stepClocks s).sweep.zones.length := by
      simpa only [List.length_map] using congrArg List.length (hcounted .cfgs (by decide))
    obtain ⟨zones, watch, hbumps, hu⟩ := restrung_iff.1 hdisplay
    have hexpired : flagUp .clockExpired (clocksTicked s) = (flagUp .clockExpired s || expired) := by
      rw [clocksTicked, flagUp_raiseIf]
      rfl
    refine ⟨?_, ?_, ?_, ?_, fun n z y f hz hy hrole => ?_⟩
    · rw [hclock, hu]
      dsimp only
      rw [clocksTicked_clock]
      rfl
    · rw [hclock, hfigures, hu]
      dsimp only
      rw [clocksTicked_clock, clocksTicked_figures]
      rfl
    · rw [hflag, hu]
      exact hexpired
    · rw [hlength, hu]
      exact hbumps.1.trans (congrArg List.length (clocksTicked_zones s))
    · obtain ⟨hsize, hzones⟩ := hdisplay.2.1
      have hbefore : (clocksTicked s).sweep.zones[n]? = some z := by rw [clocksTicked_zones, hz]
      have hin : n < (stepClocks s).sweep.zones.length := hlength ▸ (List.getElem?_eq_some_iff.1 hy).1
      obtain ⟨hbumped, hkept⟩ := hzones n z _ hbefore (List.getElem?_eq_getElem hin)
      have hshows : (∃ g, z.cfg.role = .figure g ∧ figureString (clocksTicked s).figures.strings g
          ≠ figureString (stepClocks s).figures.strings g)
          ↔ figureString s.figures.strings f ≠ figureString (countTimers (stepClocks s)).figures.strings f := by
        rw [hrole, clocksTicked_figures, hfigures]
        exact ⟨fun ⟨g, hg, hne⟩ => Role.figure.inj hg ▸ hne, fun hne => ⟨f, rfl, hne⟩⟩
      have hkind : roleKind (stepClocks s).sweep.zones[n].cfg.role = .figure := by
        by_cases hbump : z.cfg.enabled = true ∧ ∃ g, z.cfg.role = .figure g
            ∧ figureString (clocksTicked s).figures.strings g ≠ figureString (stepClocks s).figures.strings g
        · rw [hbumped hbump, hrole]
          rfl
        · rw [hkept hbump, hrole]
          rfl
      rw [hcounted.zone_eq (List.getElem?_eq_getElem hin) hy hkind (by decide)]
      split
      · next hbump => exact hbumped ⟨hbump.1, hshows.2 hbump.2⟩
      · next hquiet => exact hkept fun hbump => hquiet ⟨hbump.1, hshows.1 hbump.2⟩
  · have hreceiver : (stepClocks s).clock.receiver = s.clock.receiver := hticked .receiver (by decide)
    have hdog : (stepClocks s).clock.watchdog = s.clock.watchdog := hticked .watchdog (by decide)
    have hhouses : (stepClocks s).path.houses = s.path.houses := hticked .houses (by decide)
    have hclip : (stepClocks s).replay.current = s.replay.current := hticked .current (by decide)
    have hlist : (stepClocks s).rotation.gather = s.rotation.gather := hticked .gather (by decide)
    have hpins : (stepClocks s).pins = s.pins := hticked .pins (by decide)
    have hthermal : (stepClocks s).brightness.state = s.brightness.state := hticked .thermalState (by decide)
    have hquiet : countTimers (stepClocks s) = stepClocks s := by
      rw [countTimers, stepGap_none (hreceiver ▸ hgap), stepWatchdog_none (hdog ▸ hwatchdog),
        stepIdle_none (hhouses ▸ hidle), stepChase_none (hclip ▸ hchase), stepGather_none (hlist ▸ hgather),
        stepDebounce_none (hpins ▸ hvenue), stepHeat_none (hthermal ▸ hheat) (hpins ▸ hline)]
    rw [hquiet]
    exact hdisplay

end Sys2Proof.Proofs
end

section
/-! PROOFS. What disciplines and sets the clocks: a BEACON (R64 to R66, R70 to R72), CLOCK SET, CLOCK RUN and CLOCK STOP
(R68, R81 to R83). -/

namespace Sys2Proof.Proofs

open Sys2Proof.Machine Sys2Proof.Safety

theorem byte_le_one_iff (b : Byte) : (b ≤ 1 : Bool) = true ↔ b.toNat ≤ 1 := by
  rw [decide_eq_true_iff, BitVec.le_def]
  rfl

theorem clampPeriod_toNat (b : Byte) : clampPeriod b.toNat = if b = 0 then 1 else min b.toNat 15 := by
  have hzero : b.toNat = 0 ↔ b = 0 := by bv_omega
  simp only [clampPeriod, hzero]
  rfl

/-! ### A beacon -/

theorem beaconValid_iff (p : BeaconPayload) :
    beaconValid p = true ↔ p.gameRunning.toNat ≤ 1 ∧ p.direction.toNat ≤ 1 ∧ p.secondaryRunning.toNat ≤ 1 := by
  simp only [beaconValid, Bool.and_eq_true, byte_le_one_iff, and_assoc]

theorem largeError_iff (c : Clock) (v : Nat) : largeError c v = true ↔ 250 ≤ ((v : Int) - c.value).natAbs := by
  rw [largeError, decide_eq_true_iff, Int.abs_eq_natAbs]
  omega

theorem snaps_iff (found : ConsoleState) (v : Nat) (run : Bool) (dir : Direction) (c : Clock) :
    snaps found v run dir c = true ↔ found = .absent ∨ found = .freeRun ∨ run ≠ c.running ∨ c.running = false
      ∨ dir ≠ c.direction ∨ 250 ≤ ((v : Int) - c.value).natAbs := by
  simp only [snaps, Bool.or_eq_true, beq_iff_eq, bne_iff_ne, Bool.not_eq_true', largeError_iff, or_assoc]

theorem snapFlagged_iff (v : Nat) (run : Bool) (c : Clock) :
    snapFlagged v run c = true ↔ 250 ≤ ((v : Int) - c.value).natAbs ∨ run ≠ c.running := by
  simp only [snapFlagged, Bool.or_eq_true, bne_iff_ne, largeError_iff]

theorem raiseIf_eq_ite (c : Bool) (f : Flag) (s : State) {P : Prop} [Decidable P] (h : c = true ↔ P) :
    raiseIf c f s = if P then raise f s else s := by
  rw [raiseIf]
  by_cases hp : P
  · rw [if_pos (h.2 hp), if_pos hp]
  · rw [if_neg (mt h.1 hp), if_neg hp]

theorem exec_beacon {s : State} (h : s.bypass = false) (p : BeaconPayload) :
    exec (.beacon p) s = .next (takeBeacon p s) :=
  congrArg _ (outOfBypass_out h)

/-- Settles O38: the snap and flag tests, as the statement spells them. -/
theorem beaconDisciplinesClocks : Obligations.BeaconDisciplinesClocks := by
  intro s p hbypass good dir gv sv gr sr large snap flagged next taken
  rw [exec_beacon hbypass, takeBeacon]
  refine ⟨fun h => ?_, fun hgood hconsole => ?_⟩
  · have hrefused : (!beaconValid p || s.clock.console == .house) = true := by
      rw [Bool.or_eq_true, Bool.not_eq_true', beq_iff_eq]
      exact h.imp (fun hbad => Bool.eq_false_iff.2 fun hok => hbad ((beaconValid_iff p).1 hok)) id
    rw [if_pos hrefused]
  · have htaken : ¬ (!beaconValid p || s.clock.console == .house) = true := by
      rw [Bool.or_eq_true, Bool.not_eq_true', beq_iff_eq, (beaconValid_iff p).2 hgood]
      exact fun h => h.elim nofun hconsole
    have hnext (c : Clock) (v : Nat) (run : Bool) : discipline s.clock.console v run dir c = next c v run := by
      rw [discipline]
      exact if_congr (snaps_iff _ v run dir c) rfl rfl
    have hflag (c : Clock) (v : Nat) (run : Bool) :
        (snaps s.clock.console v run dir c && snapFlagged v run c) = true ↔ flagged c v run := by
      rw [Bool.and_eq_true, snaps_iff, snapFlagged_iff]
    rw [if_neg htaken]
    refine ⟨_, rfl, ?_⟩
    have hraised := raiseIf_eq_ite
      (snaps s.clock.console gv gr dir s.clock.game && snapFlagged gv gr s.clock.game
        || snaps s.clock.console sv sr dir s.clock.secondary && snapFlagged sv sr s.clock.secondary) .clockSnap taken
      (by rw [Bool.or_eq_true, hflag, hflag])
    rw [← hraised]
    have htakenState : taken = { s with clock := { s.clock with
        period := clampPeriod p.period.toNat
        game := discipline s.clock.console gv gr dir s.clock.game
        secondary := discipline s.clock.console sv sr dir s.clock.secondary
        console := .locked, watchdog := some 500 } } := by
      rw [clampPeriod_toNat, hnext, hnext]
    rw [htakenState]
    exact handStrings_redisplayed _

/-! ### CLOCK SET, CLOCK RUN and CLOCK STOP -/

theorem clockSetOk_iff (op : ClockSetOperand) : clockSetOk op = true ↔
    op.direction.toNat ≤ 1 ∧ op.gameRunning.toNat ≤ 1 ∧ op.tenths.toNat ≤ 1 ∧ op.secondaryRunning.toNat ≤ 1
      ∧ op.source.toNat ≤ 1 := by
  simp only [clockSetOk, Bool.and_eq_true, byte_le_one_iff, and_assoc]

theorem exec_clockSet {s : State} (h : s.bypass = false) (tag : Half) (op : ClockSetOperand) :
    exec (.clockSet tag op) s = .next (shortCue tag 0x70 (clockSet op) s) :=
  congrArg _ (outOfBypass_out h)

theorem exec_clockRun {s : State} (h : s.bypass = false) (tag : Half) (clock : Byte) :
    exec (.clockRun tag clock) s = .next (shortCue tag 0x71 (houseControl true clock) s) :=
  congrArg _ (outOfBypass_out h)

theorem exec_clockStop {s : State} (h : s.bypass = false) (tag : Half) (clock : Byte) :
    exec (.clockStop tag clock) s = .next (shortCue tag 0x72 (houseControl false clock) s) :=
  congrArg _ (outOfBypass_out h)

theorem clockIdOf_none {b : Byte} (h : 1 < b.toNat) : clockIdOf b = none := by
  have hzero : b ≠ 0 := by bv_omega
  have hone : b ≠ 1 := by bv_omega
  rw [clockIdOf, if_neg hzero, if_neg hone]

section
variable {k : ClockId} {b : Byte} {s : State} (run : Bool)

theorem houseControl_unowned (hid : clockIdOf b = some k) (h : s.clock.console ≠ .house) :
    houseControl run b s = { state := s, result := .consoleOwns, detail := 0 } := by
  rw [houseControl, hid]
  exact if_pos h

theorem houseControl_owned (hid : clockIdOf b = some k) (h : s.clock.console = .house) :
    houseControl run b s =
      { state := if (clockOf k s).running = run then s
          else setClock k { clockOf k s with running := run, slew := 0, slewPhase := 0 } s
        result := .done, detail := 0 } := by
  rw [houseControl, hid]
  dsimp only
  rw [if_neg (not_not.2 h)]
  split <;> rfl

end

/-- Settles O40, cue by cue. -/
theorem houseClockCuesTakeOperands : Obligations.HouseClockCuesTakeOperands := by
  refine ⟨fun s tag op hbypass => ?set, fun s tag clock hbypass => ⟨fun hbad => ?range, fun k hclock => ?control⟩⟩
  case set =>
    intro good dir
    rw [exec_clockSet hbypass, shortCue, clockSet]
    refine ⟨fun hbad => ?_, fun hgood => ?_⟩
    · rw [Bool.eq_false_iff.2 fun hok => hbad ((clockSetOk_iff op).1 hok)]
      rfl
    · rw [(clockSetOk_iff op).2 hgood]
      refine ⟨_, rfl, ?_⟩
      rw [← clampPeriod_toNat]
      exact handStrings_redisplayed _
  case range =>
    rw [exec_clockRun hbypass, exec_clockStop hbypass, shortCue, shortCue, houseControl, houseControl,
      clockIdOf_none hbad]
    exact ⟨rfl, rfl⟩
  case control =>
    have hid : clockIdOf clock = some k := by
      cases k
      · rw [hclock]
        rfl
      · rw [hclock]
        rfl
    rw [exec_clockRun hbypass, exec_clockStop hbypass, shortCue, shortCue]
    refine ⟨fun h => ?_, fun h => ?_⟩
    · rw [houseControl_unowned true hid h, houseControl_unowned false hid h]
      exact ⟨rfl, rfl⟩
    · rw [houseControl_owned true hid h, houseControl_owned false hid h]
      refine ⟨rfl, ?_⟩
      cases hrun : (clockOf k s).running <;> rfl

end Sys2Proof.Proofs
end

section
/-! PROOFS. The timing line receiver (R63, R64): the assembly table, and the bytes of a whole frame. -/

namespace Sys2Proof.Proofs

open Sys2Proof.Machine Sys2Proof.Safety

/-! ### One byte -/

/-- The state with another receiver. -/
def receiving (r : LineReceiver) (s : State) : State := { s with clock := { s.clock with receiver := r } }

theorem exec_timingLineByte {s : State} (h : s.bypass = false) (b : Byte) (e : Bool) :
    exec (.timingLineByte b e) s = .next (takeByte b e s) :=
  congrArg _ (outOfBypass_out h)

theorem takeByte_framingError (b : Byte) (r : LineReceiver) (s : State) :
    takeByte b true (receiving r s) = receiving coldReceiver s := rfl

/-- A byte that completes no frame changes the receiver alone. -/
theorem takeByte_noFrame {b : Byte} {r : LineReceiver} {s : State} {o : ByteOutcome} (h : assemble b r = o)
    (hframe : o.frame = none) : takeByte b false (receiving r s) = receiving o.receiver s := by
  rw [takeByte, show (receiving r s).clock.receiver = r from rfl]
  simp only [Bool.false_eq_true, if_false, h, hframe]
  rfl

theorem takeByte_frame {b : Byte} {r : LineReceiver} {s : State} {k : ConsoleFrame} {bytes : List Byte}
    (h : assemble b r = { receiver := huntReceiver, frame := some (k, bytes) }) :
    takeByte b false (receiving r s) = takeFrame k bytes (receiving coldReceiver s) := by
  rw [takeByte, show (receiving r s).clock.receiver = r from rfl]
  simp only [Bool.false_eq_true, if_false, h]
  rfl

/-! ### The check -/

theorem byteSum_eq (l : List Byte) : byteSum l = BitVec.ofNat 8 (l.map (·.toNat)).sum := by
  have hfold (a : Byte) : l.foldl (· + ·) a = a + BitVec.ofNat 8 (l.map (·.toNat)).sum := by
    induction l generalizing a with
    | nil => simp
    | cons b l ih =>
      rw [List.foldl_cons, ih, List.map_cons, List.sum_cons, BitVec.ofNat_add, BitVec.ofNat_toNat, BitVec.setWidth_eq,
        BitVec.add_assoc]
  rw [byteSum, hfold, zero_add]

theorem frameCheck_beacon (l : List Byte) : frameCheck .beacon l = 0x01 + 12 + byteSum l := by
  rw [byteSum_eq, frameCheck, BitVec.ofNat_add]
  rfl

theorem frameCheck_score (l : List Byte) : frameCheck .score l = 0x02 + 6 + byteSum l := by
  rw [byteSum_eq, frameCheck, BitVec.ofNat_add]
  rfl

/-! ### The assembly table -/

section
variable {b : Byte} {r : LineReceiver}

theorem assemble_start (h : r.state = .hunt) (hb : b = 0x7E) : assemble b r = goOn r .kind := by
  rw [assemble, h]
  exact if_pos hb

theorem assemble_discarded (h : r.state = .hunt) (hb : b ≠ 0x7E) : assemble b r = dropFrame := by
  rw [assemble, h]
  exact if_neg hb

theorem assemble_beacon (h : r.state = .kind) (hb : b = 0x01) :
    assemble b r = goOn { r with kind := .beacon } .length := by
  rw [assemble, h]
  exact if_pos hb

theorem assemble_score (h : r.state = .kind) (hb : b = 0x02) :
    assemble b r = goOn { r with kind := .score } .length := by
  subst hb
  rw [assemble, h]
  rfl

theorem assemble_noKind (h : r.state = .kind) (hone : b ≠ 0x01) (htwo : b ≠ 0x02) : assemble b r = dropFrame := by
  rw [assemble, h]
  exact (if_neg hone).trans (if_neg htwo)

theorem assemble_length (h : r.state = .length) (hb : b.toNat = payloadLength r.kind) :
    assemble b r = goOn { r with bytes := [] } .payload := by
  rw [assemble, h]
  exact if_pos hb

theorem assemble_badLength (h : r.state = .length) (hb : b.toNat ≠ payloadLength r.kind) :
    assemble b r = dropFrame := by
  rw [assemble, h]
  exact if_neg hb

theorem assemble_payload (h : r.state = .payload) : assemble b r = goOn { r with bytes := r.bytes ++ [b] }
    (if r.bytes.length + 1 < payloadLength r.kind then .payload else .check) := by
  rw [assemble, h]
  dsimp only
  rw [List.length_append, List.length_singleton]

theorem assemble_check (h : r.state = .check) : assemble b r = goOn { r with check := b } .ending := by
  rw [assemble, h]

theorem assemble_end (h : r.state = .ending) : assemble b r =
    if b = 0x7F ∧ r.check = frameCheck r.kind r.bytes then
      { receiver := huntReceiver, frame := some (r.kind, r.bytes) }
    else dropFrame := by
  rw [assemble, h]

end

/-! ### A whole frame -/

/-- The commands of a row of bytes. -/
def lineBytes (l : List Byte) : List Instr := l.map (fun b => Instr.timingLineByte b false)

theorem runCommands_byte {s : State} (hbypass : s.bypass = false) {b : Byte} {r : LineReceiver} {o : ByteOutcome}
    (h : assemble b r = o) (hframe : o.frame = none) (rest : List Instr) :
    runCommands (.timingLineByte b false :: rest) (receiving r s) = runCommands rest (receiving o.receiver s) := by
  rw [runCommands, exec_timingLineByte (s := receiving r s) hbypass, takeByte_noFrame h hframe]

/-- The payload bytes, up to the last that the kind carries. -/
theorem runCommands_payload {s : State} (hbypass : s.bypass = false) (rest : List Instr) (l : List Byte) :
    ∀ r : LineReceiver, r.state = .payload → r.gap = some 10 → l ≠ [] →
      r.bytes.length + l.length = payloadLength r.kind →
      runCommands (lineBytes l ++ rest) (receiving r s)
        = runCommands rest (receiving { r with state := .check, bytes := r.bytes ++ l } s) := by
  induction l with
  | nil => exact fun _ _ _ h => (h rfl).elim
  | cons b l ih =>
    intro r hstate hgap _ hlength
    have hnext := runCommands_byte hbypass (b := b) (assemble_payload hstate) rfl (lineBytes l ++ rest)
    refine hnext.trans ?_
    rw [List.length_cons] at hlength
    cases l with
    | nil =>
      have hlast : ¬ r.bytes.length + 1 < payloadLength r.kind := by
        rw [List.length_nil] at hlength
        omega
      rw [if_neg hlast, goOn, ← hgap.trans (by rfl : some 10 = some Config.gapTime)]
      rfl
    | cons c l =>
      have hmore : r.bytes.length + 1 < payloadLength r.kind := by
        rw [List.length_cons] at hlength
        omega
      rw [if_pos hmore]
      refine (ih (goOn { r with bytes := r.bytes ++ [b] } .payload).receiver rfl rfl (List.cons_ne_nil _ _) ?_).trans ?_
      · show (r.bytes ++ [b]).length + (c :: l).length = payloadLength r.kind
        rw [List.length_append, List.length_singleton]
        omega
      · rw [goOn, ← hgap.trans (by rfl : some 10 = some Config.gapTime)]
        show runCommands rest (receiving { r with state := .check, bytes := r.bytes ++ [b] ++ c :: l } s) = _
        rw [List.append_assoc]
        rfl

/-- The kind byte of a console frame. -/
def kindByte : ConsoleFrame → Byte
  | .beacon => 0x01
  | .score => 0x02

/-- The length byte of a console frame. -/
def lengthByte : ConsoleFrame → Byte
  | .beacon => 12
  | .score => 6

theorem assemble_kind {r : LineReceiver} (h : r.state = .kind) (kind : ConsoleFrame) :
    assemble (kindByte kind) r = goOn { r with kind := kind } .length := by
  cases kind
  · exact assemble_beacon h rfl
  · exact assemble_score h rfl

theorem lengthByte_toNat (kind : ConsoleFrame) : (lengthByte kind).toNat = payloadLength kind := by
  cases kind <;> rfl

theorem frameCheck_eq (kind : ConsoleFrame) (bytes : List Byte) :
    frameCheck kind bytes = kindByte kind + lengthByte kind + byteSum bytes := by
  cases kind
  · exact frameCheck_beacon bytes
  · exact frameCheck_score bytes

/-- A frame's bytes from HUNT, whatever its check and its end byte: the frame arrives, or it is dropped. -/
theorem runCommands_frame {s : State} (hbypass : s.bypass = false) (hstate : s.clock.receiver.state = .hunt)
    (kind : ConsoleFrame) (bytes : List Byte) (hlength : bytes.length = payloadLength kind) (hsome : bytes ≠ [])
    (check last : Byte) :
    runCommands (lineBytes ([0x7E, kindByte kind, lengthByte kind] ++ bytes ++ [check, last])) s
      = if check = kindByte kind + lengthByte kind + byteSum bytes ∧ last = 0x7F then
          .next (takeFrame kind bytes (receiving coldReceiver s))
        else .next (receiving coldReceiver s) := by
  let filled : LineReceiver := { state := .check, kind := kind, bytes := bytes, check := s.clock.receiver.check, gap := some 10 }
  have hstart : runCommands (lineBytes ([0x7E, kindByte kind, lengthByte kind] ++ bytes ++ [check, last])) s
      = runCommands (lineBytes bytes ++ lineBytes [check, last])
          (receiving { filled with state := .payload, bytes := [] } s) := by
    refine (runCommands_byte hbypass (r := s.clock.receiver) (assemble_start hstate rfl) rfl _).trans ?_
    refine (runCommands_byte hbypass (assemble_kind rfl kind) rfl _).trans ?_
    refine (runCommands_byte hbypass (assemble_length rfl (lengthByte_toNat kind)) rfl _).trans ?_
    exact congrArg (fun l => runCommands l (receiving { filled with state := .payload, bytes := [] } s))
      (List.map_append (l₁ := bytes) (l₂ := [check, last]))
  rw [hstart, runCommands_payload hbypass (lineBytes [check, last]) bytes
    { filled with state := .payload, bytes := [] } rfl rfl hsome (by simpa using hlength)]
  refine (runCommands_byte hbypass (r := filled) (assemble_check rfl) rfl _).trans ?_
  have hlast : runCommands [.timingLineByte last false] (receiving { filled with state := .ending, check := check } s)
      = .next (takeByte last false (receiving { filled with state := .ending, check := check } s)) := by
    rw [runCommands, exec_timingLineByte (s := receiving { filled with state := .ending, check := check } s) hbypass]
    rfl
  refine hlast.trans ?_
  have hend := assemble_end (b := last) (r := { filled with state := .ending, check := check }) rfl
  split
  · next hgood =>
    rw [if_pos ⟨hgood.2, (frameCheck_eq kind bytes).symm ▸ hgood.1⟩] at hend
    exact congrArg _ (takeByte_frame hend)
  · next hbad =>
    rw [if_neg fun hok => hbad ⟨(frameCheck_eq kind bytes) ▸ hok.2, hok.1⟩] at hend
    exact congrArg _ (takeByte_noFrame hend rfl)

/-! ### The payloads read back -/

theorem beaconOf_beaconBytes (p : BeaconPayload) : beaconOf (beaconBytes p) = p := by
  have hword (v : Word) : BitVec.ofNat 32 (leNat [v.extractLsb' 0 8, v.extractLsb' 8 8, v.extractLsb' 16 8,
      v.extractLsb' 24 8]) = v := by
    apply BitVec.eq_of_toNat_eq
    simp only [leNat, BitVec.toNat_ofNat, BitVec.extractLsb'_toNat, Nat.shiftRight_eq_div_pow]
    omega
  obtain ⟨gv, gr, dir, sv, sr, period⟩ := p
  show BeaconPayload.mk (BitVec.ofNat 32 (leNat _)) gr dir (BitVec.ofNat 32 (leNat _)) sr period = _
  exact congrArg₂ (fun a b => BeaconPayload.mk a gr dir b sr period) (hword gv) (hword sv)

/-- The bytes of a SCORE payload, each number least significant byte first. -/
def scoreBytes (p : ScorePayload) : List Byte :=
  [p.home.extractLsb' 0 8, p.home.extractLsb' 8 8, p.guest.extractLsb' 0 8, p.guest.extractLsb' 8 8, p.homeAux,
    p.guestAux]

theorem scoreOf_scoreBytes (p : ScorePayload) : scoreOf (scoreBytes p) = p := by
  have hhalf (v : Half) : BitVec.ofNat 16 (leNat [v.extractLsb' 0 8, v.extractLsb' 8 8]) = v := by
    apply BitVec.eq_of_toNat_eq
    simp only [leNat, BitVec.toNat_ofNat, BitVec.extractLsb'_toNat, Nat.shiftRight_eq_div_pow]
    omega
  obtain ⟨home, guest, homeAux, guestAux⟩ := p
  exact congrArg₂ (fun a b => ScorePayload.mk a b homeAux guestAux) (hhalf home) (hhalf guest)

/-! ### The table -/

/-- A byte that completes no frame, as a row of the table. -/
theorem exec_byte_noFrame {s : State} (hbypass : s.bypass = false) {b : Byte} {r : LineReceiver} {o : ByteOutcome}
    (h : assemble b r = o) (hframe : o.frame = none) :
    exec (.timingLineByte b false) (receiving r s) = .next (receiving o.receiver s) :=
  (exec_timingLineByte (s := receiving r s) hbypass b false).trans (congrArg _ (takeByte_noFrame h hframe))

theorem byte_eq_iff_toNat {a b : Byte} : a = b ↔ a.toNat = b.toNat := BitVec.toNat_inj.symm

/-- Settles O39, by the frame of each kind and by the table's rows. -/
theorem timingLineFrameIsOneArrival : Obligations.TimingLineFrameIsOneArrival := by
  intro s hbypass hstate hunting line
  have hhunting : hunting.bypass = false := hbypass
  refine ⟨fun p check last => ?beacon, fun p check last => ?score, fun b hb => ?discarded, fun r b => ⟨?framing, ?rows⟩⟩
  case beacon =>
    refine (runCommands_frame hbypass hstate .beacon (beaconBytes p) rfl (List.cons_ne_nil _ _) check last).trans ?_
    rw [takeFrame, beaconOf_beaconBytes, exec_beacon hhunting]
    rfl
  case score =>
    refine (runCommands_frame hbypass hstate .score (scoreBytes p) rfl (List.cons_ne_nil _ _) check last).trans ?_
    rw [takeFrame, scoreOf_scoreBytes, show exec (.scoreFrame p) hunting = .next (writeScores p hunting) from
      congrArg _ (outOfBypass_out hhunting)]
    rfl
  case discarded => exact exec_byte_noFrame hbypass (r := s.clock.receiver) (assemble_discarded hstate hb) rfl
  case framing => exact exec_timingLineByte (s := receiving r s) hbypass b true
  case rows =>
    intro taking code length answer
    have hlength : length.toNat = payloadLength r.kind := by
      simp only [length]
      cases r.kind <;> rfl
    have hcheck : frameCheck r.kind r.bytes = code + length + byteSum r.bytes := by
      simp only [code, length]
      cases r.kind
      · exact frameCheck_beacon r.bytes
      · exact frameCheck_score r.bytes
    refine ⟨fun h hb => ?_, fun h hb => ?_, fun h hb => ?_, fun h hone htwo => ?_, fun h hb => ?_, fun h hb => ?_,
      fun h => ?_, fun h => ?_, fun h hbad => ?_⟩
    · exact exec_byte_noFrame hbypass (assemble_start h hb) rfl
    · exact exec_byte_noFrame hbypass (assemble_beacon h hb) rfl
    · exact exec_byte_noFrame hbypass (assemble_score h hb) rfl
    · exact exec_byte_noFrame hbypass (assemble_noKind h hone htwo) rfl
    · exact exec_byte_noFrame hbypass (assemble_length h (hlength ▸ congrArg BitVec.toNat hb)) rfl
    · exact exec_byte_noFrame hbypass
        (assemble_badLength h fun heq => hb (byte_eq_iff_toNat.2 (heq.trans hlength.symm))) rfl
    · rw [hlength]
      exact exec_byte_noFrame hbypass (assemble_payload h) rfl
    · exact exec_byte_noFrame hbypass (assemble_check h) rfl
    · have hdropped : assemble b r = dropFrame := by
        rw [assemble_end h, hcheck]
        exact if_neg fun hok => hbad.elim (fun hb => hb hok.1) fun hc => hc hok.2
      exact exec_byte_noFrame hbypass hdropped rfl

end Sys2Proof.Proofs
end

section
/-! PROOFS. Who is on air (R159, R161, R163, R165): where a record joins the queue, the choice of the head, and the
alert's entry. -/

namespace Sys2Proof.Proofs

open Sys2Proof.Machine Sys2Proof.Safety

/-! ### Joining the queue -/

/-- A joining record goes before the first record of a lower class. -/
theorem insertTail_split (m : Message) (q : List Message) :
    ∃ x y, q = x ++ y ∧ (∀ a ∈ x, m.priority ≤ a.priority) ∧ (∀ a ∈ y.head?, a.priority < m.priority)
      ∧ insertTail m q = x ++ m :: y := by
  induction q with
  | nil => exact ⟨[], [], rfl, List.forall_mem_nil _, nofun, rfl⟩
  | cons a q ih =>
    rw [insertTail]
    split
    · next h =>
      obtain ⟨x, y, rfl, hx, hy, hinsert⟩ := ih
      exact ⟨a :: x, y, rfl, List.forall_mem_cons.2 ⟨h, hx⟩, hy, congrArg (a :: ·) hinsert⟩
    · next h => exact ⟨[], a :: q, rfl, List.forall_mem_nil _, fun b hb => Option.some.inj hb ▸ Nat.lt_of_not_le h, rfl⟩

/-- A returning record goes before the first record of its class or a lower one. -/
theorem insertHead_split (m : Message) (q : List Message) :
    ∃ x y, q = x ++ y ∧ (∀ a ∈ x, m.priority < a.priority) ∧ (∀ a ∈ y.head?, a.priority ≤ m.priority)
      ∧ insertHead m q = x ++ m :: y := by
  induction q with
  | nil => exact ⟨[], [], rfl, List.forall_mem_nil _, nofun, rfl⟩
  | cons a q ih =>
    rw [insertHead]
    split
    · next h =>
      obtain ⟨x, y, rfl, hx, hy, hinsert⟩ := ih
      exact ⟨a :: x, y, rfl, List.forall_mem_cons.2 ⟨h, hx⟩, hy, congrArg (a :: ·) hinsert⟩
    · next h => exact ⟨[], a :: q, rfl, List.forall_mem_nil _, fun b hb => Option.some.inj hb ▸ Nat.le_of_not_lt h, rfl⟩

/-- In a queue of falling classes a bound on the head holds of the rest. -/
theorem forall_mem_of_head? {q : List Message} {n : Nat} (hq : q.Pairwise (fun a b => b.priority ≤ a.priority))
    (hhead : ∀ a ∈ q.head?, a.priority ≤ n) : ∀ a ∈ q, a.priority ≤ n := by
  cases q with
  | nil => exact List.forall_mem_nil _
  | cons a q =>
    have ha : a.priority ≤ n := hhead a rfl
    exact List.forall_mem_cons.2 ⟨ha, fun b hb => (List.rel_of_pairwise_cons hq hb).trans ha⟩

theorem joinQueue_fits {q : List Message} (h : q.length ≤ 16) (s : State) :
    joinQueue q s = { s with messages := { s.messages with queue := q } } := by
  have hkept : evict q = (q, none) := if_neg (Nat.not_lt.2 h)
  rw [joinQueue, hkept]

theorem joinQueue_evicts {q : List Message} {gone : Message} (h : 16 < q.length) (hlast : q.getLast? = some gone)
    (s : State) : joinQueue q s = raise .messageEvicted
      { s with messages := { s.messages with queue := q.dropLast, lastGone := gone.id } } := by
  have hgone : evict q = (q.dropLast, some gone) := (if_pos h).trans (by rw [hlast])
  rw [joinQueue, hgone]

/-! ### The choice of the head (R159) -/

section
variable {s : State} {zone : Option ZoneRec}

theorem putOnAirIn_empty (hqueue : s.messages.queue = []) : putOnAirIn zone s = s := by
  unfold putOnAirIn
  split
  · rw [hqueue]
    show ({ s with messages.queue := [] } : State) = s
    rw [← hqueue]
  · rfl

theorem putOnAirIn_head {z : ZoneRec} {m : Message} {rest : List Message} (hair : s.messages.onAir = none)
    (halert : s.alert.state ≠ .onAir) (hqueue : s.messages.queue = m :: rest) (hheight : m.height = z.h) :
    putOnAirIn (some z) s = { s with messages := { s.messages with
      queue := rest, onAir := some { msg := m, showing := .notStarted } } } := by
  have hquiet : alertOnAir s = false := by simpa [alertOnAir] using halert
  have hchosen : chooseHead z.h (m :: rest) = ([], some (m, rest)) := if_pos hheight
  simp only [putOnAirIn, hair, hquiet, hqueue, hchosen]
  rfl

/-- With nothing to choose, the air stays as it is. -/
theorem settleAirIn_kept (h : putOnAirIn zone s = s) : settleAirIn zone false s = s := by
  rw [settleAirIn, h]
  cases s.messages.onAir <;> rfl

/-- A record that left the air is reported whatever then goes on air. -/
theorem settleAirIn_left (zone : Option ZoneRec) (s : State) :
    settleAirIn zone true s = airChanged (putOnAirIn zone s) := rfl

theorem settleAirIn_chosen {u : State} (hair : s.messages.onAir = none) (hput : putOnAirIn zone s = u)
    (hu : u.messages.onAir.isSome = true) (left : Bool) : settleAirIn zone left s = airChanged u := by
  simp only [settleAirIn, hput, hair, hu]
  cases left <;> rfl

end

theorem airChanged_reported (u : State) : Reported (fun z => z.role = .message) u (airChanged u) :=
  reported_bump isMessage_iff u

/-! ### MESSAGE WITHDRAW -/

theorem exec_messageWithdraw {s : State} (h : s.bypass = false) (tag id : Half) :
    exec (.messageWithdraw tag id) s = .next (shortCue tag 0x41 (withdraw id.toNat) s) :=
  congrArg _ (outOfBypass_out h)

theorem onAirId_iff (s : State) (id : Nat) :
    onAirId s = some id ↔ ∃ o, s.messages.onAir = some o ∧ o.msg.id = id := by
  simp [onAirId]

theorem queued_eq_false {id : Nat} {q : List Message} (h : ∀ m ∈ q, m.id ≠ id) : queued id q = false :=
  Bool.eq_false_iff.2 fun hq => let ⟨m, hm, hid⟩ := (queued_iff id q).1 hq; h m hm hid

section
variable {id : Nat} {s : State}

theorem withdraw_onAir (hid : id ≠ 0) (hair : onAirId s = some id) :
    withdraw id s = { state := settleAir true { s with messages.onAir := none }, result := .done, detail := 1 } := by
  rw [withdraw, if_neg hid, if_pos hair]

theorem withdraw_queued (hid : id ≠ 0) (hair : onAirId s ≠ some id) (hqueued : queued id s.messages.queue = true) :
    withdraw id s =
      { state := { s with messages.queue := s.messages.queue.filter (fun x => x.id != id) }
        result := .done, detail := 0 } := by
  rw [withdraw, if_neg hid, if_neg hair, if_pos hqueued]

theorem withdraw_unknown (h : id = 0 ∨ (onAirId s ≠ some id ∧ queued id s.messages.queue = false)) :
    withdraw id s = { state := s, result := .range, detail := 0 } := by
  rcases h with rfl | ⟨hair, hqueued⟩
  · rfl
  · rw [withdraw, if_neg hair, hqueued]
    exact ite_self _

end

/-- Settles O49: the record is found on air, in the queue, or not at all. -/
theorem messageWithdrawRemovesTheRecord : Obligations.MessageWithdrawRemovesTheRecord := by
  intro s tag id hbypass q onAir
  have hzero : id.toNat = 0 ↔ id = 0 := by bv_omega
  have hair : onAirId s = some id.toNat ↔ onAir := onAirId_iff s id.toNat
  rw [exec_messageWithdraw hbypass, shortCue]
  refine ⟨fun h => ?_, fun hid hoff hqueued => ?_, fun hid hon => ⟨settleAir true { s with messages.onAir := none }, ?_, ?_⟩⟩
  · rw [withdraw_unknown (h.imp hzero.2 fun hnone => ⟨mt hair.1 hnone.1, queued_eq_false hnone.2⟩)]
  · rw [withdraw_queued (mt hzero.1 hid) (mt hair.1 hoff) ((queued_iff _ _).2 hqueued)]
  · rw [withdraw_onAir (mt hzero.1 hid) (hair.2 hon)]
  · let off : State := { s with messages.onAir := none }
    show (q = [] ∨ messageZone s = none ∨ s.alert.state = .onAir →
        Reported _ off (airChanged (putOnAirIn (messageZone s) off)))
      ∧ ∀ m rest z, q = m :: rest → messageZone s = some z → z.h = m.height → s.alert.state ≠ .onAir →
        Reported _ _ (airChanged (putOnAirIn (messageZone s) off))
    refine ⟨fun hidle => ?_, fun m rest z hqueue hzone hheight halert => ?_⟩
    · have hkept : putOnAirIn (messageZone s) off = off := by
        rcases hidle with hempty | hzone | halert
        · exact putOnAirIn_empty hempty
        · exact putOnAirIn_idle (.inr (.inl hzone))
        · exact putOnAirIn_idle (.inr (.inr (by simpa [alertOnAir] using halert)))
      rw [hkept]
      exact airChanged_reported off
    · rw [hzone, putOnAirIn_head (s := off) rfl halert hqueue hheight.symm]
      exact airChanged_reported _

/-! ### The alert's entry (R172) -/

theorem returnToQueue_some {s : State} {o : OnAir} (h : s.messages.onAir = some o)
    (hroom : s.messages.queue.length < 16) :
    returnToQueue s = { s with messages := { s.messages with
      queue := insertHead o.msg s.messages.queue, onAir := none } } := by
  rw [returnToQueue, h]
  dsimp only
  rw [joinQueue_fits (by rw [insertHead_length]; exact hroom)]

/-- R119: what the alert's entry does to a clip. -/
theorem alertHold_eq (c : Option Clip) : c.map alertHold = c.map (fun c =>
    if c.state = .playing ∨ c.state = .guarded then { c with state := .held, chase := none, heldByAlert := true }
    else c) := rfl

/-- The state that the entry's message work finds. -/
def entryHeld (u : State) : State := alertHoldsClip (raise .alertOnAir { u with alert.state := .onAir })

theorem alertEntry_eq (u : State) : alertEntry u = rebuildWatch (recomputeDuty (alertReturnsMessage (entryHeld u))) := rfl

theorem alertReturnsMessage_off {s : State} (h : s.messages.onAir = none) : alertReturnsMessage s = s := by
  rw [alertReturnsMessage, h]
  rfl

theorem alertReturnsMessage_some {s : State} {o : OnAir} (h : s.messages.onAir = some o) :
    alertReturnsMessage s = airChanged (returnToQueue s) := by
  rw [alertReturnsMessage, h]
  rfl

theorem returnToQueue_zones (s : State) : (returnToQueue s).sweep.zones = s.sweep.zones := by
  rw [returnToQueue]
  split
  · rw [joinQueue]
    dsimp only
    split <;> rfl
  · rfl

/-- R165: the MESSAGE zone is bumped exactly where a record leaves the air. -/
theorem alertReturnsMessage_bumps (s : State) :
    Bumps (fun z => z.role = .message ∧ s.messages.onAir ≠ none) s.sweep.zones (alertReturnsMessage s).sweep.zones := by
  cases hair : s.messages.onAir with
  | none =>
    rw [alertReturnsMessage_off hair]
    exact bumps_refl fun z _ _ h => h.2 rfl
  | some o =>
    rw [alertReturnsMessage_some hair, ← returnToQueue_zones]
    exact bumps_congr (bumps_map isMessage_iff _) fun z => ⟨fun h => ⟨h, nofun⟩, And.left⟩

theorem alertEntry_entered (u : State) : AlertEntered u (alertEntry u) := by
  have hwithin := alertEntry_within u
  have hreturned := alertReturnsMessage_within (entryHeld u)
  have hstate : (alertReturnsMessage (entryHeld u)).alert.state = .onAir := hreturned .alertState (by decide)
  have hbrightness : (alertReturnsMessage (entryHeld u)).brightness = u.brightness :=
    (congrArg State.brightness hreturned.eq_merge).trans rfl
  have hreplay : (alertReturnsMessage (entryHeld u)).replay = (entryHeld u).replay :=
    (congrArg State.replay hreturned.eq_merge).trans rfl
  refine ⟨?alert, ?flag, hreplay, ?off, fun hair => ?kept, fun o hair hroom => ?returned, ?duty, ?bumps, ?rest⟩
  case alert =>
    have halert : (alertReturnsMessage (entryHeld u)).alert = { u.alert with state := .onAir } :=
      (congrArg State.alert hreturned.eq_merge).trans rfl
    exact halert
  case flag =>
    have hraised : flagUp .alertOnAir (alertReturnsMessage (entryHeld u)) = flagUp .alertOnAir (entryHeld u) :=
      (hreturned (.flag .alertOnAir) (by decide)).1
    exact hraised.trans (by rw [show flagUp .alertOnAir (entryHeld u) = _ from flagUp_raise _ _ _]; rfl)
  case off =>
    show (alertReturnsMessage (entryHeld u)).messages.onAir = none
    cases hair : (entryHeld u).messages.onAir with
    | none => rw [alertReturnsMessage_off hair, hair]
    | some o =>
      rw [alertReturnsMessage_some hair]
      exact returnToQueue_onAir _
  case kept =>
    show (alertReturnsMessage (entryHeld u)).messages = u.messages
    rw [alertReturnsMessage_off (s := entryHeld u) hair]
    rfl
  case returned =>
    obtain ⟨x, y, hqueue, hx, hy, hinsert⟩ := insertHead_split o.msg u.messages.queue
    refine ⟨x, y, hqueue, hx, hy, ?_⟩
    show (alertReturnsMessage (entryHeld u)).messages = _
    rw [alertReturnsMessage_some (s := entryHeld u) hair, returnToQueue_some (s := entryHeld u) hair hroom, ← hinsert]
    rfl
  case duty =>
    have honAir : alertOnAir (alertReturnsMessage (entryHeld u)) = true := by rw [alertOnAir, hstate]; rfl
    show ({ (alertReturnsMessage (entryHeld u)).brightness with
      effective := dutyOf (alertReturnsMessage (entryHeld u)).brightness (alertOnAir (alertReturnsMessage (entryHeld u))) } :
        BrightnessGovernor) = _
    rw [hbrightness, honAir]
    simp only [dutyOf, thermalLimit, Bool.or_eq_true, beq_iff_eq, if_true]
    rfl
  case bumps => exact alertReturnsMessage_bumps (entryHeld u)
  case rest =>
    exact hwithin.eq_merge.trans (congrArg (fun t : State => { u with
      alert := t.alert, replay := t.replay, messages := t.messages, brightness := t.brightness
      status := { u.status with flags := t.status.flags }
      decoder := { u.decoder with latches := t.decoder.latches }
      sweep := { u.sweep with zones := t.sweep.zones }
      path := { u.path with watch := t.path.watch } }) hwithin.eq_merge).symm

/-! ### The venue alert line (R169) -/

theorem alertSource_entered {s : State} (h : s.alert.state = .releasing) : AlertEntered s (alertSource s) := by
  rw [alertSource, h]
  exact alertEntry_entered s

theorem alertSource_quiet {s : State} (h : s.alert.state = .quiet) :
    alertSource s = { s with alert.state := .engaging } := by
  rw [alertSource, h]

theorem alertSource_standing {s : State} (h : s.alert.state = .engaging ∨ s.alert.state = .onAir) :
    alertSource s = s := by
  rcases h with h | h <;> rw [alertSource, h]

section
variable {s : State}

theorem venueFoundAsserted_latched (h : s.alert.latch = true) : venueFoundAsserted s = s := by
  rw [venueFoundAsserted, h]
  rfl

theorem venueFoundAsserted_releasing (hlatch : s.alert.latch = false) (h : s.alert.state = .releasing) :
    venueFoundAsserted s = setLatch s := by
  rw [venueFoundAsserted, hlatch, if_neg Bool.false_ne_true, if_pos h]

theorem venueFoundAsserted_timed (hlatch : s.alert.latch = false) (hstate : s.alert.state ≠ .releasing)
    (h : s.alert.debounce ≠ none) : venueFoundAsserted s = s := by
  rw [venueFoundAsserted, hlatch, if_neg Bool.false_ne_true, if_neg hstate, if_pos (Option.isSome_iff_ne_none.2 h)]

theorem venueFoundAsserted_loads (hlatch : s.alert.latch = false) (hstate : s.alert.state ≠ .releasing)
    (h : s.alert.debounce = none) : venueFoundAsserted s = { s with alert.debounce := some 100 } := by
  rw [venueFoundAsserted, hlatch, if_neg Bool.false_ne_true, if_neg hstate, h]
  rfl

theorem expireDebounce_last (hlatch : s.alert.latch = false) (hline : s.pins.venue = true)
    (htimer : s.alert.debounce = some 1) : expireDebounce s = setLatch s := by
  simp [expireDebounce, stepDebounce, hlatch, hline, htimer]

end

theorem exec_venueAlertLineAsserted {s : State} (h : s.bypass = false) :
    exec .venueAlertLineAsserted s = .next (venueAsserts s) :=
  congrArg Host.Outcome.next (if_neg (by rw [h]; decide))

theorem exec_venueAlertLineDeasserted {s : State} (h : s.bypass = false) :
    exec .venueAlertLineDeasserted s = .next (venueDeasserts s) :=
  congrArg Host.Outcome.next (if_neg (by rw [h]; decide))

theorem exec_debounceExpiry {s : State} (h : s.bypass = false) : exec .debounceExpiry s = .next (expireDebounce s) :=
  congrArg _ (outOfBypass_out h)

/-- Settles O53: the line's rows, and the timer's last event. -/
theorem venueLineIsDebounced : Obligations.VenueLineIsDebounced := by
  intro s level timed
  refine ⟨fun hbypass => ⟨congrArg _ (if_pos hbypass), congrArg _ (if_pos hbypass)⟩, fun hbypass => ?_⟩
  rw [exec_venueAlertLineAsserted hbypass, exec_venueAlertLineDeasserted hbypass, exec_debounceExpiry hbypass]
  refine ⟨rfl, fun h => ?_, fun hlatch hstate htimer => ?_, fun hlatch hstate => ⟨setLatch (level true), ?_, ?_⟩,
    fun hlatch hline htimer => ?_⟩
  · cases hlatch : s.alert.latch with
    | true => exact congrArg _ (venueFoundAsserted_latched (s := level true) hlatch)
    | false =>
      obtain ⟨hstate, htimer⟩ := h.resolve_left (by rw [hlatch]; decide)
      exact congrArg _ (venueFoundAsserted_timed (s := level true) hlatch hstate htimer)
  · exact congrArg _ (venueFoundAsserted_loads (s := level true) hlatch hstate htimer)
  · exact congrArg _ (venueFoundAsserted_releasing (s := level true) hlatch hstate)
  · exact alertSource_entered (s := { level true with alert := { s.alert with latch := true, debounce := none } }) hstate
  · intro latched
    rw [expireDebounce_last hlatch hline htimer]
    refine ⟨fun hstate => ?_, fun hstate => ?_, fun hstate => ⟨_, rfl, ?_⟩⟩
    · exact congrArg _ (alertSource_quiet (s := { s with alert := latched }) hstate)
    · exact congrArg _ (alertSource_standing (s := { s with alert := latched }) hstate)
    · exact alertSource_entered (s := { s with alert := latched }) hstate

end Sys2Proof.Proofs
end

section
/-! PROOFS. ALERT RAISE, ALERT CLEAR and ALERT STANDING SET (R170, R171, R173), with the release that lets a record back
on the air. -/

namespace Sys2Proof.Proofs

open Sys2Proof.Machine Sys2Proof.Safety

theorem exec_alertRaise {s : State} (h : s.bypass = false) (tag : Half) (addr : Quad) :
    exec (.alertRaise tag addr) s = .next (shortCue tag 0x51 (withAddress true addr (alertRaise addr.toNat)) s) :=
  congrArg _ (outOfBypass_out h)

theorem exec_alertClear {s : State} (h : s.bypass = false) (tag : Half) :
    exec (.alertClear tag) s = .next (shortCue tag 0x52 alertClear s) :=
  congrArg _ (outOfBypass_out h)

theorem exec_alertStandingSet {s : State} (h : s.bypass = false) (tag : Half) (present : Byte) (addr : Quad)
    (colour : Pixel) : exec (.alertStandingSet tag present addr colour) s = .next
      (shortCue tag 0x50 (withAddress (present != 0) addr (alertStandingSet present addr.toNat colour)) s) :=
  congrArg _ (outOfBypass_out h)

/-! ### An address operand (R47) -/

theorem withAddress_below {a : Quad} (h : a.toNat < 0x400000000) (checked : Bool) (owner : State → PostOutcome)
    (s : State) : withAddress checked a owner s = owner s := by
  rw [withAddress, (addressOk_iff a).2 h, Bool.not_true, Bool.and_false]
  rfl

theorem withAddress_unread (a : Quad) (owner : State → PostOutcome) (s : State) :
    withAddress false a owner s = owner s := rfl

theorem withAddress_beyond {a : Quad} (h : 0x400000000 ≤ a.toNat) (owner : State → PostOutcome) (s : State) :
    withAddress true a owner s = refusal .range s := by
  have hbad : addressOk a = false := Bool.eq_false_iff.2 fun hok => Nat.not_lt.2 h ((addressOk_iff a).1 hok)
  rw [withAddress, hbad]
  rfl

/-- An address that the owner refuses RANGE, where the Cue Decoder does not. -/
theorem withAddress_refused {a : Quad} {owner : State → PostOutcome} {s : State}
    (h : a.toNat < 0x400000000 → owner s = { state := s, result := .range, detail := 0 }) :
    withAddress true a owner s = { state := s, result := .range, detail := 0 } := by
  rcases Nat.lt_or_ge a.toNat 0x400000000 with hlt | hge
  · rw [withAddress_below hlt, h hlt]
  · exact withAddress_beyond hge owner s

/-! ### ALERT RAISE -/

section
variable {addr : Nat} {s : State}

theorem lineAligned_eq_false {a : Nat} (h : a % 64 ≠ 0) : lineAligned a = false :=
  Bool.eq_false_iff.2 (mt (lineAligned_iff a).1 h)

theorem fits_eq_false {a n : Nat} (h : ¬ a + n ≤ 0x400000000) : fits a n = false :=
  Bool.eq_false_iff.2 (mt (fits_iff a n).1 h)

theorem alertRaise_misaligned (h : addr % 64 ≠ 0) : alertRaise addr s = { state := s, result := .range, detail := 0 } := by
  rw [alertRaise, lineAligned_eq_false h]
  rfl

theorem alertRaise_noLayout (h : addr % 64 = 0) (hheader : s.sweep.header = none) :
    alertRaise addr s = { state := s, result := .geometry, detail := 0 } := by
  rw [alertRaise, (lineAligned_iff addr).2 h, hheader]
  rfl

theorem alertRaise_beyond {hd : ScreenHeader} (h : addr % 64 = 0) (hheader : s.sweep.header = some hd)
    (hfits : ¬ addr + hd.width * hd.height * 4 ≤ 0x400000000) :
    alertRaise addr s = { state := s, result := .range, detail := 0 } := by
  have hbad : fits addr (rasterBytes hd.width hd.height) = false := fits_eq_false hfits
  rw [alertRaise, (lineAligned_iff addr).2 h, hheader]
  dsimp only
  rw [hbad]
  rfl

theorem alertRaise_taken {hd : ScreenHeader} (h : addr % 64 = 0) (hheader : s.sweep.header = some hd)
    (hfits : addr + hd.width * hd.height * 4 ≤ 0x400000000) :
    alertRaise addr s =
      { state := alertSource { s with alert := { s.alert with
          raised := some { raster := addr, width := hd.width, height := hd.height } } }
        result := .done, detail := 0 } := by
  have hok : fits addr (rasterBytes hd.width hd.height) = true := (fits_iff _ _).2 hfits
  rw [alertRaise, (lineAligned_iff addr).2 h, hheader]
  dsimp only
  rw [hok]
  rfl

end

/-! ### ALERT CLEAR -/

section
variable {s : State}

theorem alertClear_quiet (h : s.alert.state = .quiet) :
    alertClear s = { state := s, result := .wrongState, detail := 0 } := by
  rw [alertClear, h]

theorem alertClear_line (h : s.alert.state ≠ .quiet) (hline : s.pins.venue = true) :
    alertClear s = { state := s, result := .lineActive, detail := 0 } := by
  rw [alertClear]
  cases hstate : s.alert.state
  · exact (h hstate).elim
  · exact if_pos hline
  · exact if_pos hline
  · exact if_pos hline

theorem alertClear_engaging (h : s.alert.state = .engaging) (hline : s.pins.venue = false) :
    alertClear s =
      { state := { s with alert := { s.alert with state := .quiet, latch := false, raised := none } }
        result := .done, detail := 0 } := by
  rw [alertClear, h]
  exact if_neg (by rw [hline]; decide)

theorem alertClear_releasing (h : s.alert.state = .releasing) (hline : s.pins.venue = false) :
    alertClear s = { state := s, result := .done, detail := 0 } := by
  rw [alertClear, h]
  exact if_neg (by rw [hline]; decide)

theorem alertClear_onAir (h : s.alert.state = .onAir) (hline : s.pins.venue = false) :
    alertClear s = { state := releaseAlert s, result := .done, detail := 0 } := by
  rw [alertClear, h]
  exact if_neg (by rw [hline]; decide)

end

/-- The state that the release's choice of R159 finds. -/
def released (s : State) : State :=
  recomputeDuty { s with alert.state := .releasing, alert.latch := false, alert.raised := none, alert.chosen := none }

theorem releaseAlert_eq (s : State) : releaseAlert s = rebuildWatch (settleAir false (released s)) := rfl

theorem released_brightness (s : State) : (released s).brightness = { s.brightness with
    effective :=
      if s.brightness.state = .hold ∨ s.brightness.state = .cooling then
        min s.brightness.requested s.brightness.thermal
      else s.brightness.requested } := by
  show ({ s.brightness with effective := dutyOf s.brightness false } : BrightnessGovernor) = _
  simp only [dutyOf, thermalLimit, Bool.or_eq_true, beq_iff_eq, Bool.false_eq_true, if_false]

/-- A choice of R159 bumps the MESSAGE zone exactly where a record comes on air. -/
theorem settleAir_bumps (s : State) :
    Bumps (fun z => z.role = .message ∧ s.messages.onAir = none ∧ (settleAir false s).messages.onAir ≠ none)
      s.sweep.zones (settleAir false s).sweep.zones := by
  have hzones : (putOnAirIn (messageZone s) s).sweep.zones = s.sweep.zones :=
    (putOnAirIn_within (messageZone s) s).zones_eq rfl
  rw [settleAir]
  by_cases hchosen : s.messages.onAir = none ∧ (putOnAirIn (messageZone s) s).messages.onAir ≠ none
  · obtain ⟨hoff, hon⟩ := hchosen
    rw [settleAirIn_chosen hoff rfl (Option.isSome_iff_ne_none.2 hon) false, ← hzones]
    exact bumps_congr (bumps_map isMessage_iff _) fun z => ⟨fun h => ⟨h, hoff, hon⟩, And.left⟩
  · have hkept : settleAirIn (messageZone s) false s = putOnAirIn (messageZone s) s := by
      rw [settleAirIn]
      refine if_neg fun hleft => hchosen ?_
      rw [Bool.false_or, Bool.and_eq_true, Option.isNone_iff_eq_none, Option.isSome_iff_ne_none] at hleft
      exact hleft
    rw [hkept, hzones]
    exact bumps_refl fun z _ _ hbumped => hchosen hbumped.2

/-- Settles O51, row by row. -/
theorem alertCuesFollowTheirTables : Obligations.AlertCuesFollowTheirTables := by
  intro s tag hbypass
  rw [exec_alertClear hbypass]
  refine ⟨fun addr => ?raise, fun h => ?_, fun h hline => ?_, fun h hline => ?_, fun h hline => ?_, fun h hline => ?onAir,
    fun present addr colour => ?standing⟩
  case raise =>
    intro fits
    rw [exec_alertRaise hbypass]
    refine ⟨fun hbad => ?_, fun haligned hbelow => ⟨fun hheader => ?_, fun hd hheader => ⟨fun hfits => ?_, fun hfits => ?_⟩⟩⟩
    · rw [shortCue, withAddress_refused fun hbelow =>
        alertRaise_misaligned (hbad.resolve_right (Nat.not_le.2 hbelow))]
    all_goals rw [shortCue, withAddress_below hbelow]
    · rw [alertRaise_noLayout haligned hheader]
    · rw [alertRaise_beyond haligned hheader hfits]
    · rw [alertRaise_taken haligned hheader hfits]
      intro raised
      refine ⟨fun hstate => ?_, fun hstate => ?_, fun hstate => ⟨_, rfl, ?_⟩⟩
      · rw [alertSource_quiet (s := { s with alert := raised }) hstate]
      · rw [alertSource_standing (s := { s with alert := raised }) hstate]
      · exact alertSource_entered (s := { s with alert := raised }) hstate
  · rw [shortCue, alertClear_quiet h]
  · rw [shortCue, alertClear_line h hline]
  · rw [shortCue, alertClear_engaging h hline]
  · rw [shortCue, alertClear_releasing h hline]
  case onAir =>
    rw [shortCue, alertClear_onAir h hline]
    have hwithin := releaseAlert_within s
    have hsettled := settleAir_within false (released s)
    have halert : (settleAir false (released s)).alert = (released s).alert :=
      (congrArg State.alert hsettled.eq_merge).trans rfl
    have hbrightness : (settleAir false (released s)).brightness = (released s).brightness :=
      (congrArg State.brightness hsettled.eq_merge).trans rfl
    refine ⟨releaseAlert s, rfl, halert, hbrightness.trans (released_brightness s), fun hempty => ?_,
      fun m rest z hair hqueue hzone hheight => ?_, settleAir_bumps (released s), ?_⟩
    · show (settleAir false (released s)).messages = s.messages
      rw [settleAir, settleAirIn_kept (putOnAirIn_empty (s := released s) hempty)]
      rfl
    · show (settleAir false (released s)).messages = _
      have hput := putOnAirIn_head (s := released s) (z := z) hair (nofun : AlertState.releasing ≠ .onAir) hqueue hheight.symm
      rw [settleAir, show messageZone (released s) = some z from hzone, settleAirIn_chosen (s := released s) hair hput rfl]
      rfl
    · exact hwithin.eq_merge.trans (congrArg (fun t : State => { s with
        alert := t.alert, brightness := t.brightness, messages := t.messages
        status := { s.status with flags := t.status.flags }
        decoder := { s.decoder with latches := t.decoder.latches }
        sweep := { s.sweep with zones := t.sweep.zones }
        path := { s.path with watch := t.path.watch } }) hwithin.eq_merge).symm
  case standing =>
    intro taken
    rw [exec_alertStandingSet hbypass]
    refine ⟨fun hpresent => ?_, fun hpresent haligned hbelow => ?_, fun hbad => ?_⟩
    · subst hpresent
      rfl
    · subst hpresent
      rw [shortCue, withAddress_below hbelow, alertStandingSet, (lineAligned_iff _).2 haligned]
      rfl
    · have hzero : present ≠ 0 := by
        rintro rfl
        rcases hbad with h | h
        · exact absurd h (by decide)
        · exact absurd h.1 (by decide)
      rw [shortCue, show (present != 0) = true from bne_iff_ne.2 hzero, withAddress_refused fun hbelow => ?_]
      have hrefused : ¬ (present = 1 ∧ lineAligned addr.toNat = true) := fun ⟨hone, haligned⟩ => by
        rcases hbad with h | ⟨_, h | h⟩
        · rw [hone] at h
          exact absurd h (by decide)
        · exact h ((lineAligned_iff _).1 haligned)
        · omega
      rw [alertStandingSet, if_neg hzero, if_neg hrefused]

end Sys2Proof.Proofs
end

section
/-! PROOFS. MESSAGE POST (R155 to R158, R163): the field checks, the checks of a post, and where its record goes. -/

namespace Sys2Proof.Proofs

open Sys2Proof.Machine Sys2Proof.Safety

/-! ### The field checks -/

theorem messageOk_iff (op : MessageOperand) : messageOk op = true ↔ MessageFieldsOk op := by
  have hid : op.id ≠ 0 ↔ 1 ≤ op.id.toNat := by bv_omega
  have hzero : op.mode = 0 ↔ op.mode.toNat = 0 := by bv_omega
  have hone : op.mode = 1 ↔ op.mode.toNat = 1 := by bv_omega
  simp only [messageOk, MessageFieldsOk, Bool.and_eq_true, bne_iff_ne, decide_eq_true_eq, sizeOk_iff, lineAligned_iff,
    fits_iff, rasterBytes, hid, hzero, hone, and_assoc]
  generalize op.mode.toNat = mode
  match mode with
  | 0 => simp
  | 1 => simp [and_assoc]
  | n + 2 => simp

theorem address_of_messageFieldsOk {op : MessageOperand} (h : MessageFieldsOk op) : op.addr.toNat < 0x400000000 := by
  obtain ⟨_, _, _, _, hwidth, _, _, hheight, _, _, _, _, _, hfits⟩ := h
  have hsize : 0 < op.width.toNat * op.height.toNat := Nat.mul_pos (by omega) (by omega)
  omega

theorem exec_messagePost {s : State} (h : s.bypass = false) (tag : Half) (op : MessageOperand) :
    exec (.messagePost tag op) s = .next (shortCue tag 0x40 (withAddress true op.addr (postOperand op)) s) :=
  congrArg _ (outOfBypass_out h)

/-! ### The checks of a post -/

theorem heightMismatch_none {m : Message} {s : State} (h : ∀ z, messageZone s = some z → z.h = m.height) :
    heightMismatch m s = none := by
  rw [heightMismatch]
  split
  · next z hz => exact if_pos (h z hz)
  · rfl

theorem heightMismatch_some {m : Message} {s : State} {z : ZoneRec} (hz : messageZone s = some z) (h : z.h ≠ m.height) :
    heightMismatch m s = some z.id := by
  rw [heightMismatch, hz]
  exact if_neg h

/-- R163: the record is of priority 3, and one of lower priority is on air. -/
def Preempting (m : Message) (s : State) : Prop := m.priority = 3 ∧ ∃ o, s.messages.onAir = some o ∧ o.msg.priority < 3

/-- R156: the record finds the queue full of records of its class or above. -/
def Overflowing (m : Message) (s : State) : Prop :=
  ¬ (∃ x ∈ s.messages.queue, x.id = m.id) ∧ 16 ≤ s.messages.queue.length
    ∧ (∀ x ∈ s.messages.queue, m.priority ≤ x.priority) ∧ ¬ Preempting m s

theorem preempts_iff_preempting (m : Message) (s : State) : preempts m s = true ↔ Preempting m s := by
  rw [preempts, Preempting]
  cases s.messages.onAir <;> simp

theorem postOverflows_iff (m : Message) (s : State) : postOverflows m s = true ↔ Overflowing m s := by
  simp only [postOverflows, Overflowing, Bool.and_eq_true, Bool.not_eq_true', ← Bool.not_eq_true, queued_iff,
    decide_eq_true_eq, List.all_eq_true, preempts_iff_preempting, and_assoc]
  rfl

/-- The request for the entry of a message's sponsor, 0 asking for none. -/
def sponsorRequest (sponsor : Nat) (t : List ExposureEntry) : Option (List ExposureEntry) :=
  if sponsor = 0 then some t else requestEntry sponsor t

theorem post_checked {m : Message} {s : State} (hheight : heightMismatch m s = none) (hid : onAirId s ≠ some m.id)
    (hroom : postOverflows m s = false) :
    post m s = match sponsorRequest m.sponsor s.exposure.entries with
      | none => { state := s, result := .tableFull, detail := 0 }
      | some t =>
        { state := placePost m { s with exposure.entries := t }, result := .done
          detail := ((postEvicts m s).map (·.id)).getD 0 } := by
  rw [post, hheight]
  dsimp only
  rw [if_neg hid, hroom, if_neg Bool.false_ne_true]
  rfl

/-- A request that is not refused leaves a table as R144 gives. -/
theorem requestEntry_requested {id : Nat} {t : List ExposureEntry}
    (ht : t.Pairwise (fun a b => a.sponsor < b.sponsor)) (h : ¬ ((∀ e ∈ t, e.sponsor ≠ id) ∧ 64 ≤ t.length)) :
    ∃ u, EntryRequested id t u := by
  by_cases hknown : ∃ e ∈ t, e.sponsor = id
  · exact ⟨t, fun _ => rfl, fun hnew => hknown.elim fun e he => (hnew e he.1 he.2).elim⟩
  · have hnew : ∀ e ∈ t, e.sponsor ≠ id := fun e he hid => hknown ⟨e, he, hid⟩
    obtain ⟨x, y, rfl, hx, hy⟩ := exists_split_at id ht hnew
    exact ⟨_, fun hk => (hknown hk).elim, fun _ => ⟨Nat.lt_of_not_le fun hfull => h ⟨hnew, hfull⟩, x, y, rfl, hx, hy, rfl⟩⟩

/-! ### The place of a record -/

section
variable {m : Message} {s : State}

theorem settleAir_standing (h : s.messages.onAir ≠ none ∨ messageZone s = none ∨ s.alert.state = .onAir) :
    settleAir false s = s :=
  settleAirIn_kept (putOnAirIn_idle (h.imp Option.isSome_iff_ne_none.2 (Or.imp id fun hair => by
    rw [alertOnAir, hair]
    rfl)))

theorem placePost_replaces (hpreempt : ¬ Preempting m s) (hqueued : ∃ x ∈ s.messages.queue, x.id = m.id)
    (hstands : s.messages.onAir ≠ none ∨ messageZone s = none ∨ s.alert.state = .onAir) :
    placePost m s = { s with messages := { s.messages with queue := replaceQueued m s.messages.queue } } := by
  rw [placePost, if_neg (mt (preempts_iff_preempting m s).1 hpreempt), if_pos ((queued_iff _ _).2 hqueued)]
  exact settleAir_standing (s := { s with messages.queue := replaceQueued m s.messages.queue }) hstands

theorem placePost_joins (hpreempt : ¬ Preempting m s) (hnew : ¬ ∃ x ∈ s.messages.queue, x.id = m.id) :
    placePost m s = settleAir false (joinQueue (insertTail m s.messages.queue) s) := by
  rw [placePost, if_neg (mt (preempts_iff_preempting m s).1 hpreempt), if_neg (mt (queued_iff _ _).1 hnew)]

theorem filter_unqueued (hnew : ¬ ∃ x ∈ s.messages.queue, x.id = m.id) :
    s.messages.queue.filter (fun x => x.id != m.id) = s.messages.queue :=
  List.filter_eq_self.2 fun x hx => bne_iff_ne.2 fun hid => hnew ⟨x, hx, hid⟩

theorem placePost_preempts {o : OnAir} (hpreempt : Preempting m s) (hnew : ¬ ∃ x ∈ s.messages.queue, x.id = m.id)
    (hair : s.messages.onAir = some o) (hroom : s.messages.queue.length < 16) :
    placePost m s = airChanged { s with messages := { s.messages with
      queue := insertHead o.msg s.messages.queue, onAir := some { msg := m, showing := .notStarted } } } := by
  rw [placePost, if_pos ((preempts_iff_preempting m s).2 hpreempt)]
  dsimp only
  rw [filter_unqueued hnew, returnToQueue_some (s := { s with messages.queue := s.messages.queue }) hair hroom]

theorem replaceQueued_same (h : ∃ x ∈ s.messages.queue, x.id = m.id ∧ x.priority = m.priority) :
    replaceQueued m s.messages.queue = s.messages.queue.map (fun x => if x.id = m.id then m else x) := by
  refine if_pos ?_
  obtain ⟨x, hx, hid, hpriority⟩ := h
  exact List.any_eq_true.2 ⟨x, hx, by rw [hid, hpriority]; simp⟩

theorem replaceQueued_other (h : ∀ x ∈ s.messages.queue, x.id = m.id → x.priority ≠ m.priority) :
    replaceQueued m s.messages.queue = insertTail m (s.messages.queue.filter (fun x => x.id != m.id)) := by
  refine if_neg fun hsame => ?_
  obtain ⟨x, hx, hboth⟩ := List.any_eq_true.1 hsame
  rw [Bool.and_eq_true, beq_iff_eq, beq_iff_eq] at hboth
  exact h x hx hboth.1 hboth.2

/-! The record evicted, for the detail of the result. -/

theorem postEvicts_queued (h : ∃ x ∈ s.messages.queue, x.id = m.id) : postEvicts m s = none :=
  if_pos ((queued_iff _ _).2 h)

theorem postEvicts_joins (hpreempt : ¬ Preempting m s) (hnew : ¬ ∃ x ∈ s.messages.queue, x.id = m.id) :
    postEvicts m s = (evict (insertTail m s.messages.queue)).2 :=
  (if_neg (mt (queued_iff _ _).1 hnew)).trans (if_neg (mt (preempts_iff_preempting m s).1 hpreempt))

theorem postEvicts_preempts {o : OnAir} (hpreempt : Preempting m s) (hnew : ¬ ∃ x ∈ s.messages.queue, x.id = m.id)
    (hair : s.messages.onAir = some o) (hroom : s.messages.queue.length < 16) : postEvicts m s = none := by
  rw [postEvicts, if_neg (mt (queued_iff _ _).1 hnew), if_pos ((preempts_iff_preempting m s).2 hpreempt), hair]
  dsimp only
  rw [evict, if_neg]
  rw [insertHead_length]
  exact Nat.not_lt.2 hroom

end

/-- The tail of a class, in a queue of falling classes. -/
theorem insertTail_tail (m : Message) {q : List Message} (hq : q.Pairwise (fun a b => b.priority ≤ a.priority)) :
    ∃ x y, q = x ++ y ∧ (∀ a ∈ x, m.priority ≤ a.priority) ∧ (∀ a ∈ y, a.priority < m.priority)
      ∧ insertTail m q = x ++ m :: y := by
  obtain ⟨x, y, rfl, hx, hy, hinsert⟩ := insertTail_split m q
  have hylow : ∀ a ∈ y, a.priority ≤ m.priority - 1 :=
    forall_mem_of_head? (List.pairwise_append.1 hq).2.1 fun a ha => Nat.le_sub_one_of_lt (hy a ha)
  refine ⟨x, y, rfl, hx, fun a ha => ?_, hinsert⟩
  have hpositive : 0 < m.priority := by
    cases y with
    | nil => exact (List.not_mem_nil ha).elim
    | cons b y => exact Nat.zero_lt_of_lt (hy b rfl)
  exact Nat.lt_of_le_sub_one hpositive (hylow a ha)

theorem exists_mem_id_iff (q : List Message) (id : Nat) : (¬ ∃ x ∈ q, x.id = id) ↔ ∀ x ∈ q, x.id ≠ id := by
  simp

/-- A post whose entry is granted: where the record goes, case by case. -/
theorem placePost_places {m : Message} {u : State} (hqueue : MessagesOrdered u) (hroom : ¬ Overflowing m u)
    (hheight : ∀ z, messageZone u = some z → z.h = m.height) :
    let q := u.messages.queue
    let isQueued : Prop := ∃ x ∈ q, x.id = m.id
    let detail := ((postEvicts m u).map (·.id)).getD 0
    let airStands : Prop := u.messages.onAir ≠ none ∨ messageZone u = none ∨ u.alert.state = .onAir
    let tailOf (l l' : List Message) : Prop := ∃ x y, l = x ++ y ∧ (∀ a ∈ x, m.priority ≤ a.priority)
      ∧ (∀ a ∈ y, a.priority < m.priority) ∧ l' = x ++ m :: y
    let placed (d : Nat) (t : State) : Prop := detail = d ∧ placePost m u = t
    (airStands → ¬ Preempting m u → isQueued →
      ((∃ x ∈ q, x.id = m.id ∧ x.priority = m.priority) → placed 0
        { u with messages := { u.messages with queue := q.map (fun x => if x.id = m.id then m else x) } })
      ∧ ((∀ x ∈ q, x.id = m.id → x.priority ≠ m.priority) →
        ∃ l, tailOf (q.filter (fun x => x.id != m.id)) l
          ∧ placed 0 { u with messages := { u.messages with queue := l } }))
    ∧ (airStands → ¬ Preempting m u → ¬ isQueued → ∃ l, tailOf q l
      ∧ (q.length < 16 → placed 0 { u with messages := { u.messages with queue := l } })
      ∧ (∀ gone, q.length = 16 → q.getLast? = some gone → placed gone.id (raise .messageEvicted
          { u with messages := { u.messages with queue := l.dropLast, lastGone := gone.id } })))
    ∧ (∀ o, Preempting m u → ¬ isQueued → u.messages.onAir = some o → q.length < 16 →
      ∃ x y t, q = x ++ y ∧ (∀ a ∈ x, o.msg.priority < a.priority) ∧ (∀ a ∈ y, a.priority ≤ o.msg.priority)
        ∧ placed 0 t
        ∧ Reported (fun z => z.role = .message)
            { u with messages := { u.messages with
                queue := x ++ o.msg :: y, onAir := some { msg := m, showing := .notStarted } } } t)
    ∧ (¬ airStands → q = [] → ∃ t, placed 0 t
      ∧ Reported (fun z => z.role = .message)
          { u with messages := { u.messages with onAir := some { msg := m, showing := .notStarted } } } t) := by
  intro q isQueued detail airStands tailOf placed
  have hfalls : q.Pairwise (fun a b => b.priority ≤ a.priority) := hqueue.2.1.imp And.left
  have hquiet (hqueued : isQueued) : detail = 0 := by simp only [detail, postEvicts_queued hqueued]; rfl
  refine ⟨fun hstands hpreempt hqueued => ⟨fun hsame => ?_, fun hother => ?_⟩, fun hstands hpreempt hnew => ?_,
    fun o hpreempt hnew hair hfree => ?_, fun hfree hempty => ?_⟩
  · refine ⟨hquiet hqueued, ?_⟩
    rw [placePost_replaces hpreempt hqueued hstands, replaceQueued_same hsame]
  · obtain ⟨x, y, hsplit, hx, hy, hinsert⟩ := insertTail_tail m (hfalls.filter (fun x => x.id != m.id))
    refine ⟨_, ⟨x, y, hsplit, hx, hy, rfl⟩, hquiet hqueued, ?_⟩
    rw [placePost_replaces hpreempt hqueued hstands, replaceQueued_other hother, hinsert]
  · obtain ⟨x, y, hsplit, hx, hy, hinsert⟩ := insertTail_tail m hfalls
    have hplace := placePost_joins hpreempt hnew
    have hlength : (x ++ m :: y).length = q.length + 1 := by
      rw [hsplit, List.length_append, List.length_append, List.length_cons, Nat.add_assoc]
    have hdetail : detail = ((evict (x ++ m :: y)).2.map (·.id)).getD 0 := by
      simp only [detail, postEvicts_joins hpreempt hnew]
      rw [show insertTail m u.messages.queue = _ from hinsert]
    rw [show insertTail m u.messages.queue = _ from hinsert] at hplace
    refine ⟨x ++ m :: y, ⟨x, y, hsplit, hx, hy, rfl⟩, fun hfits => ⟨?_, ?_⟩, fun gone hfull hlast => ?_⟩
    · rw [hdetail, evict, if_neg]
      · rfl
      · rw [hlength]
        exact Nat.not_lt.2 hfits
    · rw [hplace, joinQueue_fits (by rw [hlength]; exact hfits)]
      exact settleAir_standing (s := { u with messages := { u.messages with queue := x ++ m :: y } }) hstands
    · have hbelow : y ≠ [] := by
        rintro rfl
        exact hroom ⟨hnew, hfull.ge, fun a ha => hx a (by rwa [← List.append_nil x, ← hsplit]), hpreempt⟩
      have hgone : (x ++ m :: y).getLast? = some gone := by
        rw [← hlast, hsplit, List.getLast?_append_of_ne_nil _ (List.cons_ne_nil m y),
          List.getLast?_append_of_ne_nil _ hbelow, List.getLast?_cons_of_ne_nil hbelow]
      have hover : 16 < (x ++ m :: y).length := by rw [hlength, hfull]; decide
      refine ⟨?_, ?_⟩
      · have hevict : evict (x ++ m :: y) = ((x ++ m :: y).dropLast, some gone) := (if_pos hover).trans (by rw [hgone])
        rw [hdetail, hevict]
        rfl
      · rw [hplace, joinQueue_evicts hover hgone]
        exact settleAir_standing (s := raise .messageEvicted { u with messages := { u.messages with
          queue := (x ++ m :: y).dropLast, lastGone := gone.id } }) hstands
  · obtain ⟨x, y, hsplit, hx, hy, hinsert⟩ := insertHead_split o.msg q
    have hbelow : ∀ a ∈ y, a.priority ≤ o.msg.priority :=
      forall_mem_of_head? (List.pairwise_append.1 (hsplit ▸ hfalls)).2.1 hy
    refine ⟨x, y, _, hsplit, hx, hbelow, ⟨?_, placePost_preempts hpreempt hnew hair hfree⟩, ?_⟩
    · simp only [detail, postEvicts_preempts hpreempt hnew hair hfree]
      rfl
    · rw [← hinsert]
      exact airChanged_reported _
  · obtain ⟨hair, hzone, hoff⟩ : u.messages.onAir = none ∧ messageZone u ≠ none ∧ u.alert.state ≠ .onAir := by
      simpa only [airStands, not_or, not_not, ne_eq] using hfree
    obtain ⟨z, hz⟩ := Option.ne_none_iff_exists'.1 hzone
    have hnew : ¬ ∃ x ∈ u.messages.queue, x.id = m.id := by
      rw [show u.messages.queue = [] from hempty]
      simp
    have hpreempt : ¬ Preempting m u := by
      rintro ⟨_, o, ho, _⟩
      exact nomatch hair.symm.trans ho
    have hinsert : insertTail m u.messages.queue = [m] := by rw [show u.messages.queue = [] from hempty]; rfl
    have hput := putOnAirIn_head (s := { u with messages := { u.messages with queue := [m] } }) hair hoff rfl
      (hheight z hz).symm
    have hplace : placePost m u = airChanged { u with messages := { u.messages with
        queue := [], onAir := some { msg := m, showing := .notStarted } } } := by
      rw [placePost_joins hpreempt hnew, hinsert, joinQueue_fits (by simp : [m].length ≤ 16)]
      refine (congrArg (fun zone => settleAirIn zone false
        { u with messages := { u.messages with queue := [m] } }) hz).trans ?_
      exact settleAirIn_chosen (s := { u with messages := { u.messages with queue := [m] } }) hair hput rfl false
    refine ⟨_, ⟨?_, hplace⟩, ?_⟩
    · simp only [detail, postEvicts_joins hpreempt hnew, hinsert]
      rfl
    · rw [← show u.messages.queue = [] from hempty]
      exact airChanged_reported _

/-- What follows a post's checks: with its sponsor's entry in the table, the record takes its place. -/
theorem post_placed {m : Message} {s : State} {t : List ExposureEntry} (hheight : ∀ z, messageZone s = some z → z.h = m.height)
    (hid : ∀ o, s.messages.onAir = some o → o.msg.id ≠ m.id) (hroom : ¬ Overflowing m s)
    (ht : sponsorRequest m.sponsor s.exposure.entries = some t) :
    post m s = { state := placePost m { s with exposure.entries := t }, result := .done
                 detail := ((postEvicts m s).map (·.id)).getD 0 } := by
  have hair : onAirId s ≠ some m.id := fun h => ((onAirId_iff s m.id).1 h).elim fun o ho => hid o ho.1 ho.2
  rw [post_checked (heightMismatch_none hheight) hair (Bool.eq_false_iff.2 (mt (postOverflows_iff m s).1 hroom)), ht]

/-- Settles O48: the checks of a post one after the other, and the place of a record that passes them. -/
theorem messagePostChecksAndPlaces : Obligations.MessagePostChecksAndPlaces := by
  intro s tag op hbypass hqueue htable m q settledWith heightOk idFree isQueued preempting full refusedEntry passes
    airStands tailOf
  have hexec {r : Result} {d : Nat} {t : State}
      (h : withAddress true op.addr (postOperand op) s = { state := t, result := r, detail := d }) :
      settledWith r d t := by
    refine (exec_messagePost hbypass tag op).trans ?_
    rw [shortCue, h]
  have hsettled {r : Result} {d : Nat} {t : State} (hfields : MessageFieldsOk op)
      (h : post m s = { state := t, result := r, detail := d }) : settledWith r d t :=
    hexec ((withAddress_below (address_of_messageFieldsOk hfields) true (postOperand op) s).trans
      ((if_pos ((messageOk_iff op).2 hfields)).trans h))
  have hfree (h : idFree) : onAirId s ≠ some m.id := fun hair => ((onAirId_iff s m.id).1 hair).elim fun o ho => h o ho.1 ho.2
  have hrequest (h : ¬ refusedEntry) : ∃ t, sponsorRequest m.sponsor s.exposure.entries = some t
      ∧ (m.sponsor = 0 → t = s.exposure.entries)
      ∧ (m.sponsor ≠ 0 → EntryRequested m.sponsor s.exposure.entries t) := by
    by_cases hnone : m.sponsor = 0
    · exact ⟨s.exposure.entries, if_pos hnone, fun _ => rfl, fun hsome => (hsome hnone).elim⟩
    · obtain ⟨t, ht⟩ := requestEntry_requested htable.2 fun hfull => h ⟨hnone, hfull⟩
      exact ⟨t, (if_neg hnone).trans (requestEntry_of_requested ht), fun h0 => (hnone h0).elim, fun _ => ht⟩
  refine ⟨fun hfields => ?_, fun z hfields hz hheight => ?_, fun hfields hheight hair => ?_,
    fun hfields hheight hid hfull => ?_, fun hfields hheight hid hroom hentry => ?_,
    fun ⟨hfields, hheight, hid, hroom, hentry⟩ => ?_⟩
  · exact hexec (withAddress_refused fun _ => if_neg (mt (messageOk_iff op).1 hfields))
  · refine hsettled hfields ?_
    rw [post, heightMismatch_some hz hheight]
  · have hsame : onAirId s = some m.id := by
      obtain ⟨o, ho⟩ := not_forall.1 hair
      obtain ⟨ho, hid⟩ := Classical.not_imp.1 ho
      exact (onAirId_iff s m.id).2 ⟨o, ho, not_not.1 hid⟩
    refine hsettled hfields ?_
    rw [post, heightMismatch_none hheight]
    exact if_pos hsame
  · refine hsettled hfields ?_
    rw [post, heightMismatch_none hheight]
    exact (if_neg (hfree hid)).trans (if_pos ((postOverflows_iff m s).2 hfull))
  · refine hsettled hfields ?_
    rw [post_checked (heightMismatch_none hheight) (hfree hid)
      (Bool.eq_false_iff.2 (mt (postOverflows_iff m s).1 hroom))]
    rw [show sponsorRequest m.sponsor s.exposure.entries = none from
      (if_neg hentry.1).trans (requestEntry_full hentry.2.1 hentry.2.2)]
  · obtain ⟨t, ht, hnone, hsome⟩ := hrequest hentry
    refine ⟨t, hnone, hsome, ?_⟩
    have hpost := post_placed hheight hid hroom ht
    have hplaced {d : Nat} {u : State} (h : ((postEvicts m s).map (·.id)).getD 0 = d
        ∧ placePost m { s with exposure.entries := t } = u) : settledWith .done d u :=
      hsettled hfields (hpost.trans (by rw [h.1, h.2]))
    obtain ⟨hqueued, hjoined, hpreempts, hempty⟩ :=
      placePost_places (m := m) (u := { s with exposure.entries := t }) hqueue hroom hheight
    refine ⟨fun hstands hpreempt hold => ?_, fun hstands hpreempt hnew => ?_, fun o hpreempt hnew hair hshort => ?_,
      fun hstands hq => ?_⟩
    · obtain ⟨hsame, hother⟩ := hqueued hstands hpreempt hold
      refine ⟨fun h => hplaced (hsame h), fun h => ?_⟩
      obtain ⟨l, hl, hlplaced⟩ := hother h
      exact ⟨l, hl, hplaced hlplaced⟩
    · obtain ⟨l, hl, hshort, hlong⟩ := hjoined hstands hpreempt hnew
      exact ⟨l, hl, fun h => hplaced (hshort h), fun gone h hlast => hplaced (hlong gone h hlast)⟩
    · obtain ⟨x, y, u, hsplit, hx, hy, hu, hreport⟩ := hpreempts o hpreempt hnew hair hshort
      exact ⟨x, y, u, hsplit, hx, hy, hplaced hu, hreport⟩
    · obtain ⟨u, hu, hreport⟩ := hempty hstands hq
      exact ⟨u, hplaced hu, hreport⟩

end Sys2Proof.Proofs
end

section
/-! PROOFS. House buffer pairs (R31, R32) and the ribbon cues (R126, R127). -/

namespace Sys2Proof.Proofs

open Sys2Proof.Machine Sys2Proof.Safety

/-! ### House buffer pairs -/

theorem hostOf_some {a : Nat} {s : State} {h : House} (hhost : hostOf a s = some h) :
    redirect a s = h.offAir + (a - h.bufA) ∧ h.bufA ≤ a ∧ a < h.bufA + h.size := by
  have hview : inHostView a h = true := List.find?_some hhost
  refine ⟨by rw [redirect, hhost], ?_⟩
  simpa [inHostView] using hview

/-- Settles O10: the view lies over buffer A, which is shown or off air. -/
theorem redirectMissesTheBufferOnAir : Obligations.RedirectMissesTheBufferOnAir := by
  intro s a
  refine ⟨fun h hhost hapart => ?_, fun hnone => by rw [redirect, hnone]⟩
  obtain ⟨hredirect, hlow, hhigh⟩ := hostOf_some hhost
  rw [hredirect, House.offAir, House.shown]
  cases h.onAir with
  | a => exact ⟨rfl, by dsimp only; omega⟩
  | b =>
    dsimp only
    exact ⟨by omega, by omega⟩

theorem exec_flip {s : State} (h : s.bypass = false) (tag : Half) (zone : Byte) :
    exec (.flip tag zone) s = .next (shortCue tag 0x10 (flipZone zone) s) :=
  congrArg _ (outOfBypass_out h)

/-- The redirect entry of a zone, where it stands once. -/
theorem findHouse_split {s : State} {before after : List House} {h : House} (hsplit : s.path.houses = before ++ h :: after)
    (hone : ∀ x ∈ before ++ after, x.zone ≠ h.zone) : findHouse h.zone s = some h := by
  have hbefore : before.find? (fun x => x.zone == h.zone) = none :=
    List.find?_eq_none.2 fun x hx => by simpa using hone x (List.mem_append_left _ hx)
  rw [findHouse, hsplit, List.find?_append, hbefore, List.find?_cons, beq_self_eq_true]
  rfl

theorem onHouse_split {s : State} {before after : List House} {h : House} (hsplit : s.path.houses = before ++ h :: after)
    (hone : ∀ x ∈ before ++ after, x.zone ≠ h.zone) (f : House → House) :
    onHouse h.zone f s = { s with path.houses := before ++ f h :: after } := by
  have hkeep (l : List House) (hl : ∀ x ∈ l, x.zone ≠ h.zone) : l.map (fun x => if x.zone = h.zone then f x else x) = l :=
    (List.map_congr_left fun x hx => if_neg (hl x hx)).trans (List.map_id' l)
  rw [onHouse, hsplit, List.map_append, List.map_cons, if_pos rfl,
    hkeep before fun x hx => hone x (List.mem_append_left _ hx), hkeep after fun x hx => hone x (List.mem_append_right _ hx)]

/-- Settles O42. -/
theorem flipMarksTheZone : Obligations.FlipMarksTheZone := by
  intro s tag zone hbypass
  rw [exec_flip hbypass, shortCue, flipZone]
  refine ⟨fun hrange => ?_, fun hrange => ?_⟩
  · rw [if_pos (show Config.zoneIds ≤ zone.toNat from hrange)]
  · rw [if_neg (show ¬ Config.zoneIds ≤ zone.toNat from Nat.not_le.2 hrange)]
    refine ⟨fun hnone => ?_, fun before h after hsplit hid hone => ⟨fun hpending => ?_, fun hsteady => ?_⟩⟩
    · have hfind : findHouse zone.toNat s = none := List.find?_eq_none.2 fun x hx => by simpa using hnone x hx
      rw [hfind]
    · rw [← hid] at hone ⊢
      rw [findHouse_split hsplit hone]
      dsimp only
      rw [hpending]
    · rw [← hid] at hone ⊢
      rw [findHouse_split hsplit hone]
      dsimp only
      rw [hsteady]
      dsimp only
      rw [onHouse_split hsplit hone]

/-! ### RIBBON ENABLE and RIBBON DISABLE -/

theorem exec_ribbonEnable {s : State} (h : s.bypass = false) (tag : Half) (ribbon : Byte) :
    exec (.ribbonEnable tag ribbon) s = .next (shortCue tag 0x30 (ribbonEnable ribbon) s) :=
  congrArg _ (outOfBypass_out h)

theorem exec_ribbonDisable {s : State} (h : s.bypass = false) (tag : Half) (ribbon : Byte) :
    exec (.ribbonDisable tag ribbon) s = .next (shortCue tag 0x31 (ribbonDisable ribbon) s) :=
  congrArg _ (outOfBypass_out h)

theorem ribbonId_beyond {b : Byte} (h : 1 < b.toNat) : ribbonId b = none := by
  rw [ribbonId, if_neg (by bv_omega), if_neg (by bv_omega)]

/-- Settles O46: each row is one case of the cue's own function. -/
theorem ribbonCuesFollowTheirTables : Obligations.RibbonCuesFollowTheirTables := by
  intro s tag ribbon hbypass
  refine ⟨fun hrange => ?_, fun id hid => ?_⟩
  · rw [exec_ribbonEnable hbypass, exec_ribbonDisable hbypass, shortCue, shortCue, ribbonEnable, ribbonDisable,
      ribbonId_beyond hrange]
    exact ⟨rfl, rfl⟩
  intro r
  have hribbon : ribbonId ribbon = some id := by
    rw [hid]
    cases id <;> rfl
  rw [exec_ribbonEnable hbypass, exec_ribbonDisable hbypass, shortCue, shortCue, ribbonEnable, ribbonDisable, hribbon]
  dsimp only
  refine ⟨fun hoff hnone => ?_, fun hoff hsome => ?_, fun h => ?_, fun hstopping => ?_, fun h => ?_, fun hon => ?_,
    fun hstarting hnone => ?_, fun x hstarting hsome =>
      ⟨handRibbon id (commitOff { ribbonOf id s with state := .off }) s, ?_, ?_⟩⟩
  · rw [show (ribbonOf id s).state = _ from hoff, show (ribbonOf id s).committed = _ from hnone]
    rfl
  · rw [show (ribbonOf id s).state = _ from hoff]
    dsimp only
    rw [if_neg]
    rwa [Option.isNone_iff_eq_none]
  · rcases h with h | h <;> rw [show (ribbonOf id s).state = _ from h]
  · rw [show (ribbonOf id s).state = _ from hstopping]
  · rcases h with h | h <;> rw [show (ribbonOf id s).state = _ from h]
  · rw [show (ribbonOf id s).state = _ from hon]
  · rw [show (ribbonOf id s).state = _ from hstarting, commitOff, show (ribbonOf id s).staged = _ from hnone]
    rfl
  · rw [show (ribbonOf id s).state = _ from hstarting]
  · rw [commitOff, show (ribbonOf id s).staged = _ from hsome]
    exact reported_bump (showsRibbon_iff id) _

end Sys2Proof.Proofs
end

section
/-! PROOFS. The millisecond timers (R39, R63, R67, R118, R138, R169, R177): each at a timebase event and at its last. -/

namespace Sys2Proof.Proofs

open Sys2Proof.Machine Sys2Proof.Safety

/-! ### One timer at a timebase event -/

section
variable {u : State} {n : Nat}

theorem stepGap_counts (hn : 1 < n) (h : u.clock.receiver.gap = some n) :
    stepGap u = { u with clock := { u.clock with receiver := { u.clock.receiver with gap := some (n - 1) } } } := by
  rw [stepGap, h]
  exact if_neg (Nat.not_le.2 hn)

theorem stepGap_ends (h : u.clock.receiver.gap = some 1) :
    stepGap u = { u with clock := { u.clock with receiver := coldReceiver } } := by
  rw [stepGap, h]
  rfl

theorem stepWatchdog_counts (hn : 1 < n) (h : u.clock.watchdog = some n) :
    stepWatchdog u = { u with clock := { u.clock with watchdog := some (n - 1) } } := by
  rw [stepWatchdog, h]
  exact if_neg (Nat.not_le.2 hn)

theorem stepWatchdog_ends (h : u.clock.watchdog = some 1) : stepWatchdog u =
    raise .consoleLost { u with clock := { u.clock with console := .freeRun, watchdog := none } } := by
  rw [stepWatchdog, h]
  rfl

theorem stepIdle_houses (u : State) : (stepIdle u).path.houses = u.path.houses.map idleStep := by
  rw [stepIdle, raiseIf]
  split <;> rfl

theorem stepIdle_stale {h : House} (hmem : h ∈ u.path.houses) (hlast : h.idle = some 1) :
    flagUp .houseStale (stepIdle u) = true := by
  have hexpires : u.path.houses.any idleExpires = true := List.any_eq_true.2 ⟨h, hmem, by rw [idleExpires, hlast]; rfl⟩
  rw [stepIdle, flagUp_raiseIf, hexpires, Bool.or_true]

theorem idleStep_counts {h : House} (hn : 1 < n) (hidle : h.idle = some n) : idleStep h = { h with idle := some (n - 1) } := by
  obtain ⟨k, rfl⟩ : ∃ k, n = k + 1 := ⟨n - 1, by omega⟩
  rw [idleStep, hidle]
  exact if_neg (by omega)

theorem idleStep_ends {h : House} (hidle : h.idle = some 1) : idleStep h = { h with idle := some 0, stale := true } := by
  rw [idleStep, hidle]
  rfl

theorem idleStep_rests {h : House} (hidle : h.idle = none ∨ h.idle = some 0) : idleStep h = h := by
  rcases hidle with hidle | hidle <;> rw [idleStep, hidle]

theorem stepChase_counts {c : Clip} (hn : 1 < n) (hclip : u.replay.current = some c) (h : c.chase = some n) :
    (stepChase u).replay.current = some { c with chase := some (n - 1) } := by
  rw [stepChase, hclip]
  dsimp only
  rw [h]
  dsimp only
  rw [if_neg (Nat.not_le.2 hn)]

theorem stepChase_ends {c : Clip} (hclip : u.replay.current = some c) (h : c.chase = some 1) : stepChase u =
    raise .clipEnded (raise .chaseTimeout { u with replay := { u.replay with
      current := some { c with state := .ended, endedDark := false, acc := 0, chase := none } } }) := by
  rw [stepChase, hclip]
  dsimp only
  rw [h]
  rfl

theorem stepGather_counts {g : Gather} (hn : 1 < n) (hgather : u.rotation.gather = some g) (h : g.timer = some n) :
    (stepGather u).rotation.gather = some { g with timer := some (n - 1) } := by
  rw [stepGather, hgather]
  dsimp only
  rw [h]
  dsimp only
  rw [if_neg (Nat.not_le.2 hn)]

theorem stepDebounce_counts (hn : 1 < n) (h : u.alert.debounce = some n) (hline : u.pins.venue = true)
    (hlatch : u.alert.latch = false) : stepDebounce u = { u with alert := { u.alert with debounce := some (n - 1) } } := by
  have hcounts : u.pins.venue ∧ !u.alert.latch := ⟨hline, by rw [hlatch]; rfl⟩
  rw [stepDebounce, if_pos hcounts, h]
  exact if_neg (Nat.not_le.2 hn)

/-- Out of RELEASING a source that appears makes no entry, so the debounce timer changes its own unit alone. -/
theorem stepDebounce_standing (h : u.alert.state ≠ .releasing) :
    Within [.latch, .debounce, .alertState] u (stepDebounce u) := by
  have hlatched : Within [.latch, .debounce, .alertState] u (setLatch u) := by
    rw [setLatch, alertSource]
    split
    · exact .of_merge rfl
    · exact .of_merge rfl
    · exact .of_merge rfl
    · next hstate => exact (h hstate).elim
  rw [stepDebounce]
  split
  · split
    · split
      · exact hlatched
      · exact .of_merge rfl
    · rw [venueFoundAsserted]
      split_ifs
      · exact .refl _ _
      · exact .refl _ _
      · exact .of_merge rfl
  · exact .refl _ _

theorem stepHeat_warming (hn : 1 < n) (hstate : u.brightness.state = .warming) (hline : u.pins.heat = true)
    (h : u.brightness.warm = some n) :
    stepHeat u = { u with brightness := { u.brightness with warm := some (n - 1) } } := by
  have hfound : heatFound u.pins.heat u.brightness = u.brightness := by
    rw [hline]
    exact heatAsserted_kept (.inl hstate)
  have hwarm : stepWarm u = { u with brightness := { u.brightness with warm := some (n - 1) } } := by
    rw [stepWarm, hstate, h, hline]
    exact if_neg (Nat.not_le.2 hn)
  rw [stepHeat, if_neg (not_not.2 hfound), hwarm, stepCool]
  dsimp only
  rw [hstate]

theorem stepHeat_cooling (hn : 1 < n) (hstate : u.brightness.state = .cooling) (hline : u.pins.heat = false)
    (h : u.brightness.cool = some n) :
    stepHeat u = { u with brightness := { u.brightness with cool := some (n - 1) } } := by
  have hfound : heatFound u.pins.heat u.brightness = u.brightness := by
    rw [hline]
    exact heatDeasserted_kept (.inr hstate)
  have hwarm : stepWarm u = u := by rw [stepWarm, hstate]
  rw [stepHeat, if_neg (not_not.2 hfound), hwarm, stepCool, hstate, h, hline]
  exact if_neg (Nat.not_le.2 hn)

end

/-! ### What the timers at one event leave to each other -/

section
variable {u : State}

/-- What the timers from the gather timer on can change. -/
abbrev lateParts : List Part := [.latch, .debounce, .alertState] ++ gatherParts ++ heatParts

theorem lateTimers_within (h : u.alert.state ≠ .releasing) :
    Within lateParts u (stepHeat (stepDebounce (stepGather u))) := by
  have hgather := stepGather_within u
  have hstate : (stepGather u).alert.state ≠ .releasing := by
    rwa [show (stepGather u).alert.state = u.alert.state from hgather .alertState (by decide)]
  exact ((hgather.mono (by decide)).andThen (stepDebounce_standing hstate) (by decide)).andThen (stepHeat_within _)
    (by decide)

theorem countTimers_receiver (u : State) : (countTimers u).clock.receiver = (stepGap u).clock.receiver := by
  have hlater : Within ([.console, .watchdog, .houses, .current, .latch, .debounce, .flag .consoleLost,
      .flag .houseStale, .flag .chaseTimeout, .flag .clipEnded] ++ gatherParts ++ heatParts ++ entryParts)
      (stepGap u) (countTimers u) :=
    (((((((stepWatchdog_within _).mono (by decide)).andThen (stepIdle_within _) (by decide)).andThen
      (stepChase_within _) (by decide)).andThen (stepGather_within _) (by decide)).andThen (stepDebounce_within _)
      (by decide)).andThen (stepHeat_within _) (by decide))
  exact hlater .receiver (by decide)

/-- What the timers after the watchdog can change. -/
abbrev idleParts : List Part :=
  [.houses, .current, .latch, .debounce, .flag .houseStale, .flag .chaseTimeout, .flag .clipEnded] ++ gatherParts
    ++ heatParts ++ entryParts

theorem afterWatchdog_within (u : State) : Within idleParts (stepWatchdog (stepGap u)) (countTimers u) :=
  ((((((stepIdle_within _).mono (by decide)).andThen (stepChase_within _) (by decide)).andThen (stepGather_within _)
    (by decide)).andThen (stepDebounce_within _) (by decide)).andThen (stepHeat_within _) (by decide))

/-- What the timers after the idle timers can change. -/
abbrev chaseParts : List Part :=
  [.current, .latch, .debounce, .flag .chaseTimeout, .flag .clipEnded] ++ gatherParts ++ heatParts ++ entryParts

theorem afterIdle_within (u : State) : Within chaseParts (stepIdle (stepWatchdog (stepGap u))) (countTimers u) :=
  (((((stepChase_within _).mono (by decide)).andThen (stepGather_within _) (by decide)).andThen (stepDebounce_within _)
    (by decide)).andThen (stepHeat_within _) (by decide))

/-- What the timers before the gather timer can change. -/
abbrev earlyParts : List Part :=
  [.receiver, .console, .watchdog, .flag .consoleLost, .houses, .flag .houseStale]

theorem beforeChase_within (u : State) : Within earlyParts u (stepIdle (stepWatchdog (stepGap u))) :=
  (((stepGap_within u).mono (by decide)).andThen (stepWatchdog_within _) (by decide)).andThen (stepIdle_within _)
    (by decide)

theorem beforeGather_within (u : State) :
    Within (earlyParts ++ [.current, .flag .chaseTimeout, .flag .clipEnded]) u
      (stepChase (stepIdle (stepWatchdog (stepGap u)))) :=
  ((beforeChase_within u).mono (by decide)).andThen (stepChase_within _) (by decide)

end

/-! ### A timebase event of the timers -/

section
variable {u : State} {n : Nat}

theorem countTimers_gap (hn : 1 < n) (h : u.clock.receiver.gap = some n) :
    (countTimers u).clock.receiver = { u.clock.receiver with gap := some (n - 1) } := by
  rw [countTimers_receiver, stepGap_counts hn h]

theorem countTimers_gapEnds (h : u.clock.receiver.gap = some 1) : (countTimers u).clock.receiver = coldReceiver := by
  rw [countTimers_receiver, stepGap_ends h]

theorem stepGap_watchdog (u : State) : (stepGap u).clock.watchdog = u.clock.watchdog :=
  (stepGap_within u) .watchdog (by decide)

theorem countTimers_watchdog (hn : 1 < n) (h : u.clock.watchdog = some n) :
    (countTimers u).clock.watchdog = some (n - 1) ∧ (countTimers u).clock.console = u.clock.console := by
  have hafter := afterWatchdog_within u
  rw [stepWatchdog_counts hn ((stepGap_watchdog u).trans h)] at hafter
  exact ⟨hafter .watchdog (by decide), Eq.trans (hafter .console (by decide)) (stepGap_within u .console (by decide))⟩

theorem countTimers_watchdogEnds (h : u.clock.watchdog = some 1) :
    (countTimers u).clock.watchdog = none ∧ (countTimers u).clock.console = .freeRun
      ∧ flagUp .consoleLost (countTimers u) = true := by
  have hafter := afterWatchdog_within u
  rw [stepWatchdog_ends ((stepGap_watchdog u).trans h)] at hafter
  refine ⟨hafter .watchdog (by decide), hafter .console (by decide), ?_⟩
  exact ((hafter (.flag .consoleLost) (by decide)).1).trans (by rw [flagUp_raise, decide_eq_true rfl, Bool.true_or])

theorem countTimers_houses (u : State) : (countTimers u).path.houses = u.path.houses.map idleStep := by
  have hbefore : (stepWatchdog (stepGap u)).path.houses = u.path.houses :=
    (((stepGap_within u).mono (by decide)).andThen (stepWatchdog_within _) (by decide) :
      Within [.receiver, .console, .watchdog, .flag .consoleLost] u _) .houses (by decide)
  have hafter : (countTimers u).path.houses = (stepIdle (stepWatchdog (stepGap u))).path.houses :=
    afterIdle_within u .houses (by decide)
  rw [hafter, stepIdle_houses, hbefore]

theorem countTimers_stale {h : House} (hmem : h ∈ u.path.houses) (hlast : h.idle = some 1) :
    flagUp .houseStale (countTimers u) = true := by
  have hbefore : (stepWatchdog (stepGap u)).path.houses = u.path.houses :=
    (((stepGap_within u).mono (by decide)).andThen (stepWatchdog_within _) (by decide) :
      Within [.receiver, .console, .watchdog, .flag .consoleLost] u _) .houses (by decide)
  exact ((afterIdle_within u (.flag .houseStale) (by decide)).1).trans (stepIdle_stale (hbefore.symm ▸ hmem) hlast)

theorem countTimers_chase {c : Clip} (halert : u.alert.state ≠ .releasing) (hn : 1 < n) (hclip : u.replay.current = some c)
    (h : c.chase = some n) : (countTimers u).replay.current = some { c with chase := some (n - 1) } := by
  have hstate : (stepChase (stepIdle (stepWatchdog (stepGap u)))).alert.state ≠ .releasing := by
    rwa [show (stepChase _).alert.state = u.alert.state from beforeGather_within u .alertState (by decide)]
  have hfound : (stepIdle (stepWatchdog (stepGap u))).replay.current = some c :=
    Eq.trans (beforeChase_within u .current (by decide)) hclip
  exact Eq.trans (lateTimers_within hstate .current (by decide)) (stepChase_counts hn hfound h)

theorem countTimers_gather {g : Gather} (hn : 1 < n) (hgather : u.rotation.gather = some g) (h : g.timer = some n) :
    (countTimers u).rotation.gather = some { g with timer := some (n - 1) } := by
  have hfound : (stepChase (stepIdle (stepWatchdog (stepGap u)))).rotation.gather = some g :=
    Eq.trans (beforeGather_within u .gather (by decide)) hgather
  have hlater : Within (venueParts ++ heatParts) (stepGather (stepChase (stepIdle (stepWatchdog (stepGap u)))))
      (countTimers u) := ((stepDebounce_within _).mono (by decide)).andThen (stepHeat_within _) (by decide)
  exact Eq.trans (hlater .gather (by decide)) (stepGather_counts hn hfound h)

/-- What the timers before the debounce timer can change. -/
theorem beforeDebounce_within (u : State) :
    Within (earlyParts ++ [.current, .flag .chaseTimeout, .flag .clipEnded] ++ gatherParts) u
      (stepGather (stepChase (stepIdle (stepWatchdog (stepGap u))))) :=
  ((beforeGather_within u).mono (by decide)).andThen (stepGather_within _) (by decide)

theorem countTimers_debounce (hn : 1 < n) (h : u.alert.debounce = some n) (hline : u.pins.venue = true)
    (hlatch : u.alert.latch = false) : (countTimers u).alert = { u.alert with debounce := some (n - 1) } := by
  have hbefore := beforeDebounce_within u
  have halert : (stepGather (stepChase (stepIdle (stepWatchdog (stepGap u))))).alert = u.alert :=
    (congrArg State.alert hbefore.eq_merge).trans rfl
  have hpins : (stepGather (stepChase (stepIdle (stepWatchdog (stepGap u))))).pins = u.pins := hbefore .pins (by decide)
  have hcounts := stepDebounce_counts (u := stepGather (stepChase (stepIdle (stepWatchdog (stepGap u))))) hn
    ((congrArg AlertUnit.debounce halert).trans h) ((congrArg Pins.venue hpins).trans hline)
    ((congrArg AlertUnit.latch halert).trans hlatch)
  calc (countTimers u).alert
      = (stepDebounce (stepGather (stepChase (stepIdle (stepWatchdog (stepGap u)))))).alert :=
        (congrArg State.alert (stepHeat_within _).eq_merge).trans rfl
    _ = { u.alert with debounce := some (n - 1) } := by rw [hcounts, halert]

theorem beforeHeat_brightness (halert : u.alert.state ≠ .releasing) :
    (stepDebounce (stepGather (stepChase (stepIdle (stepWatchdog (stepGap u)))))).brightness = u.brightness
      ∧ (stepDebounce (stepGather (stepChase (stepIdle (stepWatchdog (stepGap u)))))).pins = u.pins := by
  have hbefore := beforeDebounce_within u
  have hstate : (stepGather (stepChase (stepIdle (stepWatchdog (stepGap u))))).alert.state ≠ .releasing := by
    rwa [show (stepGather _).alert.state = u.alert.state from hbefore .alertState (by decide)]
  have hwithin := (hbefore.mono (qs := earlyParts ++ [.current, .flag .chaseTimeout, .flag .clipEnded] ++ gatherParts
    ++ [.latch, .debounce, .alertState]) (by decide)).andThen (stepDebounce_standing hstate) (by decide)
  exact ⟨(congrArg State.brightness hwithin.eq_merge).trans rfl, hwithin .pins (by decide)⟩

theorem countTimers_warm (halert : u.alert.state ≠ .releasing) (hn : 1 < n) (hstate : u.brightness.state = .warming)
    (hline : u.pins.heat = true) (h : u.brightness.warm = some n) :
    (countTimers u).brightness = { u.brightness with warm := some (n - 1) } := by
  obtain ⟨hunit, hpins⟩ := beforeHeat_brightness halert
  have hcounts := stepHeat_warming hn ((congrArg BrightnessGovernor.state hunit).trans hstate)
    ((congrArg Pins.heat hpins).trans hline) ((congrArg BrightnessGovernor.warm hunit).trans h)
  exact (congrArg State.brightness hcounts).trans (by rw [hunit])

theorem countTimers_cool (halert : u.alert.state ≠ .releasing) (hn : 1 < n) (hstate : u.brightness.state = .cooling)
    (hline : u.pins.heat = false) (h : u.brightness.cool = some n) :
    (countTimers u).brightness = { u.brightness with cool := some (n - 1) } := by
  obtain ⟨hunit, hpins⟩ := beforeHeat_brightness halert
  have hcounts := stepHeat_cooling hn ((congrArg BrightnessGovernor.state hunit).trans hstate)
    ((congrArg Pins.heat hpins).trans hline) ((congrArg BrightnessGovernor.cool hunit).trans h)
  exact (congrArg State.brightness hcounts).trans (by rw [hunit])

end

/-! ### A timer's last event as a command -/

section
variable {s : State}

/-- The event that brings an unslewed clock to its limit. -/
theorem stepClock_last {top : Nat} {c : Clock} (hrun : c.running = true) (hslew : c.slew = 0)
    (hlast : (c.direction = .down ∧ c.value ≤ 1) ∨ (c.direction = .up ∧ top ≤ c.value + 1)) :
    stepClock top c = ({ value := match c.direction with | .down => 0 | .up => top
                         running := false, direction := c.direction, slew := 0, slewPhase := 0 }, true) := by
  have hsize : tickSize c = 1 := by
    rw [tickSize, hslew]
    cases c.direction <;> simp
  have hexpires : tickExpires top c = true := by
    rw [tickExpires, hrun, hsize]
    rcases hlast with ⟨hdir, h⟩ | ⟨hdir, h⟩ <;> rw [hdir] <;> exact decide_eq_true h
  rw [stepClock_eq, tickNext, hexpires, if_neg (by rw [hrun]; decide), if_pos rfl] <;> rfl

theorem exec_clockExpiry (hbypass : s.bypass = false) {k : ClockId} (hrun : (clockOf k s).running = true)
    (hslew : (clockOf k s).slew = 0)
    (hlast : ((clockOf k s).direction = .down ∧ (clockOf k s).value ≤ 1)
      ∨ ((clockOf k s).direction = .up ∧ clockCeiling k ≤ (clockOf k s).value + 1)) :
    exec (.clockExpiry k) s = .next (handStrings (raise .clockExpired (setClock k
      { value := match (clockOf k s).direction with | .down => 0 | .up => clockCeiling k
        running := false, direction := (clockOf k s).direction, slew := 0, slewPhase := 0 } s))) := by
  refine congrArg Host.Outcome.next ((outOfBypass_out hbypass).trans ?_)
  rw [expireClock, stepClock_last hrun hslew hlast]
  rfl

theorem exec_gapTimerExpiry (hbypass : s.bypass = false) (h : s.clock.receiver.gap = some 1) :
    exec .gapTimerExpiry s = .next { s with clock := { s.clock with receiver := coldReceiver } } := by
  refine congrArg Host.Outcome.next ((outOfBypass_out hbypass).trans ?_)
  rw [expireGap, h]
  exact stepGap_ends h

theorem exec_beaconWatchdogExpiry (hbypass : s.bypass = false) (h : s.clock.watchdog = some 1) :
    exec .beaconWatchdogExpiry s = .next
      (raise .consoleLost { s with clock := { s.clock with console := .freeRun, watchdog := none } }) := by
  refine congrArg Host.Outcome.next ((outOfBypass_out hbypass).trans ?_)
  rw [expireWatchdog, h]
  exact stepWatchdog_ends h

theorem exec_idleTimerExpiry (hbypass : s.bypass = false) {zone : Nat} {h : House} (hfind : findHouse zone s = some h)
    (hlast : h.idle = some 1) :
    exec (.idleTimerExpiry zone) s = .next (raise .houseStale (onHouse zone idleStep s)) := by
  refine congrArg Host.Outcome.next ((outOfBypass_out hbypass).trans ?_)
  rw [expireIdle, hfind]
  exact if_pos (by rw [idleExpires, hlast]; rfl)

theorem exec_chaseTimeout (hbypass : s.bypass = false) {c : Clip} (hclip : s.replay.current = some c)
    (h : c.chase = some 1) :
    exec .chaseTimeout s = .next (raise .clipEnded (raise .chaseTimeout { s with replay := { s.replay with
      current := some { c with state := .ended, endedDark := false, acc := 0, chase := none } } })) := by
  have hexpire : expireChase s = stepChase s := by
    rw [expireChase, hclip]
    cases c
    dsimp only at h
    rw [h]
    rfl
  exact congrArg Host.Outcome.next ((outOfBypass_out hbypass).trans (hexpire.trans (stepChase_ends hclip h)))

end

/-- Settles O36: what each timer does at its event, and what the others leave of it. -/
theorem timersRunDownAndExpire : Obligations.TimersRunDownAndExpire := by
  refine ⟨fun s hbypass halert => ?_, fun s hbypass => ⟨fun k hrun hslew hlast => ?_, exec_gapTimerExpiry hbypass,
    exec_beaconWatchdogExpiry hbypass, fun zone h hfind hlast => ⟨exec_idleTimerExpiry hbypass hfind hlast, idleStep_ends hlast⟩,
    fun c hclip h => exec_chaseTimeout hbypass hclip h⟩⟩
  · have hticked := stepClocks_within s
    have hall := (hticked.mono (qs := tickParts ++ timerParts) (by decide)).andThen (countTimers_within _) (by decide)
    have hreceiver : (stepClocks s).clock.receiver = s.clock.receiver := hticked .receiver (by decide)
    have hdog : (stepClocks s).clock.watchdog = s.clock.watchdog := hticked .watchdog (by decide)
    have hconsole : (stepClocks s).clock.console = s.clock.console := hticked .console (by decide)
    have hhouses : (stepClocks s).path.houses = s.path.houses := hticked .houses (by decide)
    have hclip : (stepClocks s).replay.current = s.replay.current := hticked .current (by decide)
    have hlist : (stepClocks s).rotation.gather = s.rotation.gather := hticked .gather (by decide)
    have hvenue : (stepClocks s).alert = s.alert := (congrArg State.alert hticked.eq_merge).trans rfl
    have hheat : (stepClocks s).brightness = s.brightness := (congrArg State.brightness hticked.eq_merge).trans rfl
    have hpins : (stepClocks s).pins = s.pins := hticked .pins (by decide)
    have hsteady : (stepClocks s).alert.state ≠ .releasing := by rwa [hvenue]
    rw [← hreceiver, ← hdog, ← hconsole, ← hclip, ← hlist, ← hvenue, ← hheat, ← hpins]
    refine ⟨_, exec_clockTimebaseStep hbypass, fun n => countTimers_gap, countTimers_gapEnds, fun n => countTimers_watchdog,
      countTimers_watchdogEnds, ?_, fun k h g hh hg => ?_, fun c n => countTimers_chase hsteady, fun g n => countTimers_gather,
      fun n => countTimers_debounce, fun n => countTimers_warm hsteady, fun n => countTimers_cool hsteady,
      hall .mem (by decide), (countTimers_within _) .pins (by decide), hall .queue (by decide), hall .turn (by decide),
      hall .port (by decide), ?_, hall .number (by decide), hall .frame (by decide)⟩
    · rw [countTimers_houses, List.length_map, hhouses]
    · rw [countTimers_houses, hhouses, List.getElem?_map, hh] at hg
      obtain rfl := Option.some.inj hg
      have hmem : h ∈ (stepClocks s).path.houses := hhouses ▸ List.mem_of_getElem? hh
      exact ⟨fun n => idleStep_counts, fun hlast => ⟨idleStep_ends hlast, countTimers_stale hmem hlast⟩, idleStep_rests⟩
    · exact (congrArg State.exposure hall.eq_merge).trans rfl
  · refine ⟨_, exec_clockExpiry hbypass hrun hslew ?_, ?_⟩
    · cases k <;> exact hlast
    · cases k <;> cases (clockOf _ s).direction <;> exact handStrings_redisplayed _

end Sys2Proof.Proofs
end

section
/-! PROOFS. The clip cues (R107 to R111). -/

namespace Sys2Proof.Proofs

open Sys2Proof.Machine Sys2Proof.Safety

theorem rateOk_iff (r : Half) : rateOk r = true ↔ 1 ≤ r.toNat ∧ r.toNat ≤ 512 := by
  have hzero : r ≠ 0 ↔ 1 ≤ r.toNat := by bv_omega
  simp only [rateOk, Bool.and_eq_true, bne_iff_ne, decide_eq_true_eq, hzero]

theorem rateOk_false_iff (r : Half) : rateOk r = false ↔ r.toNat = 0 ∨ 512 < r.toNat := by
  rw [Bool.eq_false_iff, ne_eq, rateOk_iff]
  omega

/-- A short cue out of bypass: its outcome settled. -/
theorem shortCue_next {s : State} (h : s.bypass = false) {tag : Half} {code : Byte} {f : State → PostOutcome} {r : Result}
    {d : Nat} {t : State} (hf : f s = { state := t, result := r, detail := d }) :
    Host.Outcome.next (outOfBypass (shortCue tag code f) s)
      = (Host.Outcome.next (settleShort tag code r d t) : Host.Outcome State Fault Refusal) := by
  rw [outOfBypass_out h, shortCue, hf]

section
variable {s : State} {c : Clip}

/-! ### With a current clip -/

theorem clipDrop_some (h : s.replay.current = some c) : clipDrop s =
    { state := rebuildWatch { s with replay := { s.replay with current := none } }, result := .done, detail := 0 } := by
  rw [clipDrop, h]
  rfl

theorem clipHold_playing (h : s.replay.current = some c) (hstate : c.state = .playing) : clipHold s =
    { state := { s with replay := { s.replay with current := some { c with state := .held, chase := none } } }
      result := .done, detail := 0 } := by
  rw [clipHold, h]
  exact if_pos hstate

theorem clipHold_guarded (h : s.replay.current = some c) (hstate : c.state = .guarded) : clipHold s =
    { state := { s with replay := { s.replay with current := some { c with state := .armed } } }
      result := .done, detail := 0 } := by
  rw [clipHold, h]
  exact (if_neg (by rw [hstate]; decide)).trans (if_pos hstate)

theorem clipHold_other (h : s.replay.current = some c) (hplaying : c.state ≠ .playing) (hguarded : c.state ≠ .guarded) :
    clipHold s = { state := s, result := .wrongState, detail := 0 } := by
  rw [clipHold, h]
  exact (if_neg hplaying).trans (if_neg hguarded)

theorem clipResume_held (h : s.replay.current = some c) (hstate : c.state = .held) (halert : s.alert.state ≠ .onAir) :
    clipResume s =
      { state := { s with replay := { s.replay with current := some { c with state := .playing, heldByAlert := false } } }
        result := .done, detail := if c.heldByAlert = true then 1 else 0 } := by
  rw [clipResume, h]
  exact (if_pos hstate).trans (if_neg (mt (alertOnAir_iff s).1 halert))

theorem clipResume_alert (h : s.replay.current = some c) (hstate : c.state = .held) (halert : s.alert.state = .onAir) :
    clipResume s = { state := s, result := .wrongState, detail := 1 } := by
  rw [clipResume, h]
  exact (if_pos hstate).trans (if_pos ((alertOnAir_iff s).2 halert))

theorem clipResume_other (h : s.replay.current = some c) (hstate : c.state ≠ .held) :
    clipResume s = { state := s, result := .wrongState, detail := 0 } := by
  rw [clipResume, h]
  exact if_neg hstate

theorem clipRate_bad {rate : Half} (hrate : rate.toNat = 0 ∨ 512 < rate.toNat) :
    clipRate rate s = { state := s, result := .range, detail := 0 } := by
  rw [clipRate, (rateOk_false_iff rate).2 hrate]
  rfl

theorem clipRate_some {rate : Half} (hrate : ¬ (rate.toNat = 0 ∨ 512 < rate.toNat)) (h : s.replay.current = some c) :
    clipRate rate s =
      { state := { s with replay := { s.replay with current := some { c with pendingRate := some rate.toNat } } }
        result := .done, detail := 0 } := by
  rw [clipRate, eq_true_of_ne_false (mt (rateOk_false_iff rate).1 hrate), h]
  rfl

theorem clipRate_none {rate : Half} (hrate : ¬ (rate.toNat = 0 ∨ 512 < rate.toNat)) (h : s.replay.current = none) :
    clipRate rate s = { state := s, result := .wrongState, detail := 0 } := by
  rw [clipRate, eq_true_of_ne_false (mt (rateOk_false_iff rate).1 hrate), h]
  rfl

theorem clipAngle_bad {angle : Byte} (h : s.replay.current = some c) (hangle : c.bases.length ≤ angle.toNat) :
    clipAngle angle s = { state := s, result := .range, detail := 0 } := by
  rw [clipAngle, h]
  exact if_pos hangle

theorem clipAngle_some {angle : Byte} (h : s.replay.current = some c) (hangle : ¬ c.bases.length ≤ angle.toNat) :
    clipAngle angle s =
      { state := { s with replay := { s.replay with current := some { c with pendingAngle := some angle.toNat } } }
        result := .done, detail := 0 } := by
  rw [clipAngle, h]
  exact if_neg hangle

/-! ### CLIP PLAY -/

theorem clipPlay_good {rate : Half} {guarded : Byte} (h : 1 ≤ rate.toNat ∧ rate.toNat ≤ 512 ∧ guarded.toNat ≤ 1) :
    (!rateOk rate || decide (guarded.toNat > 1)) = false := by
  rw [(rateOk_iff rate).2 ⟨h.1, h.2.1⟩, decide_eq_false (Nat.not_lt.2 h.2.2)]
  rfl

theorem clipPlay_bad {rate : Half} {guarded : Byte} (h : ¬ (1 ≤ rate.toNat ∧ rate.toNat ≤ 512 ∧ guarded.toNat ≤ 1)) :
    clipPlay rate guarded s = { state := s, result := .range, detail := 0 } := by
  rw [clipPlay, if_pos]
  rw [Bool.or_eq_true, Bool.not_eq_true', rateOk_false_iff, decide_eq_true_eq]
  omega

theorem clipPlay_none {rate : Half} {guarded : Byte} (hgood : 1 ≤ rate.toNat ∧ rate.toNat ≤ 512 ∧ guarded.toNat ≤ 1)
    (h : s.replay.current = none) : clipPlay rate guarded s = { state := s, result := .wrongState, detail := 0 } := by
  rw [clipPlay, clipPlay_good hgood, h]
  rfl

theorem clipPlay_runs {rate : Half} {guarded : Byte} (hgood : 1 ≤ rate.toNat ∧ rate.toNat ≤ 512 ∧ guarded.toNat ≤ 1)
    (h : s.replay.current = some c) (hstate : c.state = .guarded ∨ c.state = .playing) :
    clipPlay rate guarded s = { state := s, result := .wrongState, detail := 0 } := by
  rw [clipPlay, clipPlay_good hgood, h, if_neg Bool.false_ne_true]
  exact if_pos hstate

theorem clipPlay_alert {rate : Half} {guarded : Byte} (hgood : 1 ≤ rate.toNat ∧ rate.toNat ≤ 512 ∧ guarded.toNat ≤ 1)
    (h : s.replay.current = some c) (hstate : ¬ (c.state = .guarded ∨ c.state = .playing))
    (halert : s.alert.state = .onAir) :
    clipPlay rate guarded s = { state := s, result := .wrongState, detail := 1 } := by
  rw [clipPlay, clipPlay_good hgood, h, if_neg Bool.false_ne_true]
  exact (if_neg hstate).trans (if_pos ((alertOnAir_iff s).2 halert))

/-- The clip and the state that CLIP PLAY leaves before it is reported. -/
theorem clipPlay_plays {rate : Half} {guarded : Byte} (hgood : 1 ≤ rate.toNat ∧ rate.toNat ≤ 512 ∧ guarded.toNat ≤ 1)
    (h : s.replay.current = some c) (hstate : ¬ (c.state = .guarded ∨ c.state = .playing))
    (halert : s.alert.state ≠ .onAir) :
    clipPlay rate guarded s =
      let played := playClip rate.toNat (guarded == 1 && clockPhase s == .running) c
      let after : State := { s with replay := { s.replay with current := some played } }
      { state := if moved c played then clipChanged after else after, result := .done
        detail := if c.heldByAlert = true then 1 else 0 } := by
  rw [clipPlay, clipPlay_good hgood, h, if_neg Bool.false_ne_true]
  exact (if_neg hstate).trans (if_neg (mt (alertOnAir_iff s).1 halert))

end

theorem moved_eq_false_iff (a b : Clip) : moved a b = false ↔ b.index = a.index ∧ b.angle = a.angle := by
  rw [moved, Bool.or_eq_false_iff, bne_eq_false_iff_eq, bne_eq_false_iff_eq, eq_comm, eq_comm (a := a.angle)]

theorem clipChanged_reported (u : State) : Reported (fun z => z.role = .replay) u (clipChanged u) :=
  reported_bump isReplay_iff u

theorem waits_iff (guarded : Byte) (s : State) :
    (guarded == 1 && clockPhase s == .running) = true ↔ guarded = 1 ∧ s.clock.game.running = true := by
  rw [Bool.and_eq_true, beq_iff_eq, clockPhase]
  cases s.clock.game.running <;> simp

/-- Settles O44: each row is one case of its cue's function. -/
theorem clipCuesFollowTheirRows : Obligations.ClipCuesFollowTheirRows := by
  refine ⟨fun s tag hbypass => ?_, fun s tag rate guarded hbypass => ?_⟩
  · refine ⟨fun hnone => shortCue_next hbypass (if_pos (Option.isNone_iff_eq_none.2 hnone)),
      fun hsome => shortCue_next hbypass (if_neg (mt Option.isNone_iff_eq_none.1 hsome)),
      fun hnone rate angle => ⟨shortCue_next hbypass ?_, shortCue_next hbypass ?_, shortCue_next hbypass ?_, ?_,
        shortCue_next hbypass ?_⟩, fun c hclip => ⟨⟨_, shortCue_next hbypass (clipDrop_some hclip), rfl⟩,
          fun hstate => shortCue_next hbypass (clipHold_playing hclip hstate),
          fun hstate => shortCue_next hbypass (clipHold_guarded hclip hstate),
          fun hplaying hguarded => shortCue_next hbypass (clipHold_other hclip hplaying hguarded),
          fun hstate halert => shortCue_next hbypass (clipResume_alert hclip hstate halert),
          fun hstate halert => shortCue_next hbypass (clipResume_held hclip hstate halert),
          fun hstate => shortCue_next hbypass (clipResume_other hclip hstate), fun rate => ?_, fun angle => ?_⟩⟩
    · rw [clipDrop, hnone]
      rfl
    · rw [clipHold, hnone]
    · rw [clipResume, hnone]
    · split
      · next hrate => exact shortCue_next hbypass (clipRate_bad hrate)
      · next hrate => exact shortCue_next hbypass (clipRate_none hrate hnone)
    · rw [clipAngle, hnone]
    · split
      · next hrate => exact shortCue_next hbypass (clipRate_bad hrate)
      · next hrate => exact shortCue_next hbypass (clipRate_some hrate hclip)
    · split
      · next hangle => exact shortCue_next hbypass (clipAngle_bad hclip hangle)
      · next hangle => exact shortCue_next hbypass (clipAngle_some hclip hangle)
  · intro good
    refine ⟨fun hbad => shortCue_next hbypass (clipPlay_bad hbad), fun hgood hclip => shortCue_next hbypass ?_,
      fun c hgood hclip hguarded hplaying => ⟨fun halert => shortCue_next hbypass
        (clipPlay_alert hgood hclip (not_or.2 ⟨hguarded, hplaying⟩) halert), fun halert => ?_⟩⟩
    · rcases hclip with hnone | ⟨c, hclip, hstate⟩
      · exact clipPlay_none hgood hnone
      · exact clipPlay_runs hgood hclip hstate
    · intro started playing after
      have hplayed : playClip rate.toNat (guarded == 1 && clockPhase s == .running) c = playing := by
        simp only [playClip, waits_iff]
        rfl
      have hplays := clipPlay_plays hgood hclip (not_or.2 ⟨hguarded, hplaying⟩) halert
      rw [hplayed] at hplays
      refine ⟨_, shortCue_next hbypass hplays, fun hsame => ?_, fun hmoved => ?_⟩
      · exact if_neg (by rw [(moved_eq_false_iff c playing).2 hsame]; decide)
      · rw [if_pos (eq_true_of_ne_false (mt (moved_eq_false_iff c playing).1 hmoved))]
        exact clipChanged_reported after

end Sys2Proof.Proofs
end

section
/-! PROOFS. The strings of scores, period and aux figures (R92), the score fields (R95, R96) and the celebration
(R97, R98). -/

namespace Sys2Proof.Proofs

open Sys2Proof.Machine Sys2Proof.Safety

/-! ### Strings -/

/-- R92: a number in two cells. -/
theorem rightAlign_two_decimal {n : Nat} (h : n < 100) :
    rightAlign 2 (decimal n) = if n < 10 then [.blank, digit n] else [digit (n / 10), digit n] := by
  split
  case isTrue hone =>
    rw [decimal_of_lt_ten hone]
    rfl
  case isFalse htwo =>
    rw [decimal_of_lt_hundred (by omega) h]
    rfl

theorem hasDash_iff (g : Option GlyphSet) : hasDash g = true ↔ ∃ x, g = some x ∧ x.hasDash = true := by
  cases g <;> simp [hasDash]

theorem hasOT_iff (g : Option GlyphSet) :
    hasOT g = true ↔ (∃ x, g = some x ∧ x.hasO = true) ∧ ∃ x, g = some x ∧ x.hasT = true := by
  cases g <;> simp [hasOT]

theorem auxString_number {g : Option GlyphSet} {v : Nat} (hv : v ≤ 99) (h : ¬ (v = 0 ∧ hasDash g = true)) :
    auxString g v = if v < 10 then [.blank, digit v] else [digit (v / 10), digit v] := by
  rw [auxString, if_neg h, rightAlign_two_decimal (Nat.lt_succ_of_le hv)]

/-! ### A celebration's post -/

/-- A post that is not DONE changes nothing. -/
theorem post_refused {m : Message} {s : State} (h : (post m s).result ≠ .done) : (post m s).state = s := by
  revert h
  rw [post]
  split
  · exact fun _ => rfl
  · split
    · exact fun _ => rfl
    · split
      · exact fun _ => rfl
      · split
        · exact fun _ => rfl
        · exact fun h => (h rfl).elim

theorem celebrate_done {m : Message} {s : State} (h : (post m s).result = .done) : celebrate m s = (post m s).state :=
  if_pos h

theorem celebrate_dropped {m : Message} {s : State} (h : (post m s).result ≠ .done) :
    celebrate m s = raise .messageDropped { s with messages := { s.messages with lastGone := m.id } } := by
  refine (if_neg h).trans ?_
  rw [post_refused h]

/-! ### Score fields -/

/-- The state with the four fields written. -/
def scored (p : ScorePayload) (s : State) : State :=
  { s with figures := { s.figures with
      home := min p.home.toNat 999, guest := min p.guest.toNat 999
      homeAux := min p.homeAux.toNat 99, guestAux := min p.guestAux.toNat 99 } }

theorem refreshStrings_celebration (s : State) : (refreshStrings s).figures.celebration = s.figures.celebration :=
  refreshStrings_within s .celebration (by decide)

section
variable {p : ScorePayload} {s : State}

theorem writeScores_quiet (h : min p.home.toNat 999 ≤ s.figures.home ∨ s.figures.celebration = none) :
    writeScores p s = refreshStrings (scored p s) := by
  have hcelebration : (refreshStrings (scored p s)).figures.celebration = s.figures.celebration :=
    refreshStrings_celebration (scored p s)
  show (match (refreshStrings (scored p s)).figures.celebration with
    | some m => if s.figures.home < min p.home.toNat 999 then celebrate m (refreshStrings (scored p s))
        else refreshStrings (scored p s)
    | none => refreshStrings (scored p s)) = _
  rw [hcelebration]
  split
  · next m hm => exact if_neg (Nat.not_lt.2 (h.resolve_right (by rw [hm]; exact Option.some_ne_none m)))
  · rfl

theorem writeScores_celebrates {m : Message} (hrise : s.figures.home < min p.home.toNat 999)
    (hm : s.figures.celebration = some m) : writeScores p s = celebrate m (refreshStrings (scored p s)) := by
  have hcelebration : (refreshStrings (scored p s)).figures.celebration = some m :=
    (refreshStrings_celebration (scored p s)).trans hm
  show (match (refreshStrings (scored p s)).figures.celebration with
    | some m => if s.figures.home < min p.home.toNat 999 then celebrate m (refreshStrings (scored p s))
        else refreshStrings (scored p s)
    | none => refreshStrings (scored p s)) = _
  rw [hcelebration]
  exact if_pos hrise

end

theorem exec_celebrationSet {s : State} (h : s.bypass = false) (tag : Half) (enable : Byte) (m : MessageOperand) :
    exec (.celebrationSet tag enable m) s
      = .next (shortCue tag 0x42 (withAddress (enable != 0) m.addr (setCelebration enable m)) s) :=
  congrArg _ (outOfBypass_out h)

/-- Settles O43. -/
theorem scoresAndCelebration : Obligations.ScoresAndCelebration := by
  refine ⟨fun f game secondary => ?strings, fun r => ⟨rfl, rfl, rfl, rfl, rfl, rfl, rfl⟩, fun s tag p hbypass => ?scores,
    fun s tag enable m hbypass => ?celebration⟩
  case strings =>
    intro d score two present r
    have hdash : hasDash f.glyphs = true ↔ present (·.hasDash) := hasDash_iff f.glyphs
    have hot : hasOT f.glyphs = true ↔ present (·.hasO) ∧ present (·.hasT) := hasOT_iff f.glyphs
    refine ⟨rfl, rfl, fun h => rightAlign_three_decimal (Nat.lt_succ_of_le h),
      fun h => rightAlign_three_decimal (Nat.lt_succ_of_le h), fun h => if_pos ⟨h.1, hot.2 h.2⟩, fun hmost h => ?_,
      fun h => if_pos ⟨h.1, hdash.2 h.2⟩, fun hmost h => auxString_number hmost fun hzero => h ⟨hzero.1, hdash.1 hzero.2⟩,
      fun h => if_pos ⟨h.1, hdash.2 h.2⟩, fun hmost h => auxString_number hmost fun hzero => h ⟨hzero.1, hdash.1 hzero.2⟩⟩
    exact (if_neg fun hover => h ⟨hover.1, hot.1 hover.2⟩).trans (rightAlign_two_decimal (by omega))
  case scores =>
    refine ⟨refreshStrings (scored p s), writeScores p s, refreshStrings_restrung _,
      congrArg Host.Outcome.next (outOfBypass_out hbypass), shortCue_next hbypass rfl, writeScores_quiet,
      fun m hrise hm => ?_⟩
    rw [writeScores_celebrates hrise hm]
    exact ⟨celebrate_done, celebrate_dropped⟩
  case celebration =>
    have hone : ¬ ((1 : Byte) = 0) := by decide
    refine ⟨fun hrange => ?_, shortCue_next hbypass rfl, fun hbad => ?_, fun hok => ?_⟩
    · have hzero : enable ≠ 0 := by bv_omega
      have hflag : enable ≠ 1 := by bv_omega
      rw [exec_celebrationSet hbypass, shortCue, show (enable != 0) = true from bne_iff_ne.2 hzero,
        withAddress_refused fun _ => (if_neg hzero).trans (if_neg fun h => hflag h.1)]
    · exact shortCue_next hbypass (withAddress_refused fun _ =>
        (if_neg hone).trans (if_neg fun h => hbad ((messageOk_iff m).1 h.2)))
    · refine shortCue_next hbypass ((withAddress_below (address_of_messageFieldsOk hok) _ _ s).trans ?_)
      exact (if_neg hone).trans (if_pos ⟨rfl, (messageOk_iff m).2 hok⟩)

end Sys2Proof.Proofs
end

section
/-! PROOFS. The bus: fields of assembled lines, the head of the forwarding queue (R26 to R28, R51), and the turn pointer
with the sweep's lines (R16, R44). -/

namespace Sys2Proof.Proofs

open Sys2Proof.Machine Sys2Proof.Safety

/-! ### Lines byte by byte -/

/-- What is placed in a field joins what stands there. -/
theorem field_place_or {n w : Nat} (l : BitVec n) (off : Nat) (v : BitVec w) (fit : 8 * off + w ≤ n) :
    field (place l off v) off w = field l off w ||| v := by
  refine BitVec.eq_of_getLsbD_eq fun i hi => ?_
  have hin : 8 * off + i < n := by omega
  rw [BitVec.getLsbD_or, field_getLsbD, field_getLsbD, place_getLsbD, Nat.add_sub_cancel_left]
  simp [hi, hin]

theorem byteAt_memBytes (m : List Host.Cell) (a n i : Nat) (hn : n ≤ 64) :
    byteAt (memBytes m a n) i = if i < n then memRead m (a + i) else 0 := by
  induction n with
  | zero => exact (field_zero i 8).trans (if_neg (Nat.not_lt_zero i)).symm
  | succ n ih =>
    have hbefore := ih (by omega)
    rw [memBytes]
    rcases Nat.lt_trichotomy i n with hlt | rfl | hgt
    · have hother : byteAt (place (memBytes m a n) n (memRead m (a + n))) i = byteAt (memBytes m a n) i :=
        field_place_other _ i n _ (by omega)
      rw [hother, hbefore, if_pos hlt, if_pos (by omega)]
    · rw [if_neg (Nat.lt_irrefl _)] at hbefore
      rw [if_pos (Nat.lt_succ_self _)]
      exact field_place_self _ _ _ hbefore (by omega)
    · have hother : byteAt (place (memBytes m a n) n (memRead m (a + n))) i = byteAt (memBytes m a n) i :=
        field_place_other _ i n _ (by omega)
      rw [hother, hbefore, if_neg (by omega), if_neg (by omega)]

theorem byteAt_memLine (m : List Host.Cell) (a : Nat) {i : Nat} (hi : i < 64) : byteAt (memLine m a) i = memRead m (a + i) := by
  rw [memLine, byteAt_memBytes m a 64 i (Nat.le_refl 64), if_pos hi]

/-! ### The head of the queue -/

theorem apertureLine_one (s : State) : apertureLine 1 s = s.segment.toNat * 0x40000000 + 0x3FFFF000 + 64 := by
  rw [apertureLine, apertureBase]
  exact Nat.add_right_cancel_iff.2 (Nat.add_sub_assoc (by decide) _)

/-- R28: what is decided of the entry at the head. -/
theorem headAnswered_decideHead (s : State) : (decideHead s).path.headAnswered = true ↔ HeadIsProgressRead (decideHead s) := by
  have hlane : laneOccupied s = true ↔ s.decoder.lane ≠ none := Option.isSome_iff_ne_none
  rw [decideHead_iff]
  constructor
  · rintro ⟨t, rest, hqueue, hanswers⟩
    obtain ⟨hbypass, hoccupied, line, rfl, haddr⟩ := (decoderAnswers_iff t s).1 hanswers
    exact ⟨hbypass, hlane.1 hoccupied, line, rest, hqueue, haddr.trans (apertureLine_one s)⟩
  · rintro ⟨hbypass, hoccupied, line, rest, hqueue, haddr⟩
    exact ⟨_, rest, hqueue, (decoderAnswers_iff _ s).2
      ⟨hbypass, hlane.2 hoccupied, line, rfl, haddr.trans (apertureLine_one s).symm⟩⟩

theorem headAnswered_leaveQueue (s : State) : (leaveQueue s).path.headAnswered = true ↔ HeadIsProgressRead (leaveQueue s) :=
  headAnswered_decideHead _

/-! ### Joining the queue -/

theorem offer_full {t : Transaction} {s : State} (h : 32 ≤ s.path.queue.length) :
    offer t s = { s with path := { s.path with offered := s.path.offered ++ [t] } } :=
  if_neg (Nat.not_lt.2 h)

theorem offer_first {t : Transaction} {s : State} (h : s.path.queue = []) :
    offer t s = decideHead { s with path := { s.path with queue := s.path.queue ++ [t] } } := by
  rw [offer, if_pos (by rw [h]; decide), h]
  rfl

theorem offer_behind {t : Transaction} {s : State} (hroom : s.path.queue.length < 32) (h : s.path.queue ≠ []) :
    offer t s = { s with path := { s.path with queue := s.path.queue ++ [t] } } := by
  exact (if_pos (show s.path.queue.length < Config.queueCapacity from hroom)).trans (if_neg (mt List.isEmpty_iff.1 h))

/-! ### The answer to a progress line read -/

theorem progressRead_answered {s : State} {line : LineNo} {rest : List Transaction} {l : Lane}
    (hqueue : s.path.queue = .read line :: rest) (hhead : s.path.headAnswered = true) (hlane : s.decoder.lane = some l) :
    progressRead s = leaveQueue { s with
      decoder := { s.decoder with lane := some (answerLane l) }
      path := { s.path with reply := some { line := line, data := answerLine l } } } := by
  have hanswered : headAnswered s = true := by rw [headAnswered, hhead, laneOccupied, hlane]; rfl
  rw [progressRead, hqueue, hlane]
  exact if_pos hanswered

theorem answerLane_eq (l : Lane) :
    answerLane l = { l with toggle := if l.final = none then !l.toggle else l.toggle } := by
  obtain ⟨_, _, _, _, _, final⟩ := l
  cases final <;> rfl

theorem progressWord_fields (l : Lane) (h : l.records < 2 ^ 32) :
    byteNat (progressWord l) 0 = 2 * flagNat l.toggle ∧ byteNat (progressWord l) 1 = phaseCode l.phase
      ∧ byteAt (progressWord l) 2 = longCode l.cue ∧ byteNat (progressWord l) 3 = 0
      ∧ halfAt (progressWord l) 4 = l.tag ∧ wordNat (progressWord l) 8 = l.records := by
  have htoggle : 2 * flagNat l.toggle < 2 ^ 8 := by cases l.toggle <;> decide
  have hphase : phaseCode l.phase < 2 ^ 8 := by cases l.phase <;> decide
  simp (disch := omega) only [progressWord, byteNat, wordNat, byteAt, halfAt, wordAt, placeNat, field_place_or,
    field_place_other, field_zero]
  simpa using ⟨htoggle, hphase, h⟩

theorem finalLine_fields (l : Lane) (r : FinalRecord) (h : r.detail < 2 ^ 32) :
    byteNat (finalLine l r) 0 = 1 + 2 * flagNat l.toggle ∧ byteNat (finalLine l r) 1 = 0
      ∧ byteAt (finalLine l r) 2 = longCode l.cue ∧ byteNat (finalLine l r) 3 = resultCode r.result
      ∧ halfAt (finalLine l r) 4 = l.tag ∧ wordNat (finalLine l r) 8 = r.detail := by
  have htoggle : 1 + 2 * flagNat l.toggle < 2 ^ 8 := by cases l.toggle <;> decide
  have hresult : resultCode r.result < 2 ^ 8 := by cases r.result <;> decide
  simp (disch := omega) only [finalLine, byteNat, wordNat, byteAt, halfAt, wordAt, placeNat, field_place_or,
    field_place_other, field_zero]
  simpa using ⟨htoggle, hresult, h⟩

/-! ### The turn pointer -/

section
variable {p : Fin 4} {s : State}

theorem mportGrant_ready (h : PortReady p s) : mportGrant s = grantLine s := by
  obtain ⟨hport, hbypass, hdue, _⟩ := h
  rw [mportGrant, hport, hbypass, captureIfDue, hdue]
  rfl

theorem exec_mportGrant (s : State) : exec .mportGrant s = .next (mportGrant s) := rfl

theorem mportGrant_busy {f : Flight} (h : s.port = some f) : mportGrant s = s := by
  rw [mportGrant, h]
  rfl

/-- R44: the first position from the pointer onward whose requester waits. -/
theorem grantedPosition_first (hturn : s.turn = p) {k : Fin 4} (hwaits : waits (requesterAt (p + k)) s = true)
    (hbefore : ∀ j : Fin 4, j < k → waits (requesterAt (p + j)) s = false) : grantedPosition s = some (p + k) := by
  have hzero : p + 0 = p := Fin.add_zero p
  rw [grantedPosition, hturn, positionsFrom]
  match k with
  | 0 => simp [hzero ▸ hwaits]
  | 1 => simp [hwaits, hzero ▸ hbefore 0 (by decide)]
  | 2 => simp [hwaits, hzero ▸ hbefore 0 (by decide), hbefore 1 (by decide)]
  | 3 => simp [hwaits, hzero ▸ hbefore 0 (by decide), hbefore 1 (by decide), hbefore 2 (by decide)]

theorem grantLine_first (hturn : s.turn = p) {k : Fin 4} (hwaits : waits (requesterAt (p + k)) s = true)
    (hbefore : ∀ j : Fin 4, j < k → waits (requesterAt (p + j)) s = false) :
    grantLine s = grantTo (requesterAt (p + k)) { s with turn := p + k + 1 } := by
  rw [grantLine, grantedPosition_first hturn hwaits hbefore]

/-- The grant to the requester whose turn it is. -/
theorem grantLine_turn (hturn : s.turn = p) (hwaits : waits (requesterAt p) s = true) :
    grantLine s = grantTo (requesterAt p) { s with turn := p + 1 } := by
  have hfirst := grantLine_first (k := 0) hturn ((Fin.add_zero p).symm ▸ hwaits) fun j hj => (Fin.not_lt_zero j hj).elim
  rwa [Fin.add_zero] at hfirst

theorem grantLine_idle (h : ∀ k : Fin 4, waits (requesterAt k) s = false) : grantLine s = s := by
  have hnone : grantedPosition s = none := List.find?_eq_none.2 fun k _ => by rw [h k]; exact Bool.false_ne_true
  rw [grantLine, hnone]

end

/-- Settles O13. -/
theorem grantFollowsTurnPointer : Obligations.GrantFollowsTurnPointer := by
  refine ⟨⟨rfl, rfl, rfl, rfl⟩, fun s p hready => ⟨fun k hwaits hbefore => ?_, fun hidle => ?_, fun f => ?_⟩⟩
  · rw [exec_mportGrant, mportGrant_ready hready, grantLine_first hready.2.2.2 hwaits hbefore]
  · rw [exec_mportGrant, mportGrant_ready hready, grantLine_idle hidle]
  · rw [exec_mportGrant, mportGrant_busy (s := { s with port := some f }) rfl]

/-! ### The sweep's lines -/

section
variable {s : State}

theorem fetch_next {f : Fetch} {r : Run} {rest : List Run} (h : f.runs = r :: rest) : f.next = some r.addr := by
  rw [Fetch.next, h]
  rfl

theorem fetch_take {f : Fetch} {r : Run} {rest : List Run} (h : f.runs = r :: rest) (l : Line) :
    f.take l = { runs := if r.lines ≤ 1 then rest else { addr := r.addr + 64, lines := r.lines - 1 } :: rest
                 got := f.got ++ [l] } := by
  rw [Fetch.take, h]

theorem alertSlot_fetching {x : AlertSlot} {r : Run} {rest : List Run} (hopen : x.closed = false)
    (hsending : x.sending = true) (hruns : x.fetch.runs = r :: rest) : x.fetching = true := by
  rw [AlertSlot.fetching, hopen, hsending, Fetch.complete, hruns]
  rfl

/-- R44: the sweep's line, at its turn. -/
theorem mportGrant_sweep {origin : FlightOrigin} {a : Nat} (hready : PortReady 1 s) (hnext : sweepNext s = some (origin, a)) :
    mportGrant s = { s with turn := 2, port := some { origin := origin, data := memLine s.mem a, dropped := false } } := by
  have hwaits : waits (requesterAt 1) s = true := by
    show (!s.bypass && (sweepNext s).isSome) = true
    rw [hready.2.1, hnext]
    rfl
  have hgrant : sweepNext { s with turn := 1 + 1 } = some (origin, a) := hnext
  rw [mportGrant_ready hready, grantLine_turn hready.2.2.2 hwaits]
  show grantSweep { s with turn := 1 + 1 } = _
  rw [grantSweep, hgrant]
  rfl

theorem takeSlotLine_split {before after : List Slot} {x : Slot} (hbefore : ∀ y ∈ before, y.fetching = false)
    (hfetching : x.fetching = true) (l : Line) :
    takeSlotLine l (before ++ x :: after) = before ++ { x with fetch := x.fetch.take l } :: after := by
  induction before with
  | nil => exact if_pos hfetching
  | cons y rest ih =>
    have hskip : ¬ y.fetching = true := Bool.not_eq_true _ ▸ hbefore y List.mem_cons_self
    exact (if_neg hskip).trans (congrArg (y :: ·) (ih fun z hz => hbefore z (List.mem_cons_of_mem y hz)))

theorem sweepLine_zones {slots : List Slot} (h : s.sweep.frame = .zones slots) (l : Line) :
    sweepLine l s = { s with sweep := { s.sweep with frame := .zones (takeSlotLine l slots) } } := by
  rw [sweepLine, h]

theorem sweepLine_alert {x : AlertSlot} (h : s.sweep.frame = .alert x) (l : Line) :
    sweepLine l s = { s with sweep := { s.sweep with frame := .alert { x with fetch := x.fetch.take l } } } := by
  rw [sweepLine, h]

/-- The arrival of a sweep line that is used. -/
theorem sweepArrival_used {origin : FlightOrigin} {data : Line} (hsweep : sweepOrigin origin = true)
    (hport : s.port = some { origin := origin, data := data, dropped := false }) :
    sweepArrival s = sweepLine data { s with port := none } := by
  rw [sweepArrival, arrival, hport]
  exact if_pos hsweep

end

/-- Settles O14. -/
theorem sweepLinesAreGrantedAndArrive : Obligations.SweepLinesAreGrantedAndArrive := by
  refine ⟨fun s slots x r rest hready hframe hfind hruns => ?_, fun s zone data => ⟨fun hport => ?_,
    fun before after x r rest hport hframe hbefore hfetching hruns => ?_⟩, fun s x r rest data hruns =>
      ⟨fun hready hframe hopen hsending => ?_, fun hport => ?_, fun hport hframe => ?_⟩⟩
  · have hnext : sweepNext s = some (.slot x.zone.id, r.addr) := by
      rw [sweepNext, hframe]
      dsimp only
      rw [hfind, Option.bind_some, fetch_next hruns]
      rfl
    rw [exec_mportGrant, mportGrant_sweep hready hnext]
  · exact congrArg Host.Outcome.next (arrival_dropped hport rfl rfl)
  · intro advanced
    refine congrArg Host.Outcome.next ((sweepArrival_used rfl hport).trans ?_)
    rw [sweepLine_zones (s := { s with port := none }) hframe, takeSlotLine_split hbefore hfetching, fetch_take hruns]
  · have hnext : sweepNext s = some (.alertSlot, r.addr) := by
      rw [sweepNext, hframe]
      dsimp only
      rw [if_pos (alertSlot_fetching hopen hsending hruns), fetch_next hruns]
      rfl
    rw [exec_mportGrant, mportGrant_sweep hready hnext]
  · exact congrArg Host.Outcome.next (arrival_dropped hport rfl rfl)
  · intro advanced
    refine congrArg Host.Outcome.next ((sweepArrival_used rfl hport).trans ?_)
    rw [sweepLine_alert (s := { s with port := none }) hframe, fetch_take hruns]

/-- R28: the M-port's grants pass a head by that the Cue Decoder answers. -/
theorem mportGrant_passes {s : State} (hhead : s.path.headAnswered = true) (hlane : s.decoder.lane ≠ none) :
    (mportGrant s).path = s.path := by
  rw [mportGrant]
  split
  · rfl
  · have hcaptured : Within [.image, .lines, .captureDue] s (if s.bypass = true then s else captureIfDue s) := by
      split
      · exact .refl _ s
      · exact captureIfDue_within s
    generalize (if s.bypass = true then s else captureIfDue s) = u at hcaptured ⊢
    have hpath : u.path = s.path := (congrArg State.path hcaptured.eq_merge).trans rfl
    have hanswered : controllerWaits u = false := by
      have hoccupied : laneOccupied u = true := by
        rw [laneOccupied, show u.decoder.lane = s.decoder.lane from hcaptured .lane (by decide)]
        exact Option.isSome_iff_ne_none.2 hlane
      rw [controllerWaits, headAnswered, hpath, hhead, hoccupied]
      exact Bool.and_false _
    rw [grantLine]
    split
    · next p hp =>
      have hwaits := grantedPosition_waits hp
      rw [← hpath]
      cases hr : requesterAt p with
      | controller =>
        rw [hr] at hwaits
        exact (Bool.false_ne_true (hanswered.symm.trans hwaits)).elim
      | sweep => exact (congrArg State.path (grantSweep_within { u with turn := p + 1 }).eq_merge).trans rfl
      | part => exact (congrArg State.path (grantPart_within { u with turn := p + 1 }).eq_merge).trans rfl
    · exact hpath

/-- Settles O16. -/
theorem progressReadIsAnswered : Obligations.ProgressReadIsAnswered := by
  refine ⟨fun s line rest l hqueue hhead hlane hrecords hdetail => ?_, fun s hhead hlane => ⟨_, rfl, ?_⟩⟩
  · have hread := progressRead_answered hqueue hhead hlane
    refine ⟨progressRead s, answerLine l, rfl, ?_, ?_, ?_⟩
    · rw [hread, ← answerLane_eq, leaveQueue, hqueue]
      rfl
    · rw [hread]
      exact headAnswered_leaveQueue _
    · cases hfinal : l.final with
      | none =>
        have hline : answerLine l = progressWord { l with toggle := !l.toggle } := by
          rw [answerLine, answerLane, hfinal]
          rfl
        obtain ⟨htoggle, hphase, hcue, hthree, htag, hword⟩ := progressWord_fields { l with toggle := !l.toggle } hrecords
        rw [hline]
        refine ⟨hcue, htag, fun _ => ⟨?_, hphase, hthree, hword⟩, nofun⟩
        rw [htoggle]
        cases l.toggle <;> rfl
      | some r =>
        have hline : answerLine l = finalLine l r := by rw [answerLine, hfinal]
        obtain ⟨htoggle, hone, hcue, hresult, htag, hword⟩ := finalLine_fields l r (hdetail r hfinal)
        rw [hline]
        refine ⟨hcue, htag, nofun, fun x hx => ?_⟩
        obtain rfl := Option.some.inj hx
        refine ⟨?_, hone, hresult, hword⟩
        rw [htoggle]
        cases l.toggle <;> rfl
  · exact mportGrant_passes hhead hlane

/-! ### The controller's grants -/

/-- A cue ends no line in flight where there is none. -/
theorem dispatch_port {i : Instr} {s : State} (h : s.port = none) : (dispatch i s).port = none := by
  have hended (u : State) (hu : u.port = none) : (endLong u).port = none := by
    rw [endLong]
    split
    · next p _ => exact Eq.trans (cancelSnapshot_within p u .port (by decide)) hu
    · refine Eq.trans (settleLong_within .cancelled 0 _ .port (by decide)) ?_
      show (dropRecord (discardWork u)).port = none
      rw [dropRecord, show (discardWork u).port = none from hu]
      rfl
  have hcancelled (target : Byte) : (cancel target s).state.port = none := by
    rw [cancel]
    split
    · rw [cancelLong]
      split
      · exact hended s h
      · exact h
    · exact Eq.trans (cancelStaged_within .a s .port (by decide)) h
    · exact Eq.trans (cancelStaged_within .b s .port (by decide)) h
    · exact h
  cases hdrops : decide (.port ∈ dispatchParts i)
  case false => exact Eq.trans (dispatch_within i s .port (of_decide_eq_false hdrops)) h
  case true =>
    cases i
    case cancelLong => exact Eq.trans (settleShort_within _ _ _ _ _ .port (by decide)) (hcancelled 0)
    case cancelStaged => exact Eq.trans (settleShort_within _ _ _ _ _ .port (by decide)) (hcancelled _)
    case restart tag =>
      have hcut (u : State) (hu : u.port = none) : (restartUnits u).port = none := congrArg (Option.map _) hu
      have hopen : (if laneUnsettled s then endLong s else s).port = none := by
        split
        · exact hended s h
        · exact h
      exact Eq.trans (settleShort_within _ _ _ _ _ .port (by decide)) (hcut _ hopen)
    all_goals exact (Bool.false_ne_true hdrops).elim

theorem handOffWrite_port {n : LineNo} {d : Line} {m : Mask} {s : State} (h : s.port = none) :
    (handOffWrite n d m s).port = none := by
  rw [handOffWrite]
  split
  · rw [handOff]
    split
    · exact h
    · split
      · exact h
      · exact Eq.trans (settleShort_within _ _ _ _ s .port (by decide)) h
      · exact dispatch_port h
  · exact h

section
variable {s : State} {rest : List Transaction}

theorem controllerWaits_head {t : Transaction} (hqueue : s.path.queue = t :: rest)
    (h : s.path.headAnswered = false ∨ s.decoder.lane = none) : controllerWaits s = true := by
  rw [controllerWaits, hqueue, headAnswered, laneOccupied]
  rcases h with h | h <;> rw [h]
  · rfl
  · exact congrArg Bool.not (Bool.and_false _)

/-- R26, R27: the grant of the write at the head, a held capture made first. -/
theorem mportGrant_write {line : LineNo} {data : Line} {mask : Mask} (hport : s.port = none) (hturn : s.turn = 0)
    (hhead : HeadWrite line data mask rest s) : ∃ u, Within [.turn, .image, .lines, .captureDue] s u ∧ u.turn = 1
      ∧ (s.status.captureDue = false → u = { s with turn := 1 })
      ∧ mportGrant s = leaveQueue (handOffWrite line data mask (forwardWrite line data mask u)) := by
  have hcaptured : Within [.image, .lines, .captureDue] s (if s.bypass = true then s else captureIfDue s) := by
    split
    · exact .refl _ s
    · exact captureIfDue_within s
  have hfree : s.status.captureDue = false → (if s.bypass = true then s else captureIfDue s) = s := fun hdue => by
    rw [captureIfDue, hdue]
    cases s.bypass <;> rfl
  have hgrant : mportGrant s = grantLine (if s.bypass = true then s else captureIfDue s) := by rw [mportGrant, hport]; rfl
  generalize (if s.bypass = true then s else captureIfDue s) = v at hcaptured hfree hgrant
  have hpath : v.path = s.path := (congrArg State.path hcaptured.eq_merge).trans rfl
  have hqueue : v.path.queue = .write line data mask :: rest := by rw [hpath]; exact hhead.1
  have hwaits : waits (requesterAt 0) v = true :=
    controllerWaits_head hqueue (.inl (by rw [hpath]; exact hhead.2))
  refine ⟨{ v with turn := 1 }, (hcaptured.mono (by decide)).trans (.of_merge rfl), rfl,
    fun hdue => by rw [hfree hdue], hgrant.trans ?_⟩
  rw [grantLine_turn (Eq.trans (hcaptured .turn (by decide)) hturn) hwaits]
  show grantController { v with turn := 1 } = _
  rw [grantController]
  dsimp only
  rw [hqueue]

theorem forwardAddr_eq (line : LineNo) (s : State) :
    forwardAddr (lineAddr line) s = if s.bypass = true then lineAddr line else redirect (lineAddr line) s := rfl

end

/-- Settles O9. -/
theorem transactionsJoinAndAreForwarded : Obligations.TransactionsJoinAndAreForwarded := by
  refine ⟨fun t s => ⟨fun hroom => ⟨offer t s, rfl, ?_⟩, fun hfull => congrArg Host.Outcome.next (offer_full hfull)⟩,
    fun s line data mask rest hwf hport hturn hhead => ?_, fun s line rest hport hturn hdue hqueue hanswer => ?_⟩
  · by_cases hempty : s.path.queue = []
    · rw [offer_first hempty]
      exact ⟨rfl, fun h => (h hempty).elim, fun _ => headAnswered_decideHead _⟩
    · rw [offer_behind hroom hempty]
      exact ⟨rfl, fun _ => rfl, fun h => (hempty h).elim⟩
  · obtain ⟨u, hu, huturn, _, hgrant⟩ := mportGrant_write hport hturn hhead
    have hwritten := forwardWrite_within line data mask u
    have hcue := handOffWrite_within line data mask (forwardWrite line data mask u)
    have hleft := leaveQueue_within (handOffWrite line data mask (forwardWrite line data mask u))
    have hqueue : (handOffWrite line data mask (forwardWrite line data mask u)).path.queue = s.path.queue :=
      Eq.trans (hcue .queue (by decide)) (Eq.trans (hwritten .queue (by decide)) (hu .queue (by decide)))
    have hoffered : (handOffWrite line data mask (forwardWrite line data mask u)).path.offered = s.path.offered :=
      Eq.trans (hcue .offered (by decide)) (Eq.trans (hwritten .offered (by decide)) (hu .offered (by decide)))
    have hfree : (forwardWrite line data mask u).port = none :=
      Eq.trans (hwritten .port (by decide)) (Eq.trans (hu .port (by decide)) hport)
    have hmem : (leaveQueue (handOffWrite line data mask (forwardWrite line data mask u))).mem
        = memWriteBytes s.mem (forwardAddr (lineAddr line) s) data mask 64 := by
      have haddr : forwardAddr (lineAddr line) u = forwardAddr (lineAddr line) s := by
        rw [forwardAddr, forwardAddr, redirect, redirect, hostOf, hostOf,
          show u.bypass = s.bypass from hu .bypass (by decide), show u.path.houses = s.path.houses from hu .houses (by decide)]
      have hsame : u.mem = s.mem := hu .mem (by decide)
      exact Eq.trans (hleft .mem (by decide)) (Eq.trans (hcue .mem (by decide))
        (by rw [forwardWrite_mem, haddr, hsame]))
    refine ⟨_, congrArg Host.Outcome.next hgrant,
      Eq.trans (hleft .turn (by decide)) (Eq.trans (hcue .turn (by decide)) (Eq.trans (hwritten .turn (by decide)) huturn)),
      Eq.trans (hleft .port (by decide)) (handOffWrite_port hfree), ?_, ?_, headAnswered_leaveQueue _, fun x => ?_⟩
    · show _ ++ _ = _
      rw [hqueue, hoffered, hhead.1]
      rfl
    · exact congrArg (List.drop 1) hoffered
    · rw [hmem, memRead_memWriteBytes _ _ _ _ _ hwf]
      rfl
  · have hcaptured : (if s.bypass = true then s else captureIfDue s) = s := by
      rw [captureIfDue, hdue]
      cases s.bypass <;> rfl
    have hwaits : waits (requesterAt 0) s = true := controllerWaits_head hqueue hanswer
    have hgrant : mportGrant s = leaveQueue (forwardRead line { s with turn := 1 }) := by
      have hline : mportGrant s = grantLine s := by
        rw [mportGrant, hport, hcaptured]
        rfl
      rw [hline, grantLine_turn hturn hwaits]
      show grantController { s with turn := 1 } = _
      rw [grantController]
      dsimp only
      rw [hqueue]
    refine ⟨_, congrArg Host.Outcome.next hgrant, headAnswered_leaveQueue _, ?_, _, rfl, fun i hi => byteAt_memLine _ _ hi⟩
    rw [show rest = s.path.queue.tail by rw [hqueue]; rfl]
    rfl

end Sys2Proof.Proofs
end

section
/-! PROOFS. What a granted write reaches (R34, R38 to R42, R115): its HOUSE zone, the watch list, the flags, and the
chase snoop. -/

namespace Sys2Proof.Proofs

open Sys2Proof.Machine Sys2Proof.Safety

/-! ### Flags and results left alone -/

section
variable {ps : List Part} {s t : State}

theorem Within.flags_eq (h : Within ps s t) (hflag : ∀ f, .flag f ∉ ps) :
    t.status.flags = s.status.flags ∧ t.decoder.latches = s.decoder.latches :=
  ⟨flagRegister_ext fun f => (h (.flag f) (hflag f)).1, flagRegister_ext fun f => (h (.flag f) (hflag f)).2⟩

theorem Within.status_eq (h : Within ps s t) (hflag : ∀ f, .flag f ∉ ps) (himage : .image ∉ ps) (hlines : .lines ∉ ps)
    (hdue : .captureDue ∉ ps) : t.status = s.status := by
  calc t.status = ⟨t.status.flags, t.status.image, t.status.lines, t.status.captureDue⟩ := rfl
    _ = s.status := by
      rw [(h.flags_eq hflag).1, show t.status.image = s.status.image from h .image himage,
        show t.status.lines = s.status.lines from h .lines hlines,
        show t.status.captureDue = s.status.captureDue from h .captureDue hdue]

theorem Within.decoder_eq (h : Within ps s t) (hflag : ∀ f, .flag f ∉ ps) (hcleared : .cleared ∉ ps) (hlane : .lane ∉ ps)
    (hlast : .last ∉ ps) : t.decoder = s.decoder := by
  calc t.decoder = ⟨t.decoder.lane, t.decoder.last, t.decoder.mask, t.decoder.latches⟩ := rfl
    _ = s.decoder := by
      rw [(h.flags_eq hflag).2, show t.decoder.lane = s.decoder.lane from h .lane hlane,
        show t.decoder.last = s.decoder.last from h .last hlast,
        show t.decoder.mask = s.decoder.mask from (h .cleared hcleared).1]

end

/-! ### The grant of a write that is no cue -/

section
variable {s : State} {line : LineNo} {data : Line} {mask : Mask} {rest : List Transaction}

theorem handOffWrite_elsewhere (h : lineAddr line ≠ apertureLine 0 s) : handOffWrite line data mask s = s :=
  if_neg (by rw [isApertureLine, beq_eq_false_iff_ne.2 h, Bool.and_false]; exact Bool.false_ne_true)

theorem handOffWrite_partial (h : mask ≠ fullMask) : handOffWrite line data mask s = s := by
  rw [handOffWrite, handOff, if_pos h, ite_self]

theorem mportGrant_writes (hready : PortReady 0 s) (hhead : HeadWrite line data mask rest s) :
    mportGrant s = leaveQueue (handOffWrite line data mask (forwardWrite line data mask { s with turn := 1 })) := by
  obtain ⟨hport, _, hdue, hturn⟩ := hready
  obtain ⟨u, _, _, hu, hgrant⟩ := mportGrant_write hport hturn hhead
  rwa [hu hdue] at hgrant

theorem mportGrant_elsewhere (hready : PortReady 0 s) (hhead : HeadWrite line data mask rest s)
    (haddr : lineAddr line ≠ apertureLine 0 s) :
    mportGrant s = leaveQueue (forwardWrite line data mask { s with turn := 1 }) := by
  have hline : apertureLine 0 (forwardWrite line data mask { s with turn := 1 }) = apertureLine 0 s := by
    rw [apertureLine, apertureLine, apertureBase, apertureBase,
      show (forwardWrite line data mask { s with turn := 1 }).segment = s.segment from
        forwardWrite_within _ _ _ _ .segment (by decide)]
  rw [mportGrant_writes hready hhead, handOffWrite_elsewhere (by rwa [hline])]

/-! ### Flags, zones and HOUSE entries -/

/-- The write as it has landed, its late flag raised. -/
def landed (line : LineNo) (data : Line) (mask : Mask) (s : State) : State :=
  raiseIf (isLateWrite (lineAddr line) s) .lateWrite (writeLine (redirect (lineAddr line) s) data mask s)

theorem landed_within (line : LineNo) (data : Line) (mask : Mask) (s : State) :
    Within [.mem, .flag .lateWrite] s (landed line data mask s) :=
  Within.andThen (.of_merge rfl) (raiseIf_within _ _ _) (by decide)

theorem forwardWrite_checked (hbypass : s.bypass = false) (hmask : mask ≠ 0) :
    forwardWrite line data mask s
      = writeChecks (lineAddr line) (redirect (lineAddr line) s) mask (landed line data mask s) := by
  have hforward : forwardAddr (lineAddr line) s = redirect (lineAddr line) s := by rw [forwardAddr, hbypass]; rfl
  rcases forwardWrite_cases line data mask s with ⟨h, _⟩ | ⟨_, h, _⟩ | ⟨_, _, h⟩
  · exact (Bool.false_ne_true (hbypass.symm.trans h)).elim
  · exact (hmask h).elim
  · rw [h, hforward]
    rfl

theorem forwardWrite_silent (hbypass : s.bypass = false) : forwardWrite line data 0 s = landed line data 0 s := by
  have hforward : forwardAddr (lineAddr line) s = redirect (lineAddr line) s := by rw [forwardAddr, hbypass]; rfl
  rcases forwardWrite_cases line data 0 s with ⟨h, _⟩ | ⟨_, _, h⟩ | ⟨_, h, _⟩
  · exact (Bool.false_ne_true (hbypass.symm.trans h)).elim
  · rw [h, hforward]
    rfl
  · exact (h rfl).elim

theorem hostOf_congr {a : Nat} {u t : State} (h : t.path.houses = u.path.houses) : hostOf a t = hostOf a u := by
  rw [hostOf, hostOf, h]

theorem isLateWrite_host {a : Nat} {h : House} (hhost : hostOf a s = some h) :
    isLateWrite a s = true ↔ h.flip = .flipPending := by
  rw [isLateWrite, hhost, Option.any_some, beq_iff_eq]

theorem isLateWrite_elsewhere {a : Nat} (hhost : hostOf a s = none) : isLateWrite a s = false := by
  rw [isLateWrite, hhost]
  rfl

theorem landed_late {h : House} (hhost : hostOf (lineAddr line) s = some h) :
    flagUp .lateWrite (landed line data mask s) = true ↔ flagUp .lateWrite s = true ∨ h.flip = .flipPending := by
  rw [landed, flagUp_raiseIf, Bool.or_eq_true, isLateWrite_host hhost]
  rfl

theorem touches_iff (a : Nat) (mask : Mask) (e : WatchEntry) : overlaps a mask e = true ↔ Touches a mask e := by
  simp only [overlaps, Touches, List.any_eq_true, List.mem_range, Bool.and_eq_true, decide_eq_true_eq, and_assoc]

theorem mem_matchedZones (a : Nat) (mask : Mask) (s : State) (id : Nat) :
    id ∈ matchedZones a mask s ↔ ∃ e ∈ s.path.watch, e.zone = some id ∧ Touches a mask e := by
  rw [matchedZones, List.mem_filterMap]
  refine exists_congr fun e => and_congr_right fun _ => ?_
  rw [← touches_iff]
  cases overlaps a mask e
  · exact ⟨nofun, fun h => (Bool.false_ne_true h.2).elim⟩
  · exact ⟨fun h => ⟨h, rfl⟩, fun h => h.1⟩

/-- R38, R40: the zones that a write reaches are bumped once. -/
theorem watchMatch_bumps (a : Nat) (mask : Mask) (woken : Option Nat) (s : State) :
    Bumps (fun z => woken = some z.id ∨ ∃ e ∈ s.path.watch, e.zone = some z.id ∧ Touches a mask e)
      s.sweep.zones (watchMatch a mask woken s).sweep.zones := by
  refine bumps_map (fun z => ?_) s.sweep.zones
  rw [List.contains_iff_mem, List.mem_append, Option.mem_toList, mem_matchedZones]

end

/-- The zones that a granted write leaves, told from the bumps of its watch match. -/
theorem forwardWrite_zones {s : State} {line : LineNo} {data : Line} {mask : Mask} (hbypass : s.bypass = false)
    (hmask : mask ≠ 0) :
    Bumps (fun z => (∃ h, hostOf (lineAddr line) s = some h ∧ h.stale = true ∧ z.id = h.zone)
        ∨ ∃ e ∈ s.path.watch, e.zone = some z.id ∧ Touches (redirect (lineAddr line) s) mask e)
      s.sweep.zones (forwardWrite line data mask s).sweep.zones := by
  have hlanded := landed_within line data mask s
  have hzones : (landed line data mask s).sweep.zones = s.sweep.zones := hlanded.zones_eq rfl
  have hhost : hostOf (lineAddr line) (landed line data mask s) = hostOf (lineAddr line) s :=
    hostOf_congr (hlanded .houses (by decide))
  rw [forwardWrite_checked hbypass hmask, writeChecks]
  dsimp only
  have heffects := hostEffects_within (lineAddr line) (landed line data mask s)
  have hwatch : (hostEffects (lineAddr line) (landed line data mask s)).1.path.watch = s.path.watch :=
    Eq.trans (heffects .watch (by decide)) (hlanded .watch (by decide))
  have hkept : (hostEffects (lineAddr line) (landed line data mask s)).1.sweep.zones = s.sweep.zones :=
    (heffects.zones_eq rfl).trans hzones
  have hwoken : ∀ z : ZoneRec, (hostEffects (lineAddr line) (landed line data mask s)).2 = some z.id
      ↔ ∃ h, hostOf (lineAddr line) s = some h ∧ h.stale = true ∧ z.id = h.zone := fun z => by
    rw [hostEffects, hhost]
    cases hostOf (lineAddr line) s with
    | none => simp
    | some h =>
      show (if h.stale then some h.zone else none) = some z.id ↔ _
      cases hstale : h.stale <;> simp [hstale, @eq_comm _ h.zone]
  rw [(chaseSnoop_within _ _).zones_eq rfl, ← hkept]
  refine bumps_congr (watchMatch_bumps _ _ _ _) fun z => ?_
  rw [hwoken, hwatch]

theorem onHouse_feed (zone : Nat) (s : State) : (onHouse zone feedHouse s).path.houses = s.path.houses.map (fun x =>
    if x.zone = zone then { x with idle := if x.timeout = 0 then none else some x.timeout, stale := false } else x) := rfl

/-- R39, R40: the HOUSE zone's entry after a write with an enabled byte. -/
theorem forwardWrite_houses {s : State} {line : LineNo} {data : Line} {mask : Mask} {h : House} (hbypass : s.bypass = false)
    (hmask : mask ≠ 0) (hhost : hostOf (lineAddr line) s = some h) :
    (forwardWrite line data mask s).path.houses = s.path.houses.map (fun x => if x.zone = h.zone then
      { x with idle := if x.timeout = 0 then none else some x.timeout, stale := false } else x) := by
  have hkept : (landed line data mask s).path.houses = s.path.houses := landed_within line data mask s .houses (by decide)
  have hfound : hostOf (lineAddr line) (landed line data mask s) = some h := (hostOf_congr hkept).trans hhost
  rw [forwardWrite_checked hbypass hmask, writeChecks, hostEffects, hfound]
  refine Eq.trans (chaseSnoop_within _ _ .houses (by decide)) (Eq.trans (watchMatch_within _ _ _ _ .houses (by decide)) ?_)
  show (onHouse h.zone feedHouse (landed line data mask s)).path.houses = _
  rw [onHouse_feed, hkept]

/-- R34: the late flag is that of the landed write; the checks raise none. -/
theorem forwardWrite_late {s : State} {line : LineNo} {data : Line} {mask : Mask} (hbypass : s.bypass = false) (f : Flag) :
    flagUp f (forwardWrite line data mask s) = flagUp f (landed line data mask s) := by
  by_cases hmask : mask = 0
  · rw [hmask, forwardWrite_silent hbypass]
  · rw [forwardWrite_checked hbypass hmask]
    exact (writeChecks_within _ _ _ _ (.flag f) (by simp)).1

/-- A write with no byte enabled changes no byte. -/
theorem memWriteBytes_none (m : List Host.Cell) (a : Nat) (d : Line) (n : Nat) : memWriteBytes m a d 0 n = m := by
  induction n with
  | zero => rfl
  | succ n ih =>
    rw [memWriteBytes, ih]
    exact if_neg (by simp)

section
variable {s : State} {line : LineNo} {data : Line} {mask : Mask}

/-- A write outside every host view changes memory, epochs and the chase marks alone. -/
theorem forwardWrite_quiet (hbypass : s.bypass = false) (hhost : hostOf (lineAddr line) s = none) :
    Within ([.mem, .current, .onDeck] ++ epochParts) s (forwardWrite line data mask s) := by
  have hlanded : Within [.mem] s (landed line data mask s) := by
    rw [landed, isLateWrite_elsewhere hhost, raiseIf_false]
    exact .of_merge rfl
  by_cases hmask : mask = 0
  · rw [hmask, forwardWrite_silent hbypass, ← hmask]
    exact hlanded.mono (by decide)
  · have hfound : hostOf (lineAddr line) (landed line data mask s) = none :=
      (hostOf_congr (hlanded .houses (by decide))).trans hhost
    rw [forwardWrite_checked hbypass hmask, writeChecks, hostEffects, hfound]
    exact ((hlanded.mono (by decide)).andThen (watchMatch_within _ _ _ _) (by decide)).andThen (chaseSnoop_within _ _)
      (by decide)

theorem forwardWrite_elsewhere (hbypass : s.bypass = false) (hhost : hostOf (lineAddr line) s = none) :
    Bumps (fun z => ∃ e ∈ s.path.watch, e.zone = some z.id ∧ Touches (lineAddr line) mask e) s.sweep.zones
      (forwardWrite line data mask s).sweep.zones := by
  have hplace : redirect (lineAddr line) s = lineAddr line := by rw [redirect, hhost]
  by_cases hmask : mask = 0
  · have hzones : (forwardWrite line data mask s).sweep.zones = s.sweep.zones := by
      rw [hmask, forwardWrite_silent hbypass]
      exact (landed_within _ _ _ s).zones_eq rfl
    rw [hzones]
    refine bumps_refl fun z _ _ ⟨e, _, _, i, _, henabled, _⟩ => ?_
    rw [hmask] at henabled
    simp at henabled
  · refine bumps_congr (forwardWrite_zones hbypass hmask) fun z => ?_
    rw [hhost, hplace]
    simp

end

/-- Settles O11. -/
theorem grantedWritesReachTheirZones : Obligations.GrantedWritesReachTheirZones := by
  refine ⟨fun s line data mask rest h hready hhead hmask haddr hhost => ⟨_, rfl, ?_⟩,
    fun s line data mask rest hready hhead haddr hhost => ⟨_, rfl, ?_⟩,
    fun s line data rest h hready hhead hhost => ⟨_, rfl, ?_⟩⟩
  · have hgrant := mportGrant_elsewhere hready hhead haddr
    have hwritten := forwardWrite_within line data mask { s with turn := 1 }
    obtain ⟨_, hbypass, _, _⟩ := hready
    rw [hgrant]
    obtain ⟨hsize, hzones⟩ := forwardWrite_zones (s := { s with turn := 1 }) (line := line) (data := data) hbypass hmask
    refine ⟨?_, ?_, fun f hf => (hwritten (.flag f) (by simp [hf])).1, hsize, fun n z u hz hu => ?_⟩
    · exact forwardWrite_houses (s := { s with turn := 1 }) hbypass hmask hhost
    · show flagUp .lateWrite (forwardWrite line data mask { s with turn := 1 }) = true ↔ _
      rw [forwardWrite_late (s := { s with turn := 1 }) hbypass]
      exact landed_late (s := { s with turn := 1 }) hhost
    · have hpicked : (∃ g, hostOf (lineAddr line) s = some g ∧ g.stale = true ∧ z.cfg.id = g.zone)
          ↔ h.stale = true ∧ z.cfg.id = h.zone := by
        rw [hhost]
        exact ⟨fun ⟨g, hg, hwoken⟩ => Option.some.inj hg ▸ hwoken, fun hwoken => ⟨h, rfl, hwoken⟩⟩
      rw [← hpicked]
      exact hzones n z u hz hu
  · have hgrant := mportGrant_elsewhere hready hhead haddr
    obtain ⟨_, hbypass, _, _⟩ := hready
    rw [hgrant]
    have hquiet := forwardWrite_quiet (s := { s with turn := 1 }) (data := data) (mask := mask) hbypass hhost
    obtain ⟨hsize, hzones⟩ := forwardWrite_elsewhere (s := { s with turn := 1 }) (data := data) (mask := mask) hbypass hhost
    refine ⟨hquiet.status_eq (by simp) (by decide) (by decide) (by decide),
      hquiet.decoder_eq (by simp) (by decide) (by decide) (by decide), hquiet .houses (by decide), hquiet .watch (by decide), ?_, hsize, hzones⟩
    exact (congrArg State.sweep hquiet.eq_merge).trans
      (congrArg (fun t : State => { s.sweep with zones := t.sweep.zones }) hquiet.eq_merge).symm
  · have hgrant := mportGrant_writes hready hhead
    have hpartial : (0 : Mask) ≠ fullMask := by
      intro h
      have hbit : (0 : Mask).getLsbD 0 = (BitVec.allOnes 64).getLsbD 0 := congrArg (fun m : Mask => m.getLsbD 0) h
      simp at hbit
    rw [hgrant, handOffWrite_partial hpartial, forwardWrite_silent (s := { s with turn := 1 }) hready.2.1]
    have hlanded := landed_within line data 0 { s with turn := 1 }
    refine ⟨landed_late (s := { s with turn := 1 }) hhost, fun f hf => (hlanded (.flag f) (by simp [hf])).1,
      hlanded .houses (by decide), ?_, ?_⟩
    · show (landed line data 0 { s with turn := 1 }).sweep = s.sweep
      rw [landed, raiseIf]
      split <;> rfl
    · show (landed line data 0 { s with turn := 1 }).mem = s.mem
      rw [landed, raiseIf_mem]
      rw [writeLine_mem, memWriteBytes_none]

/-! ### The chase snoop -/

theorem recordFrame_outside {f : Nat} {c : Clip} (h : (f : Int) ≤ c.mark ∨ c.mark + 64 < f) : recordFrame f c = c := by
  refine if_neg ?_
  show ¬ (0 ≤ (f : Int) - c.mark - 1 ∧ (f : Int) - c.mark - 1 < 64)
  omega

/-- A growing clip with written mark 5 whose window holds the flag of frame 6. -/
def clipBehindItsWindow : Clip :=
  { state := .armed, endedDark := false, id := 1, bases := [0], stride := 64, frames := 10, inPoint := 0, outPoint := 9
    behaviour := .haltHold, growing := true, index := 0, angle := 0, pendingAngle := none, rate := 256
    pendingRate := none, acc := 0, mark := 5, window := 1, chase := none, heldByAlert := false }

/-- Refutes O12: its `k` ranges over the integers, so that it speaks of frames at or below the mark too. Such a frame
(frame 0 with mark 5, `k` being -6) is outside the window and records nothing, while the statement asks for an advance
over every flag that stands from mark + 1 on. -/
theorem not_chaseWindowAdvancesOverSetRun : ¬ Obligations.ChaseWindowAdvancesOverSetRun := by
  intro h
  obtain ⟨houtside, hinside⟩ := h.1 clipBehindItsWindow 0
  have hkept : recordFrame 0 clipBehindItsWindow = clipBehindItsWindow := houtside (.inl (by decide))
  obtain ⟨run, _, _, hstop, hmark, _⟩ := hinside (-6) (by decide) (by decide)
  rw [hkept] at hmark
  have hrun : run = 0 := by omega
  subst hrun
  exact hstop ⟨by decide, .inl (by decide)⟩

end Sys2Proof.Proofs
end

section
/-! PROOFS. The cue line (R46, R47): what each cue's line reads back as, and what its hand-off does. -/

namespace Sys2Proof.Proofs

open Sys2Proof.Machine Sys2Proof.Safety

/-- A line whose first six bytes are those of a cue: signature, code, a flags byte of 0, and tag. -/
def Headed (code : Byte) (tag : Half) (l : Line) : Prop :=
  halfAt l 0 = cueSignature ∧ byteAt l 2 = code ∧ byteAt l 3 = 0 ∧ halfAt l 4 = tag

theorem zero_or_bits {w : Nat} (x : BitVec w) : (0 : BitVec w) ||| x = x := BitVec.zero_or

theorem headed_cueHead (code : Byte) (tag : Half) : Headed code tag (cueHead code tag) := by
  simp (disch := omega) only [Headed, cueHead, halfAt, byteAt, field_place_or, field_place_other, field_zero, zero_or_bits,
    and_self]

/-- An operand behind the head leaves it as it is. -/
theorem headed_place {code : Byte} {tag : Half} {l : Line} (h : Headed code tag l) {off w : Nat} (hoff : 6 ≤ off)
    (v : BitVec w) : Headed code tag (place l off v) := by
  obtain ⟨hsignature, hcode, hflags, htag⟩ := h
  have hkept (a b : Nat) (hab : 8 * a + b ≤ 48) : field (place l off v) a b = field l a b :=
    field_place_other l a off v (.inl (by omega))
  exact ⟨(hkept 0 16 (by omega)).trans hsignature, (hkept 2 8 (by omega)).trans hcode, (hkept 3 8 (by omega)).trans hflags,
    (hkept 4 16 (by omega)).trans htag⟩

theorem decodeCue_headed {code : Byte} {tag : Half} {l : Line} (h : Headed code tag l) {i : Instr}
    (hcue : cueOfCode code.toNat l = some i) : decodeCue l = .cue i := by
  obtain ⟨hsignature, hcode, hflags, _⟩ := h
  rw [decodeCue, if_neg (not_not.2 hsignature), if_neg (not_not.2 hflags), byteNat, hcode, hcue]

/-! ### Operands behind a head -/

section
variable {code : Byte} {tag : Half}

/-- Behind the head of a cue line stands nothing yet. -/
theorem field_cueHead {off w : Nat} (hoff : 6 ≤ off) : field (cueHead code tag) off w = 0 := by
  simp (disch := omega) only [cueHead, field_place_other, field_zero]

theorem field_cueHead_tag : field (cueHead code tag) 4 16 = tag := (headed_cueHead code tag).2.2.2

theorem headed_message {l : Line} (h : Headed code tag l) (m : MessageOperand) : Headed code tag (writeMessage l m) := by
  have hfirst := headed_place (headed_place (headed_place (headed_place h (off := 8) (by decide) m.id) (off := 10)
    (by decide) m.priority) (off := 11) (by decide) m.sponsor) (off := 12) (by decide) m.mode
  have hsizes := headed_place (headed_place (headed_place hfirst (off := 13) (by decide) m.speed) (off := 14) (by decide)
    m.width) (off := 16) (by decide) m.height
  exact headed_place (headed_place (headed_place hsizes (off := 18) (by decide) m.duration) (off := 20) (by decide)
    m.repeats) (off := 24) (by decide) m.addr

theorem readMessage_writeMessage {l : Line} (hblank : ∀ off w, 8 ≤ off → field l off w = 0) (m : MessageOperand) :
    readMessage (writeMessage l m) = m := by
  simp (disch := omega) only [readMessage, writeMessage, byteAt, halfAt, quadAt, field_place_or, field_place_other, hblank,
    zero_or_bits]

theorem headed_amend (op : AmendOperand) : Headed code tag (writeAmend (cueHead code tag) op) := by
  have hfirst := headed_place (headed_place (headed_place (headed_place (headed_cueHead code tag) (off := 6) (by decide)
    op.ribbon) (off := 7) (by decide) op.mode) (off := 8) (by decide) op.commitPoint) (off := 9) (by decide) op.count
  exact headed_place (headed_place (headed_place (headed_place hfirst (off := 10) (by decide) op.width) (off := 12)
    (by decide) op.height) (off := 16) (by decide) op.house) (off := 24) (by decide) op.slots

theorem readAmend_writeAmend (op : AmendOperand) : readAmend (writeAmend (cueHead code tag) op) = op := by
  simp (disch := omega) only [readAmend, writeAmend, byteAt, halfAt, quadAt, field_place_or, field_place_other,
    field_cueHead, zero_or_bits]

theorem headed_clockSet (op : ClockSetOperand) : Headed code tag (writeClockSet (cueHead code tag) op) := by
  have hfirst := headed_place (headed_place (headed_place (headed_place (headed_cueHead code tag) (off := 8) (by decide)
    op.gameValue) (off := 12) (by decide) op.direction) (off := 13) (by decide) op.gameRunning) (off := 14) (by decide)
    op.tenths
  exact headed_place (headed_place (headed_place (headed_place hfirst (off := 15) (by decide) op.period) (off := 16)
    (by decide) op.source) (off := 17) (by decide) op.secondaryRunning) (off := 20) (by decide) op.secondaryValue

theorem readClockSet_writeClockSet (op : ClockSetOperand) :
    readClockSet (writeClockSet (cueHead code tag) op) = op := by
  simp (disch := omega) only [readClockSet, writeClockSet, byteAt, wordAt, field_place_or, field_place_other, field_cueHead,
    zero_or_bits]

theorem headed_score (p : ScorePayload) : Headed code tag (writeScore (cueHead code tag) p) :=
  headed_place (headed_place (headed_place (headed_place (headed_cueHead code tag) (off := 6) (by decide) p.home)
    (off := 8) (by decide) p.guest) (off := 10) (by decide) p.homeAux) (off := 11) (by decide) p.guestAux

theorem readScore_writeScore (p : ScorePayload) : readScore (writeScore (cueHead code tag) p) = p := by
  simp (disch := omega) only [readScore, writeScore, byteAt, halfAt, field_place_or, field_place_other, field_cueHead,
    zero_or_bits]

theorem cueOfCode_cancel (l : Line) : cueOfCode 0x82 l
    = some (if byteAt l 6 = 0 then .cancelLong (halfAt l 4) else .cancelStaged (halfAt l 4) (byteAt l 6)) := rfl

end

/-- Settles O17: a cue line's head stands clear of its operands, and each operand is read where it was placed. -/
theorem cueLineReadsBack : Obligations.CueLineReadsBack := by
  intro i l hgood hline
  cases i
  case clipTake tag | clipHold tag | clipResume tag | clipDrop tag | alertClear tag | restart tag =>
    obtain rfl := Option.some.inj hline
    refine decodeCue_headed (headed_cueHead _ tag) ?_
    simp only [cueOfCode, BitVec.reduceToNat, halfAt, field_cueHead_tag]
  case layoutLoad tag v | glyphLoad tag v | clipArm tag v | alertRaise tag v | statusClear tag v | attentionMask tag v =>
    obtain rfl := Option.some.inj hline
    refine decodeCue_headed (headed_place (headed_cueHead _ tag) (by decide) v) ?_
    simp (disch := omega) only [cueOfCode, BitVec.reduceToNat, halfAt, wordAt, quadAt, field_place_or, field_place_other,
      field_cueHead_tag, field_cueHead, zero_or_bits]
  case flip tag v | clipRate tag v | clipAngle tag v | ribbonEnable tag v | ribbonDisable tag v | messageWithdraw tag v
      | clockRun tag v | clockStop tag v =>
    obtain rfl := Option.some.inj hline
    refine decodeCue_headed (headed_place (headed_cueHead _ tag) (by decide) v) ?_
    simp (disch := omega) only [cueOfCode, BitVec.reduceToNat, halfAt, byteAt, field_place_or, field_place_other,
      field_cueHead_tag, field_cueHead, zero_or_bits]
  case messagePost tag m =>
    obtain rfl := Option.some.inj hline
    have hhead : Headed 0x40 tag (writeMessage (cueHead 0x40 tag) m) := headed_message (headed_cueHead 0x40 tag) m
    refine decodeCue_headed hhead ?_
    simp only [cueOfCode, BitVec.reduceToNat, hhead.2.2.2, readMessage_writeMessage (fun _ _ h => field_cueHead (by omega))]
  case celebrationSet tag e m =>
    obtain rfl := Option.some.inj hline
    have hhead : Headed 0x42 tag (writeMessage (place (cueHead 0x42 tag) 6 e) m) :=
      headed_message (headed_place (headed_cueHead 0x42 tag) (by decide) e) m
    have hblank (off w : Nat) (h : 8 ≤ off) : field (place (cueHead 0x42 tag) 6 e) off w = 0 := by
      rw [field_place_other _ _ _ _ (by omega), field_cueHead (by omega)]
    have hflag : byteAt (writeMessage (place (cueHead 0x42 tag) 6 e) m) 6 = e := by
      simp (disch := omega) only [writeMessage, byteAt, field_place_or, field_place_other, field_cueHead, zero_or_bits]
    refine decodeCue_headed hhead ?_
    simp only [cueOfCode, BitVec.reduceToNat, hhead.2.2.2, readMessage_writeMessage hblank, hflag]
  case rotationAmend tag op =>
    obtain rfl := Option.some.inj hline
    refine decodeCue_headed (headed_amend op) ?_
    simp only [cueOfCode, BitVec.reduceToNat, (headed_amend op).2.2.2, readAmend_writeAmend]
  case clockSet tag op =>
    obtain rfl := Option.some.inj hline
    refine decodeCue_headed (headed_clockSet op) ?_
    simp only [cueOfCode, BitVec.reduceToNat, (headed_clockSet op).2.2.2, readClockSet_writeClockSet]
  case scoreSet tag p =>
    obtain rfl := Option.some.inj hline
    refine decodeCue_headed (headed_score p) ?_
    simp only [cueOfCode, BitVec.reduceToNat, (headed_score p).2.2.2, readScore_writeScore]
  case clipPlay tag v x | brightnessSet tag v x =>
    obtain rfl := Option.some.inj hline
    refine decodeCue_headed (headed_place (headed_place (headed_cueHead _ tag) (by decide) v) (by decide) x) ?_
    simp (disch := omega) only [cueOfCode, BitVec.reduceToNat, halfAt, byteAt, field_place_or, field_place_other,
      field_cueHead_tag, field_cueHead, zero_or_bits]
  case exposureSnapshot tag v x a | alertStandingSet tag v x a =>
    obtain rfl := Option.some.inj hline
    refine decodeCue_headed (headed_place (headed_place (headed_place (headed_cueHead _ tag) (by decide) v) (by decide) x)
      (by decide) a) ?_
    simp (disch := omega) only [cueOfCode, BitVec.reduceToNat, halfAt, byteAt, wordAt, quadAt, field_place_or,
      field_place_other, field_cueHead_tag, field_cueHead, zero_or_bits]
  case cancelLong tag =>
    obtain rfl := Option.some.inj hline
    refine decodeCue_headed (headed_cueHead _ tag) ((cueOfCode_cancel _).trans ?_)
    rw [show byteAt (cueHead 0x82 tag) 6 = 0 from field_cueHead (by decide), if_pos rfl, halfAt, field_cueHead_tag]
  case cancelStaged tag v =>
    obtain rfl := Option.some.inj hline
    have hhead := headed_place (headed_cueHead 0x82 tag) (off := 6) (by decide) v
    have htarget : byteAt (place (cueHead 0x82 tag) 6 v) 6 = v := by
      rw [byteAt, field_place_or _ _ _ (by decide), field_cueHead (by decide), zero_or_bits]
    refine decodeCue_headed hhead ((cueOfCode_cancel _).trans ?_)
    rw [htarget, if_neg (bne_iff_ne.1 hgood), hhead.2.2.2]
  all_goals exact nomatch hline

/-! ### The hand-off -/

/-- A cue's command is its dispatch. -/
theorem exec_dispatch {i : Instr} {l : Line} (hline : encodeCue i = some l) {s : State} (hbypass : s.bypass = false) :
    exec i s = .next (dispatch i s) := by
  have heffect : effect i s = outOfBypass (dispatch i) s := by
    cases i
    case coldReset | resetDeassert | initialisationComplete | transactionAccepted | mportGrant | progressLineRead
        | sweepLineArrival | layoutLineArrival | glyphLineArrival | clipDescriptorLineArrival | slotRecordLineArrival
        | sweepBoundary | slotDeadline | linkReadyFalls | linkReadyRises | clockTimebaseStep | clockExpiry
        | gapTimerExpiry | beaconWatchdogExpiry | beacon | scoreFrame | idleTimerExpiry | chaseTimeout
        | gatherTimerExpiry | venueAlertLineAsserted | venueAlertLineDeasserted | debounceExpiry | heatLineAsserted
        | heatLineDeasserted | warmTimerExpiry | coolTimerExpiry | timingLineByte => exact nomatch hline
    all_goals rfl
  rw [exec_eq, heffect, outOfBypass_out hbypass]

theorem handOff_cue {i : Instr} {l : Line} (hgood : i.wellFormed = true) (hline : encodeCue i = some l) (s : State) :
    handOff l fullMask s = dispatch i s := by
  rw [handOff, if_neg (not_not.2 rfl), cueLineReadsBack i l hgood hline]

theorem handOff_full {data : Line} (s : State) : handOff data fullMask s = match decodeCue data with
    | .notCue => s
    | .unknown code tag => settleShort tag code .unknownCue 0 s
    | .cue i => dispatch i s := if_neg (not_not.2 rfl)

theorem decodeCue_unsigned {data : Line} (h : halfAt data 0 ≠ 0x51A7) : decodeCue data = .notCue := if_pos h

theorem decodeCue_flagged {data : Line} (hsignature : halfAt data 0 = 0x51A7) (h : byteAt data 3 ≠ 0) :
    decodeCue data = .unknown (byteAt data 2) (halfAt data 4) := by
  rw [decodeCue, if_neg (not_not.2 (show halfAt data 0 = cueSignature from hsignature)), if_pos h]

/-- The codes of the operand table. -/
theorem cueOfCode_unlisted {n : Nat} (l : Line)
    (h : n ∉ [0x01, 0x02, 0x03, 0x04, 0x05, 0x10, 0x20, 0x21, 0x22, 0x23, 0x24, 0x25, 0x26, 0x30, 0x31, 0x40, 0x41, 0x42,
      0x50, 0x51, 0x52, 0x60, 0x70, 0x71, 0x72, 0x73, 0x80, 0x81, 0x82, 0x83]) : cueOfCode n l = none := by
  unfold cueOfCode
  dsimp only
  split
  case h_31 => rfl
  all_goals exact (h (by decide)).elim

/-- Settles O18. -/
theorem cueLineRunsItsCue : Obligations.CueLineRunsItsCue := by
  refine ⟨fun s line data rest i hready hhead haddr hgood hline => ?_, fun s data mask =>
    ⟨fun hpartial => if_pos hpartial, fun hunsigned => ?_, fun hsignature hflags => ?_, fun hsignature hcode => ?_⟩⟩
  · have hwritten := forwardWrite_within line data fullMask { s with turn := 1 }
    have hbypass : (forwardWrite line data fullMask { s with turn := 1 }).bypass = false :=
      Eq.trans (hwritten .bypass (by decide)) hready.2.1
    have hsegment : (forwardWrite line data fullMask { s with turn := 1 }).segment = s.segment :=
      hwritten .segment (by decide)
    have hcue : isApertureLine 0 line (forwardWrite line data fullMask { s with turn := 1 }) = true := by
      rw [isApertureLine, apertureLine, apertureBase, hsegment]
      exact beq_iff_eq.2 haddr
    refine ⟨_, exec_dispatch hline hbypass, ?_⟩
    rw [exec_mportGrant, mportGrant_writes hready hhead, handOffWrite, hbypass, hcue, ← handOff_cue hgood hline]
    rfl
  · by_cases hmask : mask = fullMask
    · rw [hmask, handOff_full, decodeCue_unsigned hunsigned]
    · exact if_pos hmask
  · rw [handOff_full, decodeCue_flagged hsignature hflags]
  · have hunknown : decodeCue data = .unknown (byteAt data 2) (halfAt data 4) := by
      by_cases hflags : byteAt data 3 = 0
      · rw [decodeCue, if_neg (not_not.2 (show halfAt data 0 = cueSignature from hsignature)),
          if_neg (not_not.2 hflags), cueOfCode_unlisted data hcode]
      · exact decodeCue_flagged hsignature hflags
    rw [handOff_full, hunknown]

end Sys2Proof.Proofs
end

section
/-! PROOFS. Record lines of layouts, glyph sets and clips as they arrive (R2, R3 to R6, R86 to R89, R101 to R105). -/

namespace Sys2Proof.Proofs

open Sys2Proof.Machine Sys2Proof.Safety

/-! ### Arrivals -/

/-- R50: the arrival of a line that its owner uses. -/
theorem arrival_used {mine : FlightOrigin → Bool} {use : Line → State → State} {s : State} {origin : FlightOrigin}
    {data : Line} (hport : s.port = some { origin := origin, data := data, dropped := false })
    (hmine : mine origin = true) : arrival mine use s = use data { s with port := none } := by
  rw [arrival, hport]
  exact if_pos hmine

theorem lane_counted {s : State} {l : Lane} (hlane : s.decoder.lane = some l) (n : Nat) :
    some { l with records := n } = s.decoder.lane.map (fun l => { l with records := n }) := by
  rw [hlane]
  rfl

section
variable {s : State} {l : Lane} {hd line : Line}

/-! ### Layout lines -/

theorem zoneCountOk_iff (addr n : Nat) : zoneCountOk addr n = true ↔ 1 ≤ n ∧ n ≤ 24 ∧ addr + 64 * n < 0x400000000 := by
  simp only [zoneCountOk, Bool.and_eq_true, decide_eq_true_eq, and_assoc]
  rfl

theorem layoutLine_header {load : LayoutLoad} (hlane : s.decoder.lane = some l) (hload : s.sweep.load = some load)
    (hnone : load.lines = []) (hok : zoneCountOk load.addr (byteNat hd 5) = true) :
    layoutLine hd s = { s with
      decoder := { s.decoder with lane := some { l with records := 1 } }
      sweep := { s.sweep with load := some { load with lines := [hd], count := byteNat hd 5 } } } := by
  rw [layoutLine, hload, lane_counted hlane]
  dsimp only
  rw [hnone]
  exact if_pos hok

theorem layoutLine_badHeader {load : LayoutLoad} (hlane : s.decoder.lane = some l) (hload : s.sweep.load = some load)
    (hnone : load.lines = []) (hbad : ¬ zoneCountOk load.addr (byteNat hd 5) = true) :
    layoutLine hd s = settleLong .range 0 { s with
      decoder := { s.decoder with lane := some { l with records := 1 } }, sweep := { s.sweep with load := none } } := by
  rw [layoutLine, hload, lane_counted hlane]
  dsimp only
  rw [hnone]
  exact if_neg hbad

/-- R2, R3: a line behind the header is kept, and the last one has the layout judged. -/
theorem layoutLine_next {load : LayoutLoad} {kept : List Line} (hlane : s.decoder.lane = some l)
    (hload : s.sweep.load = some load) (hlines : load.lines = hd :: kept) :
    let taken : State := { s with
      decoder := { s.decoder with lane := some { l with records := kept.length + 2 } }
      sweep := { s.sweep with load := some { load with lines := hd :: kept ++ [line] } } }
    layoutLine line s = if kept.length + 1 = load.count then
      judgeLayout { load with lines := hd :: kept ++ [line] } hd (kept ++ [line]) taken else taken := by
  have hall : (hd :: kept ++ [line]).length = kept.length + 2 := by simp
  have hrecords : (kept ++ [line]).length = kept.length + 1 := by simp
  rw [layoutLine, hload, lane_counted hlane]
  dsimp only
  rw [hlines, hall, ← hrecords]
  cases kept <;> rfl

/-! ### Glyph lines -/

theorem glyphHeaderOk_iff (hd : Line) : glyphHeaderOk hd = true ↔ 16 ≤ halfNat hd 0 ∧ halfNat hd 0 ≤ 256
    ∧ halfNat hd 0 % 16 = 0 ∧ 16 ≤ halfNat hd 2 ∧ halfNat hd 2 ≤ 512 ∧ halfNat hd 2 % 16 = 0 ∧ byteNat hd 4 < 8 := by
  simp only [glyphHeaderOk, Bool.and_eq_true, sizeOk_iff, decide_eq_true_eq, and_assoc]

theorem glyphLine_header {load : GlyphLoad} (hlane : s.decoder.lane = some l) (hload : s.figures.load = some load)
    (hnone : load.lines = []) : glyphLine hd s =
      if glyphHeaderOk hd = true then
        { s with
          decoder := { s.decoder with lane := some { l with records := 1 } }
          figures := { s.figures with load := some { load with lines := [hd] } } }
      else settleLong .range 0 { s with
        decoder := { s.decoder with lane := some { l with records := 1 } }, figures := { s.figures with load := none } } := by
  rw [glyphLine, hload, lane_counted hlane]
  dsimp only
  rw [hnone]
  rfl

theorem glyphLine_second {load : GlyphLoad} (hlane : s.decoder.lane = some l) (hload : s.figures.load = some load)
    (hlines : load.lines = [hd]) : glyphLine line s = { s with
      decoder := { s.decoder with lane := some { l with records := 2 } }
      figures := { s.figures with load := some { load with lines := [hd, line] } } } := by
  rw [glyphLine, hload, lane_counted hlane]
  dsimp only
  rw [hlines]
  rfl

theorem glyphLine_last {load : GlyphLoad} {l0 l1 l2 : Line} (hlane : s.decoder.lane = some l)
    (hload : s.figures.load = some load) (hlines : load.lines = [l0, l1]) :
    glyphLine l2 s = judgeGlyphs l0 l1 l2 { s with
      decoder := { s.decoder with lane := some { l with records := 3 } }
      figures := { s.figures with load := some { load with lines := [l0, l1, l2] } } } := by
  rw [glyphLine, hload, lane_counted hlane]
  dsimp only
  rw [hlines]
  rfl

/-! ### Clip lines -/

/-- R102: the field checks of a clip header, as the statements spell them. -/
def ClipHeaderFine (hd : Line) : Prop :=
  halfNat hd 0 ≠ 0 ∧ 1 ≤ byteNat hd 2 ∧ byteNat hd 2 ≤ 8 ∧ byteNat hd 3 ≤ 3 ∧ byteNat hd 4 ≤ 1
    ∧ wordNat hd 8 % 64 = 0 ∧ halfNat hd 12 ≠ 0 ∧ halfNat hd 14 ≤ halfNat hd 16 ∧ halfNat hd 16 < halfNat hd 12
    ∧ (byteNat hd 4 = 1 → halfNat hd 18 ≤ halfNat hd 12 ∧ byteNat hd 2 ≤ 1 ∧ byteNat hd 3 ≠ 3)

theorem clipHeaderOk_iff (hd : Line) : clipHeaderOk hd = true ↔ ClipHeaderFine hd := by
  simp only [clipHeaderOk, ClipHeaderFine, Bool.and_eq_true, Bool.or_eq_true, bne_iff_ne, beq_iff_eq, decide_eq_true_eq,
    and_assoc]
  refine and_congr_right fun _ => and_congr_right fun _ => and_congr_right fun _ => and_congr_right fun _ =>
    and_congr_right fun hflag => and_congr_right fun _ => and_congr_right fun _ => and_congr_right fun _ =>
    and_congr_right fun _ => ?_
  constructor
  · rintro (h | h) hone
    · omega
    · exact h
  · intro h
    rcases Nat.eq_zero_or_pos (byteNat hd 4) with h0 | h1
    · exact .inl h0
    · exact .inr (h (by omega))

theorem judgeHeader_bad (h : ¬ ClipHeaderFine hd) : judgeHeader hd s = some .range := by
  rw [judgeHeader, eq_false_of_ne_true (mt (clipHeaderOk_iff hd).1 h)]
  rfl

theorem judgeHeader_noZone (h : ClipHeaderFine hd) (hnone : replayZone s = none) : judgeHeader hd s = some .noZone := by
  rw [judgeHeader, (clipHeaderOk_iff hd).2 h, hnone]
  rfl

theorem judgeHeader_short {z : ZoneRec} (h : ClipHeaderFine hd) (hz : replayZone s = some z)
    (hshort : wordNat hd 8 < z.w * z.h * 4) : judgeHeader hd s = some .geometry := by
  rw [judgeHeader, (clipHeaderOk_iff hd).2 h, hz]
  exact if_pos hshort

theorem judgeHeader_fits {z : ZoneRec} (h : ClipHeaderFine hd) (hz : replayZone s = some z)
    (hfits : z.w * z.h * 4 ≤ wordNat hd 8) : judgeHeader hd s = none := by
  rw [judgeHeader, (clipHeaderOk_iff hd).2 h, hz]
  exact if_neg (Nat.not_lt.2 hfits)

theorem clipLine_header {addr : Nat} (hlane : s.decoder.lane = some l)
    (harm : s.replay.arm = some { addr := addr, header := none }) : clipLine hd s =
      match judgeHeader hd s with
      | some r => settleLong r 0 { s with
          decoder := { s.decoder with lane := some { l with records := 1 } }, replay := { s.replay with arm := none } }
      | none => { s with
          decoder := { s.decoder with lane := some { l with records := 1 } }
          replay := { s.replay with arm := some { addr := addr, header := some hd } } } := by
  rw [clipLine, harm, lane_counted hlane]
  rfl

theorem clipLine_second {addr : Nat} {l1 : Line} (hlane : s.decoder.lane = some l)
    (harm : s.replay.arm = some { addr := addr, header := some hd }) : clipLine l1 s =
      judgeClip hd l1 { s with decoder := { s.decoder with lane := some { l with records := 2 } } } := by
  rw [clipLine, harm, lane_counted hlane]
  rfl

end

/-- Settles O20. -/
theorem recordHeaderArrivals : Obligations.RecordHeaderArrivals := by
  refine ⟨fun s l hd addr hlane hopen => ?_, fun s l hd line hlane hopen => ?_, fun s f hport hdropped => ?_⟩
  · intro counted
    refine ⟨fun hport hload => ⟨fun hok => ?_, fun hbad => ?_⟩, fun hport hload => ⟨fun hok => ?_, fun hbad => ?_⟩,
      fun hport harm => ?_⟩
    · refine congrArg Host.Outcome.next ((arrival_used hport rfl).trans ?_)
      rw [layoutLine_header (s := { s with port := none }) hlane hload rfl ((zoneCountOk_iff _ _).2 hok)]
    · refine congrArg Host.Outcome.next ((arrival_used hport rfl).trans ?_)
      rw [layoutLine_badHeader (s := { s with port := none }) hlane hload rfl (mt (zoneCountOk_iff _ _).1 hbad)]
    · refine congrArg Host.Outcome.next ((arrival_used hport rfl).trans ?_)
      rw [glyphLine_header (s := { s with port := none }) hlane hload rfl, if_pos ((glyphHeaderOk_iff hd).2 hok)]
    · refine congrArg Host.Outcome.next ((arrival_used hport rfl).trans ?_)
      rw [glyphLine_header (s := { s with port := none }) hlane hload rfl, if_neg (mt (glyphHeaderOk_iff hd).1 hbad)]
    · intro fine ended
      have harrives := (arrival_used (use := clipLine) hport (mine := fun o => o == .clip) rfl).trans
        (clipLine_header (s := { s with port := none }) hlane harm)
      have hexec {t : State} (h : clipArrival s = t) : exec .clipDescriptorLineArrival s = .next t :=
        congrArg Host.Outcome.next h
      refine ⟨fun hfine => ⟨fun z hz => ⟨fun hfits => hexec (harrives.trans ?_), fun hshort => hexec (harrives.trans ?_)⟩,
        fun hnone => hexec (harrives.trans ?_)⟩, fun hbad => hexec (harrives.trans ?_)⟩
      · rw [judgeHeader_fits (s := { s with port := none }) hfine hz hfits]
      · rw [judgeHeader_short (s := { s with port := none }) hfine hz hshort]
      · rw [judgeHeader_noZone (s := { s with port := none }) hfine hnone]
      · rw [judgeHeader_bad hbad]
  · intro counted
    refine ⟨fun load kept hport hload hlines hmore => ?_, fun addr hport hload => ?_⟩
    · refine congrArg Host.Outcome.next ((arrival_used hport rfl).trans ?_)
      rw [layoutLine_next (s := { s with port := none }) hlane hload hlines, if_neg (by omega)]
    · refine congrArg Host.Outcome.next ((arrival_used hport rfl).trans ?_)
      rw [glyphLine_second (s := { s with port := none }) hlane hload rfl]
  · refine ⟨fun horigin => ?_, fun horigin => ?_, fun horigin => ?_, fun horigin => ?_⟩
    all_goals exact congrArg Host.Outcome.next (arrival_dropped hport (by rw [horigin]; rfl) hdropped)

end Sys2Proof.Proofs
end

section
/-! PROOFS. The last line of a glyph set (R87 to R89) and of a clip descriptor (R104, R105). -/

namespace Sys2Proof.Proofs

open Sys2Proof.Machine Sys2Proof.Safety

/-! ### The lowest zone -/

/-- The enabled zone of an ID, where IDs are distinct. -/
theorem find_enabled {s : State} {z : Zone} (hdistinct : s.sweep.zones.Pairwise (fun a b => a.cfg.id ≠ b.cfg.id))
    (hz : z ∈ s.sweep.zones) (henabled : z.cfg.enabled = true) :
    s.sweep.zones.find? (fun y => y.cfg.id == z.cfg.id && y.cfg.enabled) = some z := by
  have hnodup : (s.sweep.zones.map (·.cfg.id)).Nodup := List.pairwise_map.2 hdistinct
  cases hfind : s.sweep.zones.find? (fun y => y.cfg.id == z.cfg.id && y.cfg.enabled) with
  | none => exact (List.find?_eq_none.1 hfind z hz (by simp [henabled])).elim
  | some y =>
    have hpicked := List.find?_some hfind
    rw [Bool.and_eq_true, beq_iff_eq] at hpicked
    exact congrArg some (List.inj_on_of_nodup_map hnodup (List.mem_of_find?_eq_some hfind) hz hpicked.1)

/-- The lowest zone ID, below 24, of an enabled zone that a test picks. -/
theorem find_enabledZones_lowest {s : State} {z : Zone} {p : Zone → Bool}
    (hdistinct : s.sweep.zones.Pairwise (fun a b => a.cfg.id ≠ b.cfg.id)) (hz : z ∈ s.sweep.zones) (hid : z.cfg.id < 24)
    (henabled : z.cfg.enabled = true) (hp : p z = true)
    (hlowest : ∀ y ∈ s.sweep.zones, y.cfg.enabled = true → p y = true → z.cfg.id ≤ y.cfg.id) :
    (enabledZones s).find? p = some z := by
  have hfound := find_enabled hdistinct hz henabled
  have hfirst : (List.range Config.zoneIds).find? (fun id =>
      (s.sweep.zones.find? (fun y => y.cfg.id == id && y.cfg.enabled)).any p) = some z.cfg.id := by
    refine List.find?_range_eq_some.2 ⟨by rw [hfound]; exact hp, List.mem_range.2 hid, fun j hj => ?_⟩
    rw [Bool.not_eq_true', Option.any_eq_false]
    intro y hy
    have hpicked := List.find?_some hy
    rw [Bool.and_eq_true, beq_iff_eq] at hpicked
    exact eq_false_of_ne_true fun hbad =>
      Nat.not_lt.2 (hlowest y (List.mem_of_find?_eq_some hy) hpicked.2 hbad) (hpicked.1 ▸ hj)
  rw [enabledZones, List.find?_filterMap, hfirst, Option.bind_some, hfound]

theorem find_enabledZones_none {s : State} {p : Zone → Bool} (h : ∀ z ∈ s.sweep.zones, z.cfg.enabled = true → p z = false) :
    (enabledZones s).find? p = none := by
  refine List.find?_eq_none.2 fun z hz => ?_
  obtain ⟨id, _, hfind⟩ := List.mem_filterMap.1 hz
  have hpicked := List.find?_some hfind
  rw [Bool.and_eq_true] at hpicked
  exact Bool.not_eq_true _ ▸ h z (List.mem_of_find?_eq_some hfind) hpicked.2

/-! ### The glyph set -/

/-- R88: a zone that the cells of a set do not fit. -/
def Misfit (cellWidth cellHeight : Nat) (z : Zone) : Prop :=
  z.cfg.enabled = true ∧ ∃ f, z.cfg.role = .figure f ∧ (z.cfg.w < cellCount f * cellWidth ∨ z.cfg.h ≠ cellHeight)

theorem figureFits_false_iff (cw ch : Nat) (z : ZoneRec) :
    (!figureFits cw ch z) = true ↔ ∃ f, z.role = .figure f ∧ (z.w < cellCount f * cw ∨ z.h ≠ ch) := by
  rw [Bool.not_eq_true', figureFits]
  cases z.role
  case figure f =>
    rw [Bool.and_eq_false_iff, decide_eq_false_iff_not, Nat.not_le, beq_eq_false_iff_ne]
    exact ⟨fun h => ⟨f, rfl, h⟩, fun ⟨_, hf, h⟩ => Role.figure.inj hf ▸ h⟩
  all_goals exact ⟨nofun, fun ⟨_, hf, _⟩ => nomatch hf⟩

theorem misfitZone_lowest {g : GlyphSet} {s : State} {z : Zone}
    (hdistinct : s.sweep.zones.Pairwise (fun a b => a.cfg.id ≠ b.cfg.id)) (hz : z ∈ s.sweep.zones) (hid : z.cfg.id < 24)
    (hmisfit : Misfit g.cellWidth g.cellHeight z)
    (hlowest : ∀ y ∈ s.sweep.zones, Misfit g.cellWidth g.cellHeight y → z.cfg.id ≤ y.cfg.id) :
    misfitZone g s = some z.cfg.id := by
  rw [misfitZone, find_enabledZones_lowest hdistinct hz hid hmisfit.1 ((figureFits_false_iff _ _ _).2 hmisfit.2)
    fun y hy henabled hp => hlowest y hy ⟨henabled, (figureFits_false_iff _ _ _).1 hp⟩]
  rfl

theorem misfitZone_none {g : GlyphSet} {s : State} (h : ∀ z ∈ s.sweep.zones, ¬ Misfit g.cellWidth g.cellHeight z) :
    misfitZone g s = none := by
  rw [misfitZone, find_enabledZones_none fun z hz henabled =>
    eq_false_of_ne_true fun hp => h z hz ⟨henabled, (figureFits_false_iff _ _ _).1 hp⟩]
  rfl

/-- R86: where the raster of glyph `g` lies. -/
def rasterOf (l1 l2 : Line) (g : Nat) : Nat := if g < 8 then quadNat l1 (8 * g) else quadNat l2 (8 * (g - 8))

theorem glyphAddrs_getD (l1 l2 : Line) {g : Nat} (hg : g < 16) : (glyphAddrs l1 l2).getD g 0 = rasterOf l1 l2 g := by
  rw [glyphAddrs, rasterOf]
  by_cases h : g < 8
  · simp [List.getElem?_append, h]
  · have hrest : g - 8 < 8 := by omega
    simp [List.getElem?_append, h, hrest]

/-- R87: the glyphs of a set. -/
def InSet (l0 : Line) (g : Nat) : Prop := g < 13 ∨ (g < 16 ∧ (byteAt l0 4).getLsbD (g - 13) = true)

theorem glyphPresent_iff (l0 : Line) {g : Nat} (hg : g < 16) : glyphPresent (byteAt l0 4) g = true ↔ InSet l0 g := by
  simp [glyphPresent, InSet, hg]

theorem inSet_lt {l0 : Line} {g : Nat} (h : InSet l0 g) : g < 16 := h.elim (fun h => by omega) And.left

/-- R87: the raster of a glyph is aligned and in memory. -/
def GlyphFine (l0 l1 l2 : Line) (g : Nat) : Prop :=
  rasterOf l1 l2 g % 64 = 0 ∧ rasterOf l1 l2 g + halfNat l0 0 * halfNat l0 2 * 4 ≤ 0x400000000

theorem badGlyph_test (l0 l1 l2 : Line) {g : Nat} (hg : g < 16) :
    (glyphPresent (byteAt l0 4) g && !(lineAligned ((glyphAddrs l1 l2).getD g 0)
      && fits ((glyphAddrs l1 l2).getD g 0) (rasterBytes (halfNat l0 0) (halfNat l0 2)))) = true
      ↔ InSet l0 g ∧ ¬ GlyphFine l0 l1 l2 g := by
  rw [Bool.and_eq_true, glyphPresent_iff l0 hg, glyphAddrs_getD l1 l2 hg, Bool.not_eq_true', ← Bool.not_eq_true,
    Bool.and_eq_true, lineAligned_iff, fits_iff]
  rfl

theorem badGlyph_lowest {l0 l1 l2 : Line} {g : Nat} (hin : InSet l0 g) (hbad : ¬ GlyphFine l0 l1 l2 g)
    (hlowest : ∀ j, j < g → InSet l0 j → GlyphFine l0 l1 l2 j) : badGlyph l0 l1 l2 = some g := by
  have hg := inSet_lt hin
  refine List.find?_range_eq_some.2 ⟨(badGlyph_test l0 l1 l2 hg).2 ⟨hin, hbad⟩, List.mem_range.2 hg, fun j hj => ?_⟩
  rw [Bool.not_eq_true']
  exact eq_false_of_ne_true fun htest =>
    have hj16 : j < 16 := hj.trans hg
    ((badGlyph_test l0 l1 l2 hj16).1 htest).2 (hlowest j hj ((badGlyph_test l0 l1 l2 hj16).1 htest).1)

theorem badGlyph_none {l0 l1 l2 : Line} (h : ∀ g, InSet l0 g → GlyphFine l0 l1 l2 g) : badGlyph l0 l1 l2 = none := by
  refine List.find?_range_eq_none.2 fun g hg => ?_
  rw [Bool.not_eq_true']
  exact eq_false_of_ne_true fun htest =>
    ((badGlyph_test l0 l1 l2 hg).1 htest).2 (h g ((badGlyph_test l0 l1 l2 hg).1 htest).1)

theorem glyphSetOf_addrs (l0 l1 l2 : Line) {g : Nat} (h : InSet l0 g) :
    (glyphSetOf l0 l1 l2).addrs.getD g 0 = rasterOf l1 l2 g := by
  have hg := inSet_lt h
  have hlength : (glyphAddrs l1 l2).length = 16 := by simp [glyphAddrs]
  have hpresent := (glyphPresent_iff l0 hg).2 h
  rw [← glyphAddrs_getD l1 l2 hg, glyphSetOf, List.getD_eq_getElem?_getD, List.getD_eq_getElem?_getD, List.getElem?_mapIdx,
    List.getElem?_eq_getElem (hlength.symm ▸ hg), Option.map_some, if_pos hpresent]

theorem glyphCount_glyphSetOf (l0 l1 l2 : Line) : glyphCount (glyphSetOf l0 l1 l2) =
    13 + ((byteAt l0 4).getLsbD 0).toNat + ((byteAt l0 4).getLsbD 1).toNat + ((byteAt l0 4).getLsbD 2).toNat := by
  have hflag (b : Bool) : flagNat b = b.toNat := by cases b <;> rfl
  rw [glyphCount, hflag, hflag, hflag]
  rfl

/-- The state with a set in use and its strings, before it is reported. -/
def withGlyphs (g : GlyphSet) (s : State) : State :=
  { s with figures := { s.figures with
      glyphs := some g
      strings := renderStrings { s.figures with glyphs := some g } s.clock.gameString s.clock.secondaryString } }

theorem replaceGlyphs_eq (g : GlyphSet) (s : State) :
    replaceGlyphs g s = rebuildWatch (bumpZones isFigure (withGlyphs g s)) := rfl

section
variable {s : State} {l0 l1 l2 : Line}

theorem judgeGlyphs_range {g : Nat} (h : badGlyph l0 l1 l2 = some g) :
    judgeGlyphs l0 l1 l2 s = refuseGlyphs .range (1 + g) s := by
  rw [judgeGlyphs, h]

theorem judgeGlyphs_geometry {id : Nat} (h : badGlyph l0 l1 l2 = none) (hzone : misfitZone (glyphSetOf l0 l1 l2) s = some id) :
    judgeGlyphs l0 l1 l2 s = refuseGlyphs .geometry id s := by
  rw [judgeGlyphs, h]
  dsimp only
  rw [hzone]

theorem judgeGlyphs_taken (h : badGlyph l0 l1 l2 = none) (hzone : misfitZone (glyphSetOf l0 l1 l2) s = none) :
    judgeGlyphs l0 l1 l2 s = settleLong .done (glyphCount (glyphSetOf l0 l1 l2))
      (rebuildWatch (bumpZones isFigure (withGlyphs (glyphSetOf l0 l1 l2)
        { s with figures := { s.figures with load := none } }))) := by
  rw [judgeGlyphs, h]
  dsimp only
  rw [hzone, replaceGlyphs_eq]

end

/-- Settles O23. -/
theorem glyphSetReplacesTheOneInUse : Obligations.GlyphSetReplacesTheOneInUse := by
  intro s l l0 l1 l2 addr hlane hopen hport hload rasterAt inSet fine misfit ended
  have harrives : exec .glyphLineArrival s = .next (judgeGlyphs l0 l1 l2 { s with
      port := none
      decoder := { s.decoder with lane := some { l with records := 3 } }
      figures := { s.figures with load := some { addr := addr, lines := [l0, l1, l2] } } }) :=
    congrArg Host.Outcome.next ((arrival_used hport rfl).trans
      (glyphLine_last (s := { s with port := none }) hlane hload rfl))
  have hended (r : Result) (d : Nat) : settleLong r d { s with
      port := none
      decoder := { s.decoder with lane := some { l with records := 3 } }
      figures := { s.figures with load := none } } = ended r d :=
    settleLong_open (l := { l with records := 3 }) rfl hopen r d
  refine ⟨fun g hin hbad hlowest => harrives.trans (congrArg Host.Outcome.next ?_),
    fun hfine => ⟨fun hdistinct z hz hid hmisfit hlowest => harrives.trans (congrArg Host.Outcome.next ?_), fun hfits => ?_⟩⟩
  · exact (judgeGlyphs_range (badGlyph_lowest hin hbad hlowest)).trans (hended .range (1 + g))
  · refine (judgeGlyphs_geometry (badGlyph_none hfine) ?_).trans (hended .geometry z.cfg.id)
    exact misfitZone_lowest (g := glyphSetOf l0 l1 l2) hdistinct hz hid hmisfit hlowest
  · refine ⟨_, (glyphSetOf l0 l1 l2).addrs, harrives.trans (congrArg Host.Outcome.next
      (judgeGlyphs_taken (badGlyph_none hfine) (misfitZone_none (g := glyphSetOf l0 l1 l2) hfits))),
      fun g hin => glyphSetOf_addrs l0 l1 l2 hin, rfl, ?_⟩
    rw [← glyphCount_glyphSetOf l0 l1 l2]
    have hreported := reported_settleLong (reported_bump isFigure_iff (withGlyphs (glyphSetOf l0 l1 l2) { s with
      port := none
      decoder := { s.decoder with lane := some { l with records := 3 } }
      figures := { s.figures with load := none } })) .done (glyphCount (glyphSetOf l0 l1 l2))
    rw [settleLong_open (s := withGlyphs _ _) (l := { l with records := 3 }) rfl hopen] at hreported
    exact hreported

/-! ### The clip descriptor -/

section
variable {s : State} {hd l1 : Line} {z : ZoneRec}

/-- R104: an angle's base is aligned, and its last frame in memory. -/
def AngleFine (hd l1 : Line) (size k : Nat) : Prop :=
  quadNat l1 (8 * k) % 64 = 0 ∧ quadNat l1 (8 * k) + (halfNat hd 12 - 1) * wordNat hd 8 + size ≤ 0x400000000

theorem clipBases_getD (hd l1 : Line) {k : Nat} (hk : k < byteNat hd 2) : (clipBases hd l1).getD k 0 = quadNat l1 (8 * k) := by
  simp [clipBases, hk]

theorem badAngle_test (size : Nat) {k : Nat} (hk : k < byteNat hd 2) :
    (!(lineAligned ((clipBases hd l1).getD k 0)
      && lastFrameFits ((clipBases hd l1).getD k 0) (halfNat hd 12) (wordNat hd 8) size)) = true
      ↔ ¬ AngleFine hd l1 size k := by
  rw [clipBases_getD hd l1 hk, Bool.not_eq_true', ← Bool.not_eq_true, Bool.and_eq_true, lastFrameFits, lineAligned_iff,
    fits_iff]
  rfl

theorem badAngle_lowest {size k : Nat} (hk : k < byteNat hd 2) (hbad : ¬ AngleFine hd l1 size k)
    (hlowest : ∀ j, j < k → AngleFine hd l1 size j) : badAngle hd l1 size = some k := by
  refine List.find?_range_eq_some.2 ⟨(badAngle_test size hk).2 hbad, List.mem_range.2 hk, fun j hj => ?_⟩
  rw [Bool.not_eq_true']
  exact eq_false_of_ne_true fun htest => (badAngle_test size (hj.trans hk)).1 htest (hlowest j hj)

theorem badAngle_none {size : Nat} (h : ∀ k, k < byteNat hd 2 → AngleFine hd l1 size k) : badAngle hd l1 size = none := by
  refine List.find?_range_eq_none.2 fun k hk => ?_
  rw [Bool.not_eq_true']
  exact eq_false_of_ne_true fun htest => (badAngle_test size hk).1 htest (h k hk)

theorem judgeClip_range {k : Nat} (hz : replayZone s = some z) (h : badAngle hd l1 (zoneBytes z) = some k) :
    judgeClip hd l1 s = refuseClip .range (1 + k) s := by
  rw [judgeClip, hz]
  dsimp only
  rw [h]

theorem judgeClip_placed (hz : replayZone s = some z) (h : badAngle hd l1 (zoneBytes z) = none) :
    judgeClip hd l1 s = placeClip (clipOf hd l1) s := by
  rw [judgeClip, hz]
  dsimp only
  rw [h]

theorem behaviourOf_eq (n : Nat) : behaviourOf n =
    if n = 0 then .haltDark else if n = 1 then .haltHold else if n = 2 then .loop else .angleSweep := by
  match n with
  | 0 => rfl
  | 1 => rfl
  | 2 => rfl
  | n + 3 => rfl

theorem placeClip_current {c : Clip} (h : s.replay.current = none) : placeClip c s =
    settleLong .done 1 (clipChanged { s with replay := { s.replay with current := some c, arm := none } }) := by
  rw [placeClip, h]

theorem placeClip_onDeck {c : Clip} (h : s.replay.current ≠ none) : placeClip c s =
    settleLong .done 2 { s with replay := { s.replay with onDeck := some c, arm := none } } := by
  obtain ⟨x, hx⟩ := Option.ne_none_iff_exists'.1 h
  rw [placeClip, hx]

end

/-- Settles O24. -/
theorem clipIsPlacedByItsSecondLine : Obligations.ClipIsPlacedByItsSecondLine := by
  intro s l hd l1 addr z hlane hopen hport harm hz base fine ended
  have harrives : exec .clipDescriptorLineArrival s = .next (judgeClip hd l1 { s with
      port := none, decoder := { s.decoder with lane := some { l with records := 2 } } }) :=
    congrArg Host.Outcome.next ((arrival_used hport rfl).trans (clipLine_second (s := { s with port := none }) hlane harm))
  have hsettled (r : Result) (d : Nat) (replay : ReplayEngine) : settleLong r d { s with
      port := none, decoder := { s.decoder with lane := some { l with records := 2 } }, replay := replay }
      = { ended r d with replay := replay } :=
    settleLong_open (l := { l with records := 2 }) rfl hopen r d
  refine ⟨fun k hk hbad hlowest => harrives.trans (congrArg Host.Outcome.next ?_), fun hfine =>
    ⟨clipBases hd l1, by simp [clipBases], fun k hk => clipBases_getD hd l1 hk, ?_⟩⟩
  · refine (judgeClip_range ?_ (badAngle_lowest hk hbad hlowest)).trans (hsettled .range (1 + k) _)
    exact hz
  · intro c
    have hclip : clipOf hd l1 = c := by
      simp only [clipOf, behaviourOf_eq, beq_iff_eq]
      rfl
    have hplaced := harrives.trans (congrArg Host.Outcome.next (judgeClip_placed hz (badAngle_none hfine)))
    rw [hclip] at hplaced
    refine ⟨fun hcurrent => hplaced.trans (congrArg Host.Outcome.next ?_), fun hnone =>
      ⟨_, hplaced.trans (congrArg Host.Outcome.next (placeClip_current hnone)), ?_⟩⟩
    · refine (placeClip_onDeck ?_).trans (hsettled .done 2 _)
      exact hcurrent
    · have hreported := reported_settleLong (clipChanged_reported { s with
        port := none, decoder := { s.decoder with lane := some { l with records := 2 } }
        replay := { s.replay with current := some c, arm := none } }) .done 1
      rw [hsettled] at hreported
      exact hreported

end Sys2Proof.Proofs
end

section
/-! PROOFS. The checks of a layout at its last line (R3 to R6): fields, then geometry, each at its lowest record. -/

namespace Sys2Proof.Proofs

open Sys2Proof.Machine Sys2Proof.Safety

/-! ### The lowest failing record of a list -/

section
variable {α β : Type} {ok : List α → β → Bool} {g : β → α} {scan : Nat → List α → List β → Option Nat}

/-- A scan of records, each judged against those before it, stops at the first that fails. -/
structure Scans (ok : List α → β → Bool) (g : β → α) (scan : Nat → List α → List β → Option Nat) : Prop where
  nil : ∀ k seen, scan k seen [] = none
  cons : ∀ k seen x rest, scan k seen (x :: rest) = if ok seen x then scan (k + 1) (g x :: seen) rest else some k

/-- The record at an index passes against those before it. -/
def Passes (ok : List α → β → Bool) (g : β → α) (seen : List α) (xs : List β) (i : Nat) : Prop :=
  ∀ x, xs[i]? = some x → ok (((xs.take i).map g).reverse ++ seen) x = true

theorem passes_cons (x : β) (seen : List α) (rest : List β) (i : Nat) :
    Passes ok g seen (x :: rest) (i + 1) ↔ Passes ok g (g x :: seen) rest i := by
  simp [Passes]

theorem passes_zero (x : β) (seen : List α) (rest : List β) :
    Passes ok g seen (x :: rest) 0 ↔ ok seen x = true := by
  simp [Passes]

theorem Scans.lowest (h : Scans ok g scan) {seen : List α} {xs : List β} {i : Nat} (k : Nat) (hbad : ¬ Passes ok g seen xs i)
    (hbefore : ∀ j, j < i → Passes ok g seen xs j) : scan k seen xs = some (k + i) := by
  induction xs generalizing k seen i with
  | nil => exact (hbad fun x hx => nomatch hx).elim
  | cons x rest ih =>
    cases i with
    | zero => rw [h.cons, if_neg (mt (passes_zero x seen rest).2 hbad), Nat.add_zero]
    | succ i =>
      rw [h.cons, if_pos ((passes_zero x seen rest).1 (hbefore 0 (Nat.succ_pos i))),
        ih (k + 1) (mt (passes_cons x seen rest i).2 hbad) fun j hj =>
          (passes_cons x seen rest j).1 (hbefore (j + 1) (Nat.succ_lt_succ hj)), Nat.add_right_comm, Nat.add_assoc]

theorem Scans.none (h : Scans ok g scan) {seen : List α} {xs : List β} (k : Nat)
    (hall : ∀ i, i < xs.length → Passes ok g seen xs i) : scan k seen xs = none := by
  induction xs generalizing k seen with
  | nil => exact h.nil k seen
  | cons x rest ih =>
    rw [h.cons, if_pos ((passes_zero x seen rest).1 (hall 0 (Nat.succ_pos _)))]
    exact ih (k + 1) fun i hi => (passes_cons x seen rest i).1 (hall (i + 1) (Nat.succ_lt_succ hi))

end

theorem badField_scans :
    Scans (fun ids l => zoneFieldsOk l && !ids.contains (byteNat l 0)) (byteNat · 0) badField where
  nil _ _ := rfl
  cons _ _ _ _ := rfl

theorem badGeometry_scans (hd : ScreenHeader) (s : State) :
    Scans (fun earlier z => zoneFits hd s z && earlier.all (fun e => pairFits e z)) id (badGeometry hd s) where
  nil _ _ := rfl
  cons _ _ _ _ := rfl

/-! ### Field checks -/

/-- R3: the screen header, as the statements spell it. -/
def HeaderFine (hd : Line) : Prop :=
  256 ≤ halfNat hd 0 ∧ halfNat hd 0 ≤ 8192 ∧ halfNat hd 0 % 16 = 0
    ∧ 64 ≤ halfNat hd 2 ∧ halfNat hd 2 ≤ 4096 ∧ halfNat hd 2 % 16 = 0 ∧ (byteNat hd 4 = 50 ∨ byteNat hd 4 = 60)

theorem headerOk_iff (hd : Line) : headerOk hd = true ↔ HeaderFine hd := by
  simp only [headerOk, HeaderFine, Bool.and_eq_true, Bool.or_eq_true, sizeOk_iff, beq_iff_eq, and_assoc]

/-- R3: a buffer of a HOUSE record is aligned and in memory. -/
def BufferFine (r : Line) (off : Nat) : Prop :=
  quadNat r off % 64 = 0 ∧ quadNat r off + halfNat r 8 * halfNat r 10 * 4 ≤ 0x400000000

/-- R3: the fields of a zone record, as the statements spell them. -/
def FieldsFine (r : Line) : Prop :=
  byteNat r 0 ≤ 23 ∧ byteNat r 1 ≤ 4 ∧ byteNat r 2 ≤ 7 ∧ byteNat r 3 ≤ 1
    ∧ halfNat r 4 % 16 = 0 ∧ halfNat r 6 % 16 = 0 ∧ halfNat r 8 % 16 = 0 ∧ halfNat r 10 % 16 = 0
    ∧ 0 < halfNat r 8 ∧ 0 < halfNat r 10
    ∧ (byteNat r 1 = 1 → byteNat r 16 ≤ 1) ∧ (byteNat r 1 = 2 → byteNat r 16 ≤ 6)
    ∧ (byteNat r 1 = 4 → BufferFine r 24 ∧ BufferFine r 32 ∧ halfNat r 40 ≤ 600)

theorem figureOfCode_isSome (n : Nat) : (figureOfCode n).isSome = true ↔ n ≤ 6 := by
  match n with
  | 0 | 1 | 2 | 3 | 4 | 5 | 6 => exact ⟨fun _ => by omega, fun _ => rfl⟩
  | n + 7 => exact ⟨nofun, fun h => by omega⟩

theorem ribbonId_isSome (b : Byte) : (ribbonId b).isSome = true ↔ b.toNat ≤ 1 := by
  constructor
  · intro h
    by_contra hbeyond
    rw [ribbonId_beyond (by omega)] at h
    exact nomatch h
  · intro h
    rw [ribbonId_of_le_one h]
    rfl

theorem houseOk_iff (r : Line) :
    houseOk r (quadNat r 24) (quadNat r 32) (halfNat r 40) = true
      ↔ BufferFine r 24 ∧ BufferFine r 32 ∧ halfNat r 40 ≤ 600 := by
  simp only [houseOk, BufferFine, Bool.and_eq_true, lineAligned_iff, fits_iff, rasterBytes, decide_eq_true_eq]
  exact ⟨fun ⟨⟨⟨⟨ha, hb⟩, hfa⟩, hfb⟩, hidle⟩ => ⟨⟨ha, hfa⟩, ⟨hb, hfb⟩, hidle⟩,
    fun ⟨⟨ha, hfa⟩, ⟨hb, hfb⟩, hidle⟩ => ⟨⟨⟨⟨ha, hb⟩, hfa⟩, hfb⟩, hidle⟩⟩

/-- R3: the part of a record's checks that its role makes. -/
def roleCheck (r : Line) : Bool :=
  match roleOf r with
  | none => false
  | some (.house a b idle) => houseOk r a b idle
  | some _ => true

theorem roleCheck_iff (r : Line) : roleCheck r = true ↔ byteNat r 1 ≤ 4 ∧ (byteNat r 1 = 1 → byteNat r 16 ≤ 1)
    ∧ (byteNat r 1 = 2 → byteNat r 16 ≤ 6)
    ∧ (byteNat r 1 = 4 → BufferFine r 24 ∧ BufferFine r 32 ∧ halfNat r 40 ≤ 600) := by
  rw [roleCheck, roleOf]
  match h : byteNat r 1 with
  | 0 | 3 => simp
  | 1 =>
    have hribbon := ribbonId_isSome (byteAt r 16)
    cases hr : ribbonId (byteAt r 16) <;> rw [hr] at hribbon <;> simpa [byteNat] using hribbon
  | 2 =>
    have hfigure := figureOfCode_isSome (byteNat r 16)
    cases hf : figureOfCode (byteNat r 16) <;> rw [hf] at hfigure <;> simpa using hfigure
  | 4 => simpa using houseOk_iff r
  | n + 5 => simp

theorem zoneFieldsOk_iff (r : Line) : zoneFieldsOk r = true ↔ FieldsFine r := by
  have hwidth : halfNat r 8 ≤ 65535 := Nat.le_of_lt_succ (halfAt r 8).isLt
  have hheight : halfNat r 10 ≤ 65535 := Nat.le_of_lt_succ (halfAt r 10).isLt
  have hid : byteNat r 0 < Config.zoneIds ↔ byteNat r 0 ≤ 23 := Nat.lt_succ_iff
  have hunfold : zoneFieldsOk r = (byteNat r 0 < Config.zoneIds && byteNat r 2 ≤ 7 && byteNat r 3 ≤ 1
    && halfNat r 4 % 16 == 0 && halfNat r 6 % 16 == 0
    && sizeOk 1 65535 (halfNat r 8) && sizeOk 1 65535 (halfNat r 10) && roleCheck r) := rfl
  rw [hunfold]
  simp only [Bool.and_eq_true, decide_eq_true_eq, beq_iff_eq, sizeOk_iff, roleCheck_iff, hid, FieldsFine]
  constructor
  · rintro ⟨⟨⟨⟨⟨⟨⟨h1, h2⟩, h3⟩, h4⟩, h5⟩, h6, _, h7⟩, h8, _, h9⟩, h10, h11, h12, h13⟩
    exact ⟨h1, h10, h2, h3, h4, h5, h7, h9, h6, h8, h11, h12, h13⟩
  · rintro ⟨h1, h10, h2, h3, h4, h5, h7, h9, h6, h8, h11, h12, h13⟩
    exact ⟨⟨⟨⟨⟨⟨⟨h1, h2⟩, h3⟩, h4⟩, h5⟩, h6, hwidth, h7⟩, h8, hheight, h9⟩, h10, h11, h12, h13⟩

/-- The records before an index. -/
theorem mem_earlier {α β : Type} {g : β → α} {xs : List β} {i : Nat} {a : α} :
    a ∈ ((xs.take i).map g).reverse ++ [] ↔ ∃ j y, j < i ∧ xs[j]? = some y ∧ g y = a := by
  rw [List.append_nil, List.mem_reverse, List.mem_map]
  simp only [List.mem_iff_getElem?, List.getElem?_take]
  constructor
  · rintro ⟨y, ⟨j, hj⟩, rfl⟩
    obtain ⟨hlt, hy⟩ := Option.ite_none_right_eq_some.1 hj
    exact ⟨j, y, hlt, hy, rfl⟩
  · rintro ⟨j, y, hlt, hy, rfl⟩
    exact ⟨y, ⟨j, (if_pos hlt).trans hy⟩, rfl⟩

/-- R3: a record passes where its fields are fine and no earlier record has its zone ID. -/
theorem passes_fields {lines : List Line} {i : Nat} (hi : i < lines.length) :
    Passes (fun ids l => zoneFieldsOk l && !ids.contains (byteNat l 0)) (byteNat · 0) [] lines i
      ↔ FieldsFine (lines.getD i 0) ∧ ∀ j, j < i → byteNat (lines.getD j 0) 0 ≠ byteNat (lines.getD i 0) 0 := by
  have hfound (j : Nat) (hj : j < lines.length) : lines[j]? = some (lines.getD j 0) := by
    rw [List.getD_eq_getElem?_getD, List.getElem?_eq_getElem hj]
    rfl
  have htest (x : Line) : (zoneFieldsOk x && !(((lines.take i).map (byteNat · 0)).reverse ++ []).contains (byteNat x 0)) = true
      ↔ FieldsFine x ∧ ∀ j, j < i → byteNat (lines.getD j 0) 0 ≠ byteNat x 0 := by
    rw [Bool.and_eq_true, zoneFieldsOk_iff, Bool.not_eq_true', ← Bool.not_eq_true, List.contains_iff_mem, mem_earlier]
    refine and_congr_right fun _ => ⟨fun h j hj hsame => h ⟨j, _, hj, hfound j (hj.trans hi), hsame⟩, ?_⟩
    rintro h ⟨j, y, hj, hy, hsame⟩
    rw [hfound j (hj.trans hi)] at hy
    exact h j hj (Option.some.inj hy ▸ hsame)
  constructor
  · exact fun h => (htest _).1 (h _ (hfound i hi))
  · intro h x hx
    rw [hfound i hi] at hx
    exact Option.some.inj hx ▸ (htest _).2 h

theorem roleOf_isSome {r : Line} (h : FieldsFine r) : (roleOf r).isSome = true := by
  obtain ⟨_, hcode, _, _, _, _, _, _, _, _, hribbon, hfigure, hhouse⟩ := h
  have hcheck := (roleCheck_iff r).2 ⟨hcode, hribbon, hfigure, hhouse⟩
  rw [roleCheck] at hcheck
  cases hr : roleOf r with
  | none => rw [hr] at hcheck; exact hcheck
  | some role => rfl

/-- The zone records of lines whose fields are fine, one for each line. -/
theorem zoneRecs_spec {lines : List Line} (h : ∀ r ∈ lines, FieldsFine r) : (zoneRecs lines).length = lines.length
    ∧ ∀ i, i < lines.length → ∃ role, roleOf (lines.getD i 0) = some role
      ∧ (zoneRecs lines)[i]? = some (zoneRecOf role (lines.getD i 0)) := by
  induction lines with
  | nil => exact ⟨rfl, fun i hi => nomatch hi⟩
  | cons r rest ih =>
    obtain ⟨role, hrole⟩ := Option.isSome_iff_exists.1 (roleOf_isSome (h r List.mem_cons_self))
    have hcons : zoneRecs (r :: rest) = zoneRecOf role r :: zoneRecs rest := by
      rw [zoneRecs, List.filterMap_cons, hrole]
      rfl
    obtain ⟨hlength, hitems⟩ := ih fun x hx => h x (List.mem_cons_of_mem r hx)
    rw [hcons]
    refine ⟨congrArg Nat.succ hlength, fun i hi => ?_⟩
    cases i with
    | zero => exact ⟨role, hrole, rfl⟩
    | succ i => exact hitems i (Nat.lt_of_succ_lt_succ hi)

/-! ### Geometry checks -/

/-- Two ranges of one length share no byte. -/
theorem rangesOverlap_false_iff {a n b m : Nat} (hn : 0 < n) (hm : 0 < m) :
    rangesOverlap a n b m = false ↔ a + n ≤ b ∨ b + m ≤ a := by
  rw [← Bool.not_eq_true]
  simp only [rangesOverlap, Bool.and_eq_true, decide_eq_true_eq, hn, hm, true_and, not_and_or, Nat.not_lt]
  exact or_comm

/-- R4: a clip fits the REPLAY zone. -/
def ClipFine (z : ZoneRec) (c : Clip) : Prop :=
  z.w * z.h * 4 ≤ c.stride ∧ ∀ a ∈ c.bases, a + (c.frames - 1) * c.stride + z.w * z.h * 4 ≤ 0x400000000

theorem clipFitsZone_iff (z : ZoneRec) (c : Clip) : clipFitsZone z c = true ↔ ClipFine z c := by
  rw [clipFitsZone, Bool.and_eq_true, decide_eq_true_iff, List.all_eq_true]
  exact and_congr_right fun _ => forall₂_congr fun a _ => fits_iff _ _

/-- R4: a zone by itself, as the statements spell it. -/
def AloneFine (width height : Nat) (s : State) (z : ZoneRec) : Prop :=
  z.x + z.w ≤ width ∧ z.y + z.h ≤ height
    ∧ (z.role = .replay → ∀ c, s.replay.current = some c ∨ s.replay.onDeck = some c → ClipFine z c)
    ∧ (∀ r, z.role = .sponsor r →
        (∀ c, (ribbonOf r s).committed = some c → c.w = z.w ∧ c.h = z.h)
        ∧ ∀ c, (ribbonOf r s).staged = some c → c.list.w = z.w ∧ c.list.h = z.h)
    ∧ (∀ f g, z.role = .figure f → z.enabled = true → s.figures.glyphs = some g →
        cellCount f * g.cellWidth ≤ z.w ∧ z.h = g.cellHeight)
    ∧ (∀ a b idle, z.role = .house a b idle → (a + z.w * z.h * 4 ≤ b ∨ b + z.w * z.h * 4 ≤ a)
        ∧ ∀ c, c = a ∨ c = b → c + z.w * z.h * 4 ≤ apertureBase s ∨ apertureBase s + 4096 ≤ c)

theorem ribbonFitsZone_iff (z : ZoneRec) (r : Ribbon) : ribbonFitsZone z r = true
    ↔ (∀ c, r.committed = some c → c.w = z.w ∧ c.h = z.h)
      ∧ ∀ c, r.staged = some c → c.list.w = z.w ∧ c.list.h = z.h := by
  rw [ribbonFitsZone]
  cases r.committed <;> cases r.staged <;> simp

/-- R4: the part of a zone's checks that its role makes. -/
def roleFits (s : State) (z : ZoneRec) : Bool :=
  match z.role with
  | .replay => (s.replay.current.toList ++ s.replay.onDeck.toList).all (clipFitsZone z)
  | .sponsor r => ribbonFitsZone z (ribbonOf r s)
  | .figure _ =>
    match s.figures.glyphs with
    | some g => !z.enabled || figureFits g.cellWidth g.cellHeight z
    | none => true
  | .message => true
  | .house a b _ =>
    !rangesOverlap a (zoneBytes z) b (zoneBytes z)
      && rangesClear (houseRanges z) [(apertureBase s, Config.apertureBytes)]

theorem zoneFits_iff (hd : ScreenHeader) (s : State) (z : ZoneRec) (hsize : 0 < z.w * z.h * 4) :
    zoneFits hd s z = true ↔ AloneFine hd.width hd.height s z := by
  have hunfold : zoneFits hd s z = (z.x + z.w ≤ hd.width && z.y + z.h ≤ hd.height && roleFits s z) := rfl
  rw [hunfold, Bool.and_eq_true, Bool.and_eq_true, decide_eq_true_eq, decide_eq_true_eq, and_assoc, AloneFine, roleFits]
  refine and_congr_right fun _ => and_congr_right fun _ => ?_
  cases hrole : z.role with
  | replay =>
    simp only [List.all_eq_true, List.mem_append, Option.mem_toList, clipFitsZone_iff]
    exact ⟨fun h => ⟨fun _ => h, nofun, nofun, nofun⟩, fun ⟨h, _⟩ => h trivial⟩
  | sponsor r =>
    dsimp only
    rw [ribbonFitsZone_iff]
    exact ⟨fun h => ⟨nofun, fun _ hr => Role.sponsor.inj hr ▸ h, nofun, nofun⟩, fun ⟨_, h, _⟩ => h r rfl⟩
  | figure f =>
    have hfits (g : GlyphSet) : figureFits g.cellWidth g.cellHeight z = true
        ↔ cellCount f * g.cellWidth ≤ z.w ∧ z.h = g.cellHeight := by
      rw [figureFits, hrole, Bool.and_eq_true, decide_eq_true_iff, beq_iff_eq]
    have hglyphs : (match s.figures.glyphs with
        | some g => !z.enabled || figureFits g.cellWidth g.cellHeight z
        | none => true) = true
        ↔ ∀ g, z.enabled = true → s.figures.glyphs = some g → cellCount f * g.cellWidth ≤ z.w ∧ z.h = g.cellHeight := by
      cases s.figures.glyphs with
      | none => exact ⟨fun _ _ _ => nofun, fun _ => rfl⟩
      | some g =>
        dsimp only
        rw [Bool.or_eq_true, Bool.not_eq_true', hfits]
        refine ⟨fun h x henabled hx => Option.some.inj hx ▸ h.resolve_left (by rw [henabled]; decide), fun h => ?_⟩
        cases henabled : z.enabled
        · exact .inl rfl
        · exact .inr (h g henabled rfl)
    refine hglyphs.trans ⟨fun h => ⟨nofun, nofun, fun _ g hf henabled hg => ?_, nofun⟩,
      fun ⟨_, _, h, _⟩ g henabled hg => h f g rfl henabled hg⟩
    exact Role.figure.inj hf ▸ h g henabled hg
  | message => exact ⟨fun _ => ⟨nofun, nofun, nofun, nofun⟩, fun _ => rfl⟩
  | house a b idle =>
    have hclear : rangesClear (houseRanges z) [(apertureBase s, Config.apertureBytes)] = true
        ↔ ∀ c, c = a ∨ c = b → c + z.w * z.h * 4 ≤ apertureBase s ∨ apertureBase s + 4096 ≤ c := by
      have hpage (c : Nat) : (!rangesOverlap c (zoneBytes z) (apertureBase s) Config.apertureBytes) = true
          ↔ c + z.w * z.h * 4 ≤ apertureBase s ∨ apertureBase s + 4096 ≤ c := by
        rw [Bool.not_eq_true']
        exact rangesOverlap_false_iff hsize (by decide)
      simp only [rangesClear, houseRanges, hrole, List.all_cons, List.all_nil, Bool.and_true, Bool.and_eq_true, hpage,
        forall_eq_or_imp, forall_eq]
    dsimp only
    rw [Bool.and_eq_true, Bool.not_eq_true', hclear, show rangesOverlap a (zoneBytes z) b (zoneBytes z) = false ↔ _ from
      rangesOverlap_false_iff hsize hsize]
    refine ⟨fun h => ⟨nofun, nofun, nofun, fun c d j hhouse => ?_⟩, fun ⟨_, _, _, h⟩ => h a b idle rfl⟩
    obtain ⟨rfl, rfl, _⟩ := Role.house.inj hhouse
    exact h

/-- R4: a zone against an earlier one, as the statements spell it. -/
def PairFine (e z : ZoneRec) : Prop :=
  ¬ (e.enabled = true ∧ z.enabled = true ∧ e.layer = z.layer ∧ intersects e z = true)
    ∧ ¬ (e.role = .replay ∧ z.role = .replay) ∧ ¬ (e.role = .message ∧ z.role = .message)
    ∧ (∀ r, e.role = .sponsor r → z.role = .sponsor r → e.w = z.w ∧ e.h = z.h)
    ∧ ∀ a b i c d j, e.role = .house a b i → z.role = .house c d j → ∀ x y, x = a ∨ x = b → y = c ∨ y = d →
        x + e.w * e.h * 4 ≤ y ∨ y + z.w * z.h * 4 ≤ x

/-- R4: the part of a pair's checks that its roles make. -/
def rolesFit (e z : ZoneRec) : Bool :=
  match e.role, z.role with
  | .sponsor r, .sponsor r' => r != r' || (e.w == z.w && e.h == z.h)
  | .house _ _ _, .house _ _ _ => rangesClear (houseRanges e) (houseRanges z)
  | _, _ => true

theorem rolesFit_iff {e z : ZoneRec} (he : 0 < e.w * e.h * 4) (hz : 0 < z.w * z.h * 4) : rolesFit e z = true
    ↔ (∀ r, e.role = .sponsor r → z.role = .sponsor r → e.w = z.w ∧ e.h = z.h)
      ∧ ∀ a b i c d j, e.role = .house a b i → z.role = .house c d j → ∀ x y, x = a ∨ x = b → y = c ∨ y = d →
          x + e.w * e.h * 4 ≤ y ∨ y + z.w * z.h * 4 ≤ x := by
  have hapart (x y : Nat) : (!rangesOverlap x (zoneBytes e) y (zoneBytes z)) = true
      ↔ x + e.w * e.h * 4 ≤ y ∨ y + z.w * z.h * 4 ≤ x := by
    rw [Bool.not_eq_true']
    exact rangesOverlap_false_iff he hz
  rw [rolesFit]
  split
  · next r r' her hzr =>
    rw [her, hzr, Bool.or_eq_true, bne_iff_ne, Bool.and_eq_true, beq_iff_eq, beq_iff_eq]
    refine ⟨fun h => ⟨fun x hx hx' => ?_, nofun⟩, fun ⟨h, _⟩ => ?_⟩
    · exact h.resolve_left (not_not.2 ((Role.sponsor.inj hx).trans (Role.sponsor.inj hx').symm))
    · by_cases hsame : r = r'
      · exact .inr (h r rfl (congrArg Role.sponsor hsame.symm))
      · exact .inl hsame
  · next a b i c d j heh hzh =>
    have hranges : rangesClear (houseRanges e) (houseRanges z) = true
        ↔ ∀ x y, x = a ∨ x = b → y = c ∨ y = d → x + e.w * e.h * 4 ≤ y ∨ y + z.w * z.h * 4 ≤ x := by
      simp only [rangesClear, houseRanges, heh, hzh, List.all_cons, List.all_nil, Bool.and_true, Bool.and_eq_true, hapart]
      constructor
      · rintro ⟨⟨hac, had⟩, hbc, hbd⟩ x y (rfl | rfl) (rfl | rfl)
        · exact hac
        · exact had
        · exact hbc
        · exact hbd
      · intro h
        exact ⟨⟨h a c (.inl rfl) (.inl rfl), h a d (.inl rfl) (.inr rfl)⟩, h b c (.inr rfl) (.inl rfl),
          h b d (.inr rfl) (.inr rfl)⟩
    rw [hranges, heh, hzh]
    refine ⟨fun h => ⟨nofun, fun a' b' i' c' d' j' he' hz' => ?_⟩, fun ⟨_, h⟩ => h a b i c d j rfl rfl⟩
    obtain ⟨rfl, rfl, _⟩ := Role.house.inj he'
    obtain ⟨rfl, rfl, _⟩ := Role.house.inj hz'
    exact h
  · next hsponsor hhouse =>
    exact ⟨fun _ => ⟨fun r her hzr => (hsponsor r r her hzr).elim,
      fun a b i c d j heh hzh => (hhouse a b i c d j heh hzh).elim⟩, fun _ => rfl⟩

theorem pairFits_iff {e z : ZoneRec} (he : 0 < e.w * e.h * 4) (hz : 0 < z.w * z.h * 4) :
    pairFits e z = true ↔ PairFine e z := by
  have hunfold : pairFits e z = (!(e.enabled && z.enabled && e.layer == z.layer && intersects e z)
    && !(isReplay e && isReplay z) && !(isMessage e && isMessage z) && rolesFit e z) := rfl
  rw [hunfold, PairFine, ← rolesFit_iff he hz]
  simp only [Bool.and_eq_true, Bool.not_eq_true', ← Bool.not_eq_true, beq_iff_eq, isReplay_iff, isMessage_iff, and_assoc]

/-- R4: a zone passes where it is fine by itself and against the zones before it. -/
theorem passes_geometry {hd : ScreenHeader} {s : State} {zones : List ZoneRec} (hsizes : ∀ z ∈ zones, 0 < z.w * z.h * 4)
    (i : Nat) : Passes (fun earlier z => zoneFits hd s z && earlier.all (fun e => pairFits e z)) id [] zones i
      ↔ ∀ z, zones[i]? = some z → AloneFine hd.width hd.height s z
        ∧ ∀ (j : Nat) (e : ZoneRec), j < i → zones[j]? = some e → PairFine e z := by
  refine forall₂_congr fun z hz => ?_
  have hzone := hsizes z (List.mem_of_getElem? hz)
  rw [Bool.and_eq_true, zoneFits_iff hd s z hzone, List.all_eq_true]
  refine and_congr_right fun _ => ⟨fun h j e hj he => ?_, fun h e he => ?_⟩
  · exact (pairFits_iff (hsizes e (List.mem_of_getElem? he)) hzone).1 (h e (mem_earlier.2 ⟨j, e, hj, he, rfl⟩))
  · obtain ⟨j, y, hj, hy, rfl⟩ := mem_earlier.1 he
    exact (pairFits_iff (hsizes y (List.mem_of_getElem? hy)) hzone).2 (h j y hj hy)

/-! ### The judgement of the last line -/

section
variable {s : State} {load : LayoutLoad} {hd : Line} {records : List Line}

theorem judgeLayout_header (h : ¬ HeaderFine hd) : judgeLayout load hd records s = refuseLayout .range 0 s := by
  rw [judgeLayout, eq_false_of_ne_true (mt (headerOk_iff hd).1 h)]
  rfl

theorem judgeLayout_field {k : Nat} (h : HeaderFine hd) (hbad : badField 1 [] records = some k) :
    judgeLayout load hd records s = refuseLayout .range k s := by
  rw [judgeLayout, (headerOk_iff hd).2 h, hbad]
  rfl

theorem judgeLayout_geometry {k : Nat} (h : HeaderFine hd) (hfields : badField 1 [] records = none)
    (hbad : badGeometry (headerOf hd) s 1 [] (zoneRecs records) = some k) :
    judgeLayout load hd records s = refuseLayout .geometry k s := by
  rw [judgeLayout, (headerOk_iff hd).2 h, hfields]
  dsimp only
  rw [hbad]
  rfl

theorem judgeLayout_pending (h : HeaderFine hd) (hfields : badField 1 [] records = none)
    (hfits : badGeometry (headerOf hd) s 1 [] (zoneRecs records) = none) :
    judgeLayout load hd records s = setRecords load.count (setPhase .waiting { s with sweep := { s.sweep with
      load := some { load with pending := some { header := headerOf hd, zones := zoneRecs records } } } }) := by
  rw [judgeLayout, (headerOk_iff hd).2 h, hfields]
  dsimp only
  rw [hfits]
  rfl

end

/-- Settles O21: the header, then the fields record by record, then the geometry zone by zone. -/
theorem layoutIsJudgedByItsLastLine : Obligations.LayoutIsJudgedByItsLastLine := by
  intro s l hd last recs addr n hlane hopen hport hload hn record sixteen inMemory apart headerFine bufferFine fieldsFine
    goodField clipFine aloneFine pairFine ended
  have hcount : (recs ++ [last]).length = n := by rw [List.length_append, List.length_singleton, hn]
  have harrives : exec .layoutLineArrival s = .next (judgeLayout
      { addr := addr, lines := hd :: recs ++ [last], count := n, pending := none } hd (recs ++ [last]) { s with
        port := none
        decoder := { s.decoder with lane := some { l with records := n + 1 } }
        sweep := { s.sweep with
          load := some { addr := addr, lines := hd :: recs ++ [last], count := n, pending := none } } }) := by
    have hnext := layoutLine_next (s := { s with port := none }) (line := last) hlane hload rfl
    refine congrArg Host.Outcome.next ((arrival_used hport rfl).trans (hnext.trans ?_))
    rw [if_pos hn, ← hn]
  have hended (r : Result) (d : Nat) : refuseLayout r d { s with
      port := none
      decoder := { s.decoder with lane := some { l with records := n + 1 } }
      sweep := { s.sweep with
        load := some { addr := addr, lines := hd :: recs ++ [last], count := n, pending := none } } } = ended r d :=
    settleLong_open (l := { l with records := n + 1 }) rfl hopen r d
  have hgood {i : Nat} (hi : i < n) : Passes (fun ids l => zoneFieldsOk l && !ids.contains (byteNat l 0)) (byteNat · 0) []
      (recs ++ [last]) i ↔ goodField (i + 1) := by
    refine (passes_fields (hcount.symm ▸ hi)).trans (and_congr Iff.rfl ⟨fun h j hj1 hj => ?_, fun h j hj => ?_⟩)
    · obtain ⟨m, rfl⟩ : ∃ m, j = m + 1 := ⟨j - 1, by omega⟩
      exact h m (Nat.lt_of_succ_lt_succ hj)
    · exact h (j + 1) (Nat.succ_pos j) (Nat.succ_lt_succ hj)
  have hexec {t u : State} (h : judgeLayout { addr := addr, lines := hd :: recs ++ [last], count := n, pending := none } hd
      (recs ++ [last]) t = u) (ht : exec .layoutLineArrival s = .next (judgeLayout
        { addr := addr, lines := hd :: recs ++ [last], count := n, pending := none } hd (recs ++ [last]) t)) :
      exec .layoutLineArrival s = .next u := ht.trans (congrArg Host.Outcome.next h)
  refine ⟨fun hbad => hexec ((judgeLayout_header hbad).trans (hended .range 0)) harrives,
    fun hheader k hk1 hkn hbad hlowest => ?_, fun hheader hfields => ?_⟩
  · obtain ⟨i, rfl⟩ : ∃ i, k = i + 1 := ⟨k - 1, by omega⟩
    have hfirst := badField_scans.lowest 1 (mt (hgood hkn).1 hbad) fun j hj =>
      (hgood (hj.trans hkn)).2 (hlowest (j + 1) (Nat.succ_pos j) (Nat.succ_lt_succ hj))
    rw [Nat.add_comm 1 i] at hfirst
    exact hexec ((judgeLayout_field hheader hfirst).trans (hended .range (i + 1))) harrives
  · have hnone : badField 1 [] (recs ++ [last]) = none := badField_scans.none 1 fun i hi =>
      (hgood (hcount ▸ hi)).2 (hfields (i + 1) (Nat.succ_pos i) (Nat.succ_le_of_lt (hcount ▸ hi)))
    have hlines : ∀ r ∈ recs ++ [last], FieldsFine r := by
      intro r hr
      obtain ⟨i, hi, rfl⟩ := List.mem_iff_getElem.1 hr
      have hfine := (hfields (i + 1) (Nat.succ_pos i) (Nat.succ_le_of_lt (hcount ▸ hi))).1
      rwa [show record (i + 1) = (recs ++ [last])[i] from by
        show (recs ++ [last]).getD i 0 = _
        rw [List.getD_eq_getElem?_getD, List.getElem?_eq_getElem hi]
        rfl] at hfine
    obtain ⟨hlength, hitems⟩ := zoneRecs_spec hlines
    rw [hcount] at hlength hitems
    have hsizes : ∀ z ∈ zoneRecs (recs ++ [last]), 0 < z.w * z.h * 4 := by
      intro z hz
      obtain ⟨r, hr, hrole⟩ := List.mem_filterMap.1 hz
      obtain ⟨role, _, rfl⟩ := Option.map_eq_some_iff.1 hrole
      obtain ⟨_, _, _, _, _, _, _, _, hwidth, hheight, _⟩ := hlines r hr
      exact Nat.mul_pos (Nat.mul_pos hwidth hheight) (by decide)
    refine ⟨zoneRecs (recs ++ [last]), hlength, hitems, ?_⟩
    intro goodAt
    have hzone (i : Nat) := passes_geometry (hd := headerOf hd) (s := { s with
      port := none
      decoder := { s.decoder with lane := some { l with records := n + 1 } }
      sweep := { s.sweep with
        load := some { addr := addr, lines := hd :: recs ++ [last], count := n, pending := none } } }) hsizes i
    refine ⟨fun k hk hbad hlowest => ?_, fun hall => ?_⟩
    · have hfirst := (badGeometry_scans _ _).lowest 1 (mt (hzone k).1 hbad) fun j hj => (hzone j).2 (hlowest j hj)
      rw [Nat.add_comm 1 k] at hfirst
      exact hexec ((judgeLayout_geometry hheader hnone hfirst).trans (hended .geometry (k + 1))) harrives
    · have hfits := (badGeometry_scans _ _).none 1 fun i hi => (hzone i).2 (hall i (hlength ▸ hi))
      exact hexec (judgeLayout_pending hheader hnone hfits) harrives

end Sys2Proof.Proofs
end

section
/-! PROOFS. The status block image (R56, R57), each part of it at its bytes. -/

namespace Sys2Proof.Proofs

open Sys2Proof.Machine Sys2Proof.Safety

/-! ### Fields of other widths -/

/-- What a field reads of a number of another width placed there. -/
theorem field_place_wide {n w v : Nat} (l : BitVec n) (off : Nat) (x : BitVec v) (fit : 8 * off + w ≤ n) :
    field (place l off x) off w = field l off w ||| x.setWidth w := by
  refine BitVec.eq_of_getLsbD_eq fun i hi => ?_
  have hin : 8 * off + i < n := by omega
  rw [BitVec.getLsbD_or, field_getLsbD, field_getLsbD, place_getLsbD, Nat.add_sub_cancel_left, BitVec.getLsbD_setWidth]
  simp [hi, hin]

theorem place_none {n w : Nat} (l : BitVec n) (off : Nat) : place l off (0#w) = l := by
  simp [place]

theorem masked_of_blank {n : Nat} (l : BitVec n) (off : Nat) (hblank : field l off 48 = 0) :
    field l off 64 &&& 0xFFFFFFFFFFFF#64 = 0 := by
  have hmask : 0xFFFFFFFFFFFF#64 = (BitVec.allOnes 48).setWidth 64 := by decide
  apply BitVec.eq_of_getLsbD_eq
  intro j hj
  have hbit := congrArg (fun v => BitVec.getLsbD v j) hblank
  rw [field_getLsbD] at hbit
  rw [BitVec.getLsbD_and, field_getLsbD, hmask, BitVec.getLsbD_setWidth, BitVec.getLsbD_allOnes]
  by_cases hlow : j < 48
  · rw [decide_eq_true hlow, Bool.true_and] at hbit
    simp [hbit]
  · simp [hlow]

/-! ### The parts of the image -/

section
variable {s : State} {l : Image} {off w : Nat}

theorem imageHead_other (h : (20 ≤ off ∧ 8 * off + w ≤ 2560) ∨ 324 ≤ off) : field (imageHead s l) off w = field l off w := by
  simp (disch := omega) only [imageHead, placeNat, field_place_other]

theorem imageReplay_other (h : 8 * off + w ≤ 160 ∨ 28 ≤ off) : field (imageReplay s l) off w = field l off w := by
  simp (disch := omega) only [imageReplay, placeNat, field_place_other]

theorem imageRibbon_other {r : Ribbon} {at' : Nat} (h : 8 * off + w ≤ 8 * at' ∨ at' + 3 ≤ off) :
    field (imageRibbon at' r l) off w = field l off w := by
  simp (disch := omega) only [imageRibbon, placeNat, field_place_other]

theorem imageMessages_other (h : 8 * off + w ≤ 272 ∨ 40 ≤ off) : field (imageMessages s l) off w = field l off w := by
  simp (disch := omega) only [imageMessages, placeNat, field_place_other]

theorem imageFlags_other (h : 8 * off + w ≤ 320 ∨ 56 ≤ off) : field (imageFlags s l) off w = field l off w := by
  simp (disch := omega) only [imageFlags, placeNat, field_place_other]

theorem underruns_other (ids : List Nat) (l : Image) (hids : ∀ z ∈ ids, z < 24)
    (h : 8 * off + w ≤ 512 ∨ 112 ≤ off) :
    field (ids.foldl (fun l z => placeNat l (64 + 2 * z) 16 (underrunOf s z)) l) off w = field l off w := by
  induction ids generalizing l with
  | nil => rfl
  | cons z rest ih =>
    have hz := hids z List.mem_cons_self
    rw [List.foldl_cons, ih _ fun y hy => hids y (List.mem_cons_of_mem z hy), placeNat, field_place_other _ _ _ _ (by omega)]

theorem imageUnderruns_other (h : 8 * off + w ≤ 512 ∨ 112 ≤ off) : field (imageUnderruns s l) off w = field l off w :=
  underruns_other _ l (fun _ hz => List.mem_range.1 hz) h

/-- Each zone ID's underrun count, placed once. -/
theorem underruns_at (ids : List Nat) (l : Image) (hids : ids.Nodup) {n : Nat} (hn : n < 24) :
    field (ids.foldl (fun l z => placeNat l (64 + 2 * z) 16 (underrunOf s z)) l) (64 + 2 * n) 16
      = field l (64 + 2 * n) 16 ||| if n ∈ ids then BitVec.ofNat 16 (underrunOf s n) else 0 := by
  induction ids generalizing l with
  | nil => simp
  | cons z rest ih =>
    obtain ⟨hz, hrest⟩ := List.nodup_cons.1 hids
    rw [List.foldl_cons, ih _ hrest]
    by_cases hsame : n = z
    · subst hsame
      rw [placeNat, field_place_or _ _ _ (by omega), if_neg hz, if_pos List.mem_cons_self]
      simp
    · have hmem : n ∈ z :: rest ↔ n ∈ rest := by simp [hsame]
      rw [placeNat, field_place_other _ _ _ _ (by omega), if_congr hmem rfl rfl]

theorem imageUnderruns_at {n : Nat} (hn : n < 24) : field (imageUnderruns s l) (64 + 2 * n) 16
    = field l (64 + 2 * n) 16 ||| BitVec.ofNat 16 (underrunOf s n) := by
  rw [imageUnderruns, underruns_at _ l List.nodup_range hn, if_pos (show n ∈ List.range Config.zoneIds from List.mem_range.2 hn)]

end

/-! ### The fields of each part -/

section
variable (s : State)

theorem imageHead_fields :
    field (imageHead s 0) 0 32 = s.sweep.number ∧ field (imageHead s 0) 320 32 = s.sweep.number
      ∧ field (imageHead s 0) 4 8 = BitVec.ofNat 8 (alertCode s.alert.state)
      ∧ field (imageHead s 0) 5 8 = BitVec.ofNat 8 (thermalCode s.brightness.state)
      ∧ field (imageHead s 0) 6 8 = BitVec.ofNat 8 s.brightness.effective
      ∧ field (imageHead s 0) 7 8 = BitVec.ofNat 8 (consoleCode s.clock.console)
      ∧ field (imageHead s 0) 8 32 = BitVec.ofNat 32 s.clock.game.value
      ∧ field (imageHead s 0) 12 8 = BitVec.ofNat 8 (flagNat s.clock.game.running)
      ∧ field (imageHead s 0) 13 8 = BitVec.ofNat 8 s.clock.period
      ∧ field (imageHead s 0) 14 16 = BitVec.ofNat 16 s.figures.home
      ∧ field (imageHead s 0) 16 16 = BitVec.ofNat 16 s.figures.guest
      ∧ field (imageHead s 0) 18 8 = BitVec.ofNat 8 s.figures.homeAux
      ∧ field (imageHead s 0) 19 8 = BitVec.ofNat 8 s.figures.guestAux
      ∧ field (imageHead s 0) 324 480 = 0 := by
  simp (disch := omega) only [imageHead, placeNat, field_place_or, field_place_other, field_zero, zero_or_bits, and_self]

theorem imageReplay_fields {l : Image} (hblank : ∀ off w, 20 ≤ off → 8 * off + w ≤ 224 → field l off w = 0) :
    field (imageReplay s l) 20 8 = BitVec.ofNat 8 (clipCode s.replay.current)
      ∧ field (imageReplay s l) 21 8 = BitVec.ofNat 8 (clipNumber (·.angle) s.replay.current)
      ∧ field (imageReplay s l) 22 16 = BitVec.ofNat 16 (clipNumber (·.id) s.replay.current)
      ∧ field (imageReplay s l) 24 16 = BitVec.ofNat 16 (clipNumber (·.index) s.replay.current)
      ∧ field (imageReplay s l) 26 16 = BitVec.ofNat 16 (clipNumber (·.id) s.replay.onDeck) := by
  simp (disch := omega) only [imageReplay, placeNat, field_place_or, field_place_other, hblank, zero_or_bits, and_self]

theorem imageReplay_empty {l : Image} (hnone : s.replay.current = none)
    (hblank : ∀ off w, 20 ≤ off → 8 * off + w ≤ 224 → field l off w = 0) : field (imageReplay s l) 20 48 = 0 := by
  have hplaced : imageReplay s l = placeNat l 26 16 (clipNumber (·.id) s.replay.onDeck) := by
    rw [imageReplay, hnone]
    simp only [clipCode, clipNumber, placeNat, place_none]
  rw [hplaced, placeNat, field_place_other _ _ _ _ (by omega), hblank 20 48 (by omega) (by omega)]

theorem imageRibbon_fields {l : Image} {off : Nat} (r : Ribbon) (hfit : off ≤ 300)
    (hblank : ∀ at' w, off ≤ at' → 8 * at' + w ≤ 8 * (off + 3) → field l at' w = 0) :
    field (imageRibbon off r l) off 8 = BitVec.ofNat 8 (ribbonCode r.state)
      ∧ field (imageRibbon off r l) (off + 1) 8 = BitVec.ofNat 8 (entryCode r.entry)
      ∧ field (imageRibbon off r l) (off + 2) 8 = BitVec.ofNat 8 (flagNat r.staged.isSome) := by
  simp (disch := omega) only [imageRibbon, placeNat, field_place_or, field_place_other, hblank, zero_or_bits, and_self]

theorem imageMessages_fields {l : Image} (hblank : ∀ off w, 34 ≤ off → 8 * off + w ≤ 320 → field l off w = 0) :
    field (imageMessages s l) 34 16 = BitVec.ofNat 16 (match s.messages.onAir with | some o => o.msg.id | none => 0)
      ∧ field (imageMessages s l) 36 8 = BitVec.ofNat 8 s.messages.queue.length
      ∧ field (imageMessages s l) 38 16 = BitVec.ofNat 16 s.messages.lastGone := by
  rw [imageMessages]
  cases s.messages.onAir <;>
    simp (disch := omega) only [placeNat, field_place_or, field_place_other, hblank, zero_or_bits, and_self]

theorem imageFlags_fields {l : Image} (hblank : ∀ off w, 40 ≤ off → 8 * off + w ≤ 448 → field l off w = 0) :
    field (imageFlags s l) 40 32 = s.status.flags.setWidth 32
      ∧ field (imageFlags s l) 44 32 = s.decoder.latches.setWidth 32
      ∧ field (imageFlags s l) 48 16 = s.decoder.last.tag ∧ field (imageFlags s l) 50 8 = s.decoder.last.code
      ∧ field (imageFlags s l) 51 8 = BitVec.ofNat 8 (resultCode s.decoder.last.result)
      ∧ field (imageFlags s l) 52 32 = BitVec.ofNat 32 s.decoder.last.detail := by
  simp (disch := omega) only [imageFlags, placeNat, field_place_or, field_place_wide, field_place_other, hblank,
    zero_or_bits, and_self]

end

/-- Settles O31. -/
theorem statusImageHoldsItsFields : Obligations.StatusImageHoldsItsFields := by
  intro s i ribbonAt
  have hhead (off w : Nat) (h : 8 * off + w ≤ 160 ∨ 320 ≤ off) : field i off w = field (imageHead s 0) off w := by
    simp (disch := omega) only [i, statusImage, imageUnderruns_other, imageFlags_other, imageMessages_other,
      imageRibbon_other, imageReplay_other]
  have hblank (off w : Nat) (hlow : 20 ≤ off) (hhigh : 8 * off + w ≤ 2560) : field (imageHead s 0) off w = 0 := by
    rw [imageHead_other (.inl ⟨hlow, hhigh⟩), field_zero]
  have hreplay (off w : Nat) (hlow : 20 ≤ off) (hhigh : 8 * off + w ≤ 224) :
      field i off w = field (imageReplay s (imageHead s 0)) off w := by
    simp (disch := omega) only [i, statusImage, imageUnderruns_other, imageFlags_other, imageMessages_other,
      imageRibbon_other]
  have hribbonA (off w : Nat) (hlow : 28 ≤ off) (hhigh : 8 * off + w ≤ 248) :
      field i off w = field (imageRibbon 28 s.rotation.a (imageReplay s (imageHead s 0))) off w := by
    simp (disch := omega) only [i, statusImage, imageUnderruns_other, imageFlags_other, imageMessages_other,
      imageRibbon_other]
  have hribbonB (off w : Nat) (hlow : 31 ≤ off) (hhigh : 8 * off + w ≤ 272) : field i off w
      = field (imageRibbon 31 s.rotation.b (imageRibbon 28 s.rotation.a (imageReplay s (imageHead s 0)))) off w := by
    simp (disch := omega) only [i, statusImage, imageUnderruns_other, imageFlags_other, imageMessages_other]
  have hmessages (off w : Nat) (hlow : 34 ≤ off) (hhigh : 8 * off + w ≤ 320) : field i off w
      = field (imageMessages s (imageRibbon 31 s.rotation.b
          (imageRibbon 28 s.rotation.a (imageReplay s (imageHead s 0))))) off w := by
    simp (disch := omega) only [i, statusImage, imageUnderruns_other, imageFlags_other]
  have hflags (off w : Nat) (hlow : 40 ≤ off) (hhigh : 8 * off + w ≤ 448) : field i off w
      = field (imageFlags s (imageMessages s (imageRibbon 31 s.rotation.b
          (imageRibbon 28 s.rotation.a (imageReplay s (imageHead s 0)))))) off w := by
    simp (disch := omega) only [i, statusImage, imageUnderruns_other]
  have hrest (off w : Nat) (hlow : 56 ≤ off) (hhigh : 8 * off + w ≤ 2560) :
      field (imageFlags s (imageMessages s (imageRibbon 31 s.rotation.b
        (imageRibbon 28 s.rotation.a (imageReplay s (imageHead s 0)))))) off w = 0 := by
    simp (disch := omega) only [imageFlags_other, imageMessages_other, imageRibbon_other, imageReplay_other, hblank]
  have hribbon {off : Nat} {r : Ribbon} (h : field i off 8 = BitVec.ofNat 8 (ribbonCode r.state)
      ∧ field i (off + 1) 8 = BitVec.ofNat 8 (entryCode r.entry)
      ∧ field i (off + 2) 8 = BitVec.ofNat 8 (flagNat r.staged.isSome)) : ribbonAt off r := by
    refine ⟨h.1.trans ?_, h.2.1.trans ?_, h.2.2.trans ?_⟩
    · cases r.state <;> rfl
    · cases r.entry <;> rfl
    · cases r.staged <;> rfl
  obtain ⟨h0, h320, h4, h5, h6, h7, h8, h12, h13, h14, h16, h18, h19, h324⟩ := imageHead_fields s
  obtain ⟨h20, h21, h22, h24, h26⟩ := imageReplay_fields s fun off w hlow hhigh => hblank off w hlow (by omega)
  obtain ⟨h34, h36, h38⟩ := imageMessages_fields s (l := imageRibbon 31 s.rotation.b (imageRibbon 28 s.rotation.a
    (imageReplay s (imageHead s 0)))) fun off w hlow hhigh => by
      simp (disch := omega) only [imageRibbon_other, imageReplay_other, hblank]
  obtain ⟨h40, h44, h48, h50, h51, h52⟩ := imageFlags_fields s (l := imageMessages s (imageRibbon 31 s.rotation.b
    (imageRibbon 28 s.rotation.a (imageReplay s (imageHead s 0))))) fun off w hlow hhigh => by
      simp (disch := omega) only [imageMessages_other, imageRibbon_other, imageReplay_other, hblank]
  refine ⟨(hhead _ _ (by omega)).trans h0, (hhead _ _ (by omega)).trans h320, ((hhead _ _ (by omega)).trans h4).trans ?_,
    ((hhead _ _ (by omega)).trans h5).trans ?_, (hhead _ _ (by omega)).trans h6, ((hhead _ _ (by omega)).trans h7).trans ?_,
    (hhead _ _ (by omega)).trans h8, ((hhead _ _ (by omega)).trans h12).trans ?_, (hhead _ _ (by omega)).trans h13,
    (hhead _ _ (by omega)).trans h14, (hhead _ _ (by omega)).trans h16, (hhead _ _ (by omega)).trans h18,
    (hhead _ _ (by omega)).trans h19, fun hnone => ?_, fun c hclip => ⟨?_, ?_, ?_, ?_⟩,
    ((hreplay _ _ (by omega) (by omega)).trans h26).trans ?_, hribbon ?_, hribbon ?_,
    ((hmessages _ _ (by omega) (by omega)).trans h34).trans ?_, (hmessages _ _ (by omega) (by omega)).trans h36,
    (hmessages _ _ (by omega) (by omega)).trans h38, (hflags _ _ (by omega) (by omega)).trans h40,
    (hflags _ _ (by omega) (by omega)).trans h44, (hflags _ _ (by omega) (by omega)).trans h48,
    (hflags _ _ (by omega) (by omega)).trans h50, (hflags _ _ (by omega) (by omega)).trans h51,
    (hflags _ _ (by omega) (by omega)).trans h52, fun n hn => ?_, ?_, (hhead _ _ (by omega)).trans h324⟩
  · cases s.alert.state <;> rfl
  · cases s.brightness.state <;> rfl
  · cases s.clock.console <;> rfl
  · cases s.clock.game.running <;> rfl
  · refine masked_of_blank i 20 ?_
    rw [hreplay _ _ (by omega) (by omega)]
    exact imageReplay_empty s hnone fun off w hlow hhigh => hblank off w hlow (by omega)
  · rw [hreplay _ _ (by omega) (by omega), h20, hclip, clipCode]
    cases c.state <;> rfl
  · rw [hreplay _ _ (by omega) (by omega), h21, hclip, clipNumber]
  · rw [hreplay _ _ (by omega) (by omega), h22, hclip, clipNumber]
  · rw [hreplay _ _ (by omega) (by omega), h24, hclip, clipNumber]
  · cases s.replay.onDeck <;> rfl
  · obtain ⟨hstate, hentry, hstaged⟩ := imageRibbon_fields s.rotation.a (off := 28) (by omega)
      (l := imageReplay s (imageHead s 0)) fun off w hlow hhigh => by
        simp (disch := omega) only [imageReplay_other, hblank]
    exact ⟨(hribbonA _ _ (by omega) (by omega)).trans hstate, (hribbonA _ _ (by omega) (by omega)).trans hentry,
      (hribbonA _ _ (by omega) (by omega)).trans hstaged⟩
  · obtain ⟨hstate, hentry, hstaged⟩ := imageRibbon_fields s.rotation.b (off := 31) (by omega)
      (l := imageRibbon 28 s.rotation.a (imageReplay s (imageHead s 0))) fun off w hlow hhigh => by
        simp (disch := omega) only [imageRibbon_other, imageReplay_other, hblank]
    exact ⟨(hribbonB _ _ (by omega) (by omega)).trans hstate, (hribbonB _ _ (by omega) (by omega)).trans hentry,
      (hribbonB _ _ (by omega) (by omega)).trans hstaged⟩
  · cases s.messages.onAir <;> rfl
  · show field (imageUnderruns s _) (64 + 2 * n) 16 = _
    rw [imageUnderruns_at hn, hrest _ _ (by omega) (by omega), zero_or_bits]
    rfl
  · show field (imageUnderruns s _) 112 1664 = _
    rw [imageUnderruns_other (.inr (by omega)), hrest _ _ (by omega) (by omega)]

end Sys2Proof.Proofs
end

section
/-! PROOFS. The part's own lines (R43, R44, R52, R57, R62, R152, R153). -/

namespace Sys2Proof.Proofs

open Sys2Proof.Machine Sys2Proof.Safety

/-! ### The grant of a line of the part -/

section
variable {s : State}

/-- R43: the part's next line, at its turn. -/
theorem mportGrant_part {x : PartLine} (hready : PortReady 2 s) (hnext : partNext s = some x) :
    mportGrant s = grantPartLine x { s with turn := 3 } := by
  have hwaits : waits (requesterAt 2) s = true := by
    show (!s.bypass && (partNext s).isSome) = true
    rw [hready.2.1, hnext]
    rfl
  have hgrant : partNext { s with turn := 2 + 1 } = some x := hnext
  rw [mportGrant_ready hready, grantLine_turn hready.2.2.2 hwaits]
  show grantPart { s with turn := 2 + 1 } = _
  rw [grantPart, hgrant]
  rfl

theorem waits_part_idle (h : partNext s = none) : waits .part s = false := by
  rw [waits, h, Option.isSome_none, Bool.and_false]

theorem recordNext_fetching {l : Lane} {origin : FlightOrigin} {a : Nat} (hlane : s.decoder.lane = some l)
    (hphase : l.phase = .fetching) (howner : ownerLine l.cue s = some (origin, a)) :
    recordNext s = some (.record origin a) := by
  rw [recordNext, hlane]
  show (if l.phase = .fetching then _ else _) = _
  rw [if_pos hphase, howner]
  rfl

theorem recordNext_none (h : ∀ l, s.decoder.lane = some l → l.phase ≠ .fetching) : recordNext s = none := by
  rw [recordNext]
  cases hlane : s.decoder.lane with
  | none => rfl
  | some l => exact if_neg (h l hlane)

/-- R43, R50: the owner's next record line, at the part's turn. -/
theorem mportGrant_record {l : Lane} {origin : FlightOrigin} {a : Nat} (hready : PortReady 2 s)
    (hlane : s.decoder.lane = some l) (hphase : l.phase = .fetching) (howner : ownerLine l.cue s = some (origin, a)) :
    mportGrant s
      = { s with turn := 3, port := some { origin := origin, data := memLine s.mem a, dropped := false } } := by
  refine mportGrant_part hready (x := .record origin a) ?_
  rw [partNext, recordNext_fetching hlane hphase howner]
  rfl

theorem snapshotNext_written (h : ∀ p, s.exposure.snapshot = some p → p.lines = []) : snapshotNext s = none := by
  rw [snapshotNext]
  cases hsnapshot : s.exposure.snapshot with
  | none => rfl
  | some p => simp only [h p hsnapshot]

/-- R43: with no record line ready, the snapshot's lines, the status block's and the final record go in this order. -/
theorem partNext_unfetched (h : ∀ l, s.decoder.lane = some l → l.phase ≠ .fetching) :
    partNext s = (snapshotNext s <|> statusNext s <|> finalNext s) := by
  rw [partNext, recordNext_none h]
  rfl

theorem partNext_written (h : ∀ l, s.decoder.lane = some l → l.phase ≠ .fetching)
    (hwritten : ∀ p, s.exposure.snapshot = some p → p.lines = []) : partNext s = (statusNext s <|> finalNext s) := by
  rw [partNext_unfetched h, snapshotNext_written hwritten]
  rfl

theorem statusNext_none (h : s.status.lines = []) : statusNext s = none := by
  rw [statusNext, h]

end

/-! ### Where a line lands -/

/-- R27, R57: a whole line replaces its own 64 bytes. -/
theorem memRead_whole {m : List Host.Cell} (hm : Memory.wf m) (a x : Nat) (data : Line) :
    memRead (memWriteBytes m a data fullMask 64) x
      = if a ≤ x ∧ x < a + 64 then byteAt data (x - a) else memRead m x := by
  rw [memRead_memWriteBytes a data fullMask 64 x hm]
  refine if_congr (and_congr_right fun hlow => and_iff_left_of_imp fun hhigh => ?_) rfl rfl
  rw [fullMask, BitVec.getLsbD_allOnes, decide_eq_true (by omega)]

theorem refuses_eq (r : Result) : refuses r = (decide (r ≠ .done) && decide (r ≠ .cancelled)) := by
  cases r <;> rfl

theorem landFinal_eq (l : Lane) (r : FinalRecord) (s : State) :
    landFinal l r s = raiseIf (decide (r.result ≠ .done) && decide (r.result ≠ .cancelled)) .cueRefused
      (raise .longCueDone
        { s with
          mem := memWriteBytes s.mem (apertureLine 1 s) (finalLine l r) fullMask 64
          decoder := { s.decoder with lane := none }
          exposure := { s.exposure with snapshot := none } }) := by
  simp only [landFinal, writeWhole, writeLine, refuses_eq]

/-- R62, log 30: a snapshot line in the aperture waits for the first status image. -/
theorem snapshotNext_some {s : State} {p : Snapshot} {x : SnapshotLine} {rest : List SnapshotLine}
    (hsnapshot : s.exposure.snapshot = some p) (hlines : p.lines = x :: rest) :
    snapshotNext s = if inAperture (snapshotAddr p x) s && !apertureOpen s then none else some (.snapshot p x rest) := by
  rw [snapshotNext, hsnapshot]
  simp only [hlines]

theorem inAperture_eq_false {a : Nat} {s : State} :
    inAperture a s = false ↔ a < apertureBase s ∨ apertureBase s + 4096 ≤ a := by
  rw [inAperture, Bool.and_eq_false_iff, decide_eq_false_iff_not, decide_eq_false_iff_not, Nat.not_le, Nat.not_lt]
  rfl

theorem snapshotNext_ready {s : State} {p : Snapshot} {x : SnapshotLine} {rest : List SnapshotLine}
    (hsnapshot : s.exposure.snapshot = some p) (hlines : p.lines = x :: rest)
    (hopen : s.status.image ≠ none ∨ snapshotAddr p x < apertureBase s ∨ apertureBase s + 4096 ≤ snapshotAddr p x) :
    snapshotNext s = some (.snapshot p x rest) := by
  rw [snapshotNext_some hsnapshot hlines, if_neg]
  rw [Bool.and_eq_true, Bool.not_eq_true', not_and_or, Bool.not_eq_true, inAperture_eq_false, Bool.not_eq_false,
    apertureOpen, ← Option.ne_none_iff_isSome, or_comm]
  exact hopen

theorem snapshotNext_held {s : State} {p : Snapshot} {x : SnapshotLine} {rest : List SnapshotLine}
    (hsnapshot : s.exposure.snapshot = some p) (hlines : p.lines = x :: rest) (himage : s.status.image = none)
    (hlow : apertureBase s ≤ snapshotAddr p x) (hhigh : snapshotAddr p x < apertureBase s + 4096) :
    snapshotNext s = none := by
  rw [snapshotNext_some hsnapshot hlines, if_pos]
  rw [apertureOpen, himage, Bool.and_eq_true, ← Bool.not_eq_false (inAperture _ _), inAperture_eq_false]
  exact ⟨by omega, rfl⟩

/-! ### The lines of a snapshot (08 section 8.6) -/

section
variable (p : Snapshot)

theorem snapshotHeader_fields (state : SnapshotState) :
    byteAt (snapshotHeader p state) 0 = BitVec.ofNat 8 (snapshotStateCode state)
      ∧ byteAt (snapshotHeader p state) 1 = BitVec.ofNat 8 (flagNat p.zero + 2 * flagNat p.purge)
      ∧ halfAt (snapshotHeader p state) 2 = p.tag ∧ wordAt (snapshotHeader p state) 4 = p.number
      ∧ byteAt (snapshotHeader p state) 8 = BitVec.ofNat 8 p.image.length := by
  simp (disch := omega) only [snapshotHeader, byteAt, halfAt, wordAt, placeNat, field_place_or, field_place_other,
    field_zero, zero_or_bits, and_self]

/-- An entry takes its own 32 bytes of a line. -/
theorem placeEntry_other {l : Line} {off : Nat} (e : ExposureEntry) {at' w : Nat}
    (h : 8 * at' + w ≤ 8 * off ∨ 8 * (off + 32) ≤ 8 * at') : field (placeEntry l off e) at' w = field l at' w := by
  simp (disch := omega) only [placeEntry, placeNat, field_place_other]

theorem placeEntry_fields {l : Line} {off : Nat} (e : ExposureEntry) (hfit : off ≤ 32)
    (hblank : ∀ at' w, off ≤ at' → 8 * at' + w ≤ 8 * (off + 32) → field l at' w = 0) :
    byteAt (placeEntry l off e) off = BitVec.ofNat 8 e.sponsor
      ∧ byteAt (placeEntry l off e) (off + 1) = BitVec.ofNat 8 (flagNat e.frozen)
      ∧ (∀ i, 2 ≤ i → i < 8 → byteAt (placeEntry l off e) (off + i) = 0)
      ∧ wordAt (placeEntry l off e) (off + 8) = BitVec.ofNat 32 e.scheduled
      ∧ wordAt (placeEntry l off e) (off + 12) = BitVec.ofNat 32 e.credited
      ∧ wordAt (placeEntry l off e) (off + 16) = BitVec.ofNat 32 e.unshown
      ∧ wordAt (placeEntry l off e) (off + 20) = BitVec.ofNat 32 e.occluded
      ∧ wordAt (placeEntry l off e) (off + 24) = BitVec.ofNat 32 e.dimmed
      ∧ wordAt (placeEntry l off e) (off + 28) = BitVec.ofNat 32 e.moment := by
  refine ⟨?_, ?_, fun i hlow hhigh => ?_, ?_, ?_, ?_, ?_, ?_, ?_⟩ <;>
    simp (disch := omega) only [placeEntry, byteAt, wordAt, placeNat, field_place_or, field_place_other, hblank,
      zero_or_bits]

end

/-- The entry of the `k`th half of an entry line. -/
def EntryAt (d : Line) (k : Nat) (e : ExposureEntry) : Prop :=
  byteAt d (32 * k) = BitVec.ofNat 8 e.sponsor ∧ byteAt d (32 * k + 1) = (if e.frozen = true then 1 else 0)
    ∧ (∀ i, 2 ≤ i → i < 8 → byteAt d (32 * k + i) = 0)
    ∧ wordAt d (32 * k + 8) = BitVec.ofNat 32 e.scheduled ∧ wordAt d (32 * k + 12) = BitVec.ofNat 32 e.credited
    ∧ wordAt d (32 * k + 16) = BitVec.ofNat 32 e.unshown ∧ wordAt d (32 * k + 20) = BitVec.ofNat 32 e.occluded
    ∧ wordAt d (32 * k + 24) = BitVec.ofNat 32 e.dimmed ∧ wordAt d (32 * k + 28) = BitVec.ofNat 32 e.moment

section
variable {l d : Line} {k : Nat} {e : ExposureEntry}

theorem placeEntry_entryAt (hk : k < 2) (hblank : ∀ at' w, 32 * k ≤ at' → 8 * at' + w ≤ 8 * (32 * k + 32) → field l at' w = 0) :
    EntryAt (placeEntry l (32 * k) e) k e := by
  obtain ⟨hsponsor, hfrozen, hcounts⟩ := placeEntry_fields e (by omega) hblank
  refine ⟨hsponsor, hfrozen.trans ?_, hcounts⟩
  cases e.frozen <;> rfl

/-- Two lines alike in a half carry the same entry there. -/
theorem EntryAt.congr (h : EntryAt l k e)
    (hsame : ∀ at' w, 32 * k ≤ at' → 8 * at' + w ≤ 8 * (32 * k + 32) → field d at' w = field l at' w) : EntryAt d k e := by
  obtain ⟨hsponsor, hfrozen, hzero, hscheduled, hcredited, hunshown, hoccluded, hdimmed, hmoment⟩ := h
  exact ⟨(hsame _ _ (by omega) (by omega)).trans hsponsor, (hsame _ _ (by omega) (by omega)).trans hfrozen,
    fun i hlow hhigh => (hsame _ _ (by omega) (by omega)).trans (hzero i hlow hhigh),
    (hsame _ _ (by omega) (by omega)).trans hscheduled, (hsame _ _ (by omega) (by omega)).trans hcredited,
    (hsame _ _ (by omega) (by omega)).trans hunshown, (hsame _ _ (by omega) (by omega)).trans hoccluded,
    (hsame _ _ (by omega) (by omega)).trans hdimmed, (hsame _ _ (by omega) (by omega)).trans hmoment⟩

end

/-- The first half of an entry line, with nothing in the second. -/
def firstEntry (p : Snapshot) (n : Nat) : Line :=
  match p.image[2 * n]? with
  | some e => placeEntry 0 0 e
  | none => 0

section
variable {p : Snapshot} {n : Nat}

theorem firstEntry_second {at' w : Nat} (h : 32 ≤ at') : field (firstEntry p n) at' w = 0 := by
  rw [firstEntry]
  split
  · rw [placeEntry_other _ (.inr (by omega)), field_zero]
  · exact field_zero _ _

theorem snapshotEntries_eq (p : Snapshot) (n : Nat) :
    snapshotEntries p n
      = match p.image[2 * n + 1]? with | some e => placeEntry (firstEntry p n) 32 e | none => firstEntry p n := rfl

theorem snapshotEntries_first {at' w : Nat} (h : 8 * at' + w ≤ 256) :
    field (snapshotEntries p n) at' w = field (firstEntry p n) at' w := by
  rw [snapshotEntries_eq]
  split
  · exact placeEntry_other _ (.inl (by omega))
  · rfl

/-- R152: the two entries of an entry line, in image order. -/
theorem snapshotEntries_entryAt {k : Nat} (hk : k < 2) {e : ExposureEntry} (he : p.image[2 * n + k]? = some e) :
    EntryAt (snapshotEntries p n) k e := by
  match k, hk with
  | 0, _ =>
    have hfirst : firstEntry p n = placeEntry 0 (32 * 0) e := by
      rw [Nat.add_zero] at he
      rw [firstEntry, he]
    refine EntryAt.congr (l := firstEntry p n) ?_ fun at' w _ hhigh => snapshotEntries_first (by omega)
    rw [hfirst]
    exact placeEntry_entryAt (by omega) fun _ _ _ _ => field_zero _ _
  | 1, _ =>
    rw [snapshotEntries_eq, he]
    exact placeEntry_entryAt (k := 1) (by omega) fun _ _ hlow _ => firstEntry_second (by omega)

/-- R152: zeros stand where there is no entry. -/
theorem snapshotEntries_blank {k : Nat} (hk : k < 2) (hnone : p.image.length ≤ 2 * n + k) {i : Nat} (hi : i < 32) :
    byteAt (snapshotEntries p n) (32 * k + i) = 0 := by
  have hlast : p.image[2 * n + 1]? = none := List.getElem?_eq_none (by omega)
  have hline : snapshotEntries p n = firstEntry p n := by rw [snapshotEntries_eq, hlast]
  rw [byteAt, hline]
  match k, hk with
  | 0, _ =>
    rw [firstEntry, List.getElem?_eq_none (by omega : p.image.length ≤ 2 * n)]
    exact field_zero _ _
  | 1, _ => exact firstEntry_second (by omega)

end

/-! ### What follows from a snapshot line -/

theorem writeSnapshotLine_eq (p : Snapshot) (x : SnapshotLine) (rest : List SnapshotLine) (s : State) :
    writeSnapshotLine p x rest s = snapshotLanded p x rest
      { s with mem := memWriteBytes s.mem (snapshotAddr p x) (snapshotData p x) fullMask 64 } := by
  simp only [writeSnapshotLine, writeWhole, writeLine]

/-- R152: an entry line is counted, and the COMPLETE header settles the cue. -/
theorem snapshotLanded_writing {s : State} {l : Lane} (p : Snapshot) (x : SnapshotLine) (rest : List SnapshotLine)
    (hlane : s.decoder.lane = some l) (hphase : l.phase = .writing) :
    (snapshotLanded p x rest s).mem = s.mem ∧ (snapshotLanded p x rest s).exposure.entries = s.exposure.entries
      ∧ (∃ q, (snapshotLanded p x rest s).exposure.snapshot = some q ∧ q.lines = rest ∧ q.image = p.image)
      ∧ (x = .header .inProgress ∨ x = .header .cancelled → (snapshotLanded p x rest s).decoder = s.decoder)
      ∧ (∀ n, x = .entries n → (snapshotLanded p x rest s).decoder.lane
          = some { l with records := p.written + min 2 (p.image.length - 2 * n) })
      ∧ (x = .header .complete → l.final = none → (snapshotLanded p x rest s).decoder.lane
          = some { l with final := some { result := .done, detail := p.image.length } }) := by
  cases x with
  | entries n => exact ⟨rfl, rfl, ⟨_, rfl, rfl, rfl⟩, nofun, fun n' hn' => by cases hn'; exact congrArg (Option.map _) hlane, nofun⟩
  | header state =>
    cases state with
    | inProgress => exact ⟨rfl, rfl, ⟨_, rfl, rfl, rfl⟩, fun _ => rfl, nofun, nofun⟩
    | complete =>
      refine ⟨rfl, rfl, ⟨_, rfl, rfl, rfl⟩, nofun, nofun, fun _ hopen => ?_⟩
      refine (congrArg (Option.map _) hlane).trans (congrArg some ((settleLane_open .done p.image.length l hopen).trans ?_))
      rw [← hphase]
    | cancelled => exact ⟨rfl, rfl, ⟨_, rfl, rfl, rfl⟩, fun _ => rfl, nofun, nofun⟩

/-- R152: a snapshot line at the part's turn. -/
theorem mportGrant_snapshot {s : State} {l : Lane} {p : Snapshot} {x : SnapshotLine} {rest : List SnapshotLine}
    (hready : PortReady 2 s) (hlane : s.decoder.lane = some l) (hphase : l.phase = .writing)
    (hsnapshot : s.exposure.snapshot = some p) (hlines : p.lines = x :: rest)
    (hopen : s.status.image ≠ none ∨ snapshotAddr p x < apertureBase s ∨ apertureBase s + 4096 ≤ snapshotAddr p x) :
    mportGrant s = snapshotLanded p x rest
      { s with turn := 3, mem := memWriteBytes s.mem (snapshotAddr p x) (snapshotData p x) fullMask 64 } := by
  refine (mportGrant_part hready (x := .snapshot p x rest) ?_).trans (writeSnapshotLine_eq p x rest _)
  rw [partNext_unfetched fun l' hl' => ?_, snapshotNext_ready hsnapshot hlines hopen]
  · rfl
  · rw [hlane] at hl'
    cases hl'
    rw [hphase]
    exact LanePhase.noConfusion

/-- Settles O15. -/
theorem partLinesLandInOrder : Obligations.PartLinesLandInOrder := by
  refine ⟨fun s l hready hlane hphase => ?_, fun s hready hmem hphase hwritten => ⟨fun x rest hlines => ?_,
    fun l r himage hlines hlane hfinal => ?_, fun himage hlines => ?_⟩, fun s l p x rest hready hlane hphase hsnapshot
    hlines => ?_, fun p => ⟨fun state => ?_, fun n k hk => ⟨fun hnone i hi => snapshotEntries_blank hk hnone hi,
      fun e he => snapshotEntries_entryAt hk he⟩⟩⟩
  · intro granted
    refine ⟨fun x hcue hload => ?_, fun x hcue hload => ?_, fun x hcue harm => ?_, fun g hcue hgather => ?_⟩ <;>
      refine congrArg _ ((mportGrant_record hready hlane hphase ?_).trans rfl)
    · rw [hcue, ownerLine, hload]
      rfl
    · rw [hcue, ownerLine, hload]
      rfl
    · rw [hcue, ownerLine, harm]
      cases hheader : x.header <;> simp [clipLineAddr, hheader]
    · rw [hcue, ownerLine, hgather]
      rfl
  · have hnext : partNext s = some (.status x rest) := by
      rw [partNext_written hphase hwritten, statusNext, hlines]
      rfl
    exact ⟨_, congrArg _ (mportGrant_part hready hnext), fun a => memRead_whole hmem _ a _⟩
  · have hnext : partNext s = some (.final l r) := by
      rw [partNext_written hphase hwritten, statusNext_none hlines, finalNext, apertureOpen,
        Option.isSome_iff_ne_none.2 himage, if_pos rfl, hlane]
      show Option.map _ l.final = _
      rw [hfinal]
      rfl
    refine ⟨_, congrArg _ ((mportGrant_part hready hnext).trans ?_), fun a => memRead_whole hmem _ a _⟩
    exact landFinal_eq l r { s with turn := 3 }
  · apply waits_part_idle
    rw [partNext_written hphase hwritten, statusNext_none hlines, finalNext_unimaged himage]
    rfl
  · intro a
    have ha : a = snapshotAddr p x := by cases x <;> rfl
    refine ⟨fun himage hstatus hlow hhigh => waits_part_idle ?_, fun hopen => ?_⟩
    · rw [partNext_unfetched fun l' hl' => ?_, snapshotNext_held hsnapshot hlines himage (ha ▸ hlow) (ha ▸ hhigh),
        statusNext_none hstatus, finalNext_unimaged himage]
      · rfl
      · rw [hlane] at hl'
        cases hl'
        rw [hphase]
        exact LanePhase.noConfusion
    · refine ⟨_, congrArg Host.Outcome.next (mportGrant_snapshot hready hlane hphase hsnapshot hlines (ha ▸ hopen)), ?_⟩
      rw [ha]
      generalize memWriteBytes s.mem (snapshotAddr p x) (snapshotData p x) fullMask 64 = m
      exact snapshotLanded_writing (s := { s with turn := 3, mem := m }) p x rest hlane hphase
  · obtain ⟨hstate, hflags, htag, hnumber, hlength⟩ := snapshotHeader_fields p state
    refine ⟨hstate.trans ?_, ?_, ?_, htag, hnumber, hlength⟩
    · cases state <;> rfl
    · show (byteAt (snapshotHeader p state) 1).getLsbD 0 = _
      rw [hflags]
      cases p.zero <;> cases p.purge <;> rfl
    · show (byteAt (snapshotHeader p state) 1).getLsbD 1 = _
      rw [hflags]
      cases p.zero <;> cases p.purge <;> rfl

end Sys2Proof.Proofs
end

section
/-! PROOFS. The sweep link's fall and the slots' deadlines (R17, R22). -/

namespace Sys2Proof.Proofs

open Sys2Proof.Machine Sys2Proof.Safety

/-! ### The slot at its deadline -/

section
variable {before after : List Slot} {x : Slot}

theorem openSlot_split (hbefore : ∀ y ∈ before, y.closed ≠ none) (hopen : x.closed = none) (seen : List Slot) :
    openSlot seen (before ++ x :: after) = some (seen.reverse ++ before, x, after) := by
  induction before generalizing seen with
  | nil => rw [List.nil_append, openSlot, hopen, List.append_nil]; rfl
  | cons y ys ih =>
    have hclosed : y.closed.isNone = false := by
      rw [← Bool.not_eq_true, Option.isNone_iff_eq_none]
      exact hbefore y List.mem_cons_self
    rw [List.cons_append, openSlot, hclosed, if_neg Bool.false_ne_true, ih (fun z hz => hbefore z (List.mem_cons_of_mem y hz)),
      List.reverse_cons, List.append_assoc]
    rfl

/-- SLOT_DEADLINE closes the first slot not yet closed. -/
theorem slotDeadline_first {s : State} (hframe : s.sweep.frame = .zones (before ++ x :: after))
    (hbefore : ∀ y ∈ before, y.closed ≠ none) (hopen : x.closed = none) :
    slotDeadline s = closeSlot before x after s := by
  simp only [slotDeadline, hframe, openSlot_split hbefore hopen, List.reverse_nil, List.nil_append]

theorem slotDeadline_alert {s : State} {x : AlertSlot} (hframe : s.sweep.frame = .alert x) (hopen : x.closed = false) :
    slotDeadline s = closeAlert x s := by
  simp only [slotDeadline, hframe, hopen, Bool.false_eq_true, if_false]

/-- R22: an UNSENT slot sends nothing and counts no underrun; its report is all that follows. -/
theorem closeSlot_unsent {s : State} (h : x.settlement = .unsent) :
    closeSlot before x after s = takeReportOf (slotReport .unsent s.sweep.duty x) (recordClose before x after s) := by
  have hclosing (b : Bool) : closing x b = .unsent := by rw [closing, h]
  have hunder : underruns x = false := by rw [underruns, h]; rfl
  rw [closeSlot_eq, hclosing, hunder]
  rfl

end

/-! ### The fall of link-ready -/

theorem dropSweep_eq (s : State) : dropSweep s =
    { s with port := s.port.map (fun f => { f with
        dropped := f.dropped || f.origin == .alertSlot || (match f.origin with | .slot _ => true | _ => false) }) } := by
  have hflight (f : Flight) : (if sweepOrigin f.origin then { f with dropped := true } else f) = { f with
      dropped := f.dropped || f.origin == .alertSlot || (match f.origin with | .slot _ => true | _ => false) } := by
    obtain ⟨origin, data, dropped⟩ := f
    cases origin <;> cases dropped <;> rfl
  simp only [dropSweep, hflight]

theorem linkFalls_idle {s : State} (h : s.sweep.frame = .none) :
    linkFalls s = { s with pins := { s.pins with linkReady := false } } := by
  simp only [linkFalls, h, Frame.running, Bool.false_eq_true, if_false]

theorem linkFalls_running {s : State} (h : s.sweep.frame.running = true) :
    linkFalls s = raise .linkDown (dropSweep
      { s with
        pins := { s.pins with linkReady := false }
        sweep := { s.sweep with
          frame := cutFrame s.sweep.frame
          zones := s.sweep.zones.map (fun z => { z with receiver := .stale }) } }) := by
  simp only [linkFalls, h, if_true]
  rfl

theorem unsendSlot_closed {x : Slot} (h : x.closed ≠ none) : unsendSlot x = x := by
  rw [unsendSlot, if_neg (mt Option.isNone_iff_eq_none.1 h)]

theorem unsendSlot_open {x : Slot} (h : x.closed = none) :
    unsendSlot x = { x with settlement := .unsent, fetch := { x.fetch with runs := [] } } := by
  rw [unsendSlot, if_pos (Option.isNone_iff_eq_none.2 h)]

theorem map_unsendSlot_closed {l : List Slot} (h : ∀ y ∈ l, y.closed ≠ none) : l.map unsendSlot = l :=
  (List.map_congr_left fun y hy => unsendSlot_closed (h y hy)).trans (List.map_id l)

theorem exec_linkReadyFalls {s : State} (h : s.bypass = false) : exec .linkReadyFalls s = .next (linkFalls s) := by
  show Host.Outcome.next (if s.bypass then _ else _) = _
  rw [h]
  rfl

/-- R18, R22: the deadline of an unsent slot leaves its zone STALE and its underruns as they were. -/
theorem closeZone_unsent {x : Slot} {z : Zone} : closeZone .unsent false x z = { z with receiver := .stale } := rfl

/-- R22: the deadline of an unsent slot, where every zone is STALE. -/
theorem recordClose_unsent {before after : List Slot} {x : Slot} {s : State} (h : x.settlement = .unsent)
    (hstale : ∀ z ∈ s.sweep.zones, z.receiver = .stale) :
    (recordClose before x after s).sweep.zones = s.sweep.zones := by
  have hclosing (b : Bool) : closing x b = .unsent := by rw [closing, h]
  have hunder : underruns x = false := by rw [underruns, h]; rfl
  show s.sweep.zones.map _ = _
  rw [hclosing, hunder]
  refine (List.map_congr_left fun z hz => ?_).trans (List.map_id _)
  split
  · rw [closeZone_unsent, ← hstale z hz]
    rfl
  · rfl

theorem takeReportOf_sweep (r : Option SlotReport) (s : State) : (takeReportOf r s).sweep = s.sweep := by
  cases r <;> rfl

theorem takeReportOf_status (r : Option SlotReport) (s : State) : (takeReportOf r s).status = s.status := by
  cases r <;> rfl

/-- R22: what the deadline of an unsent slot leaves of the sweep, where every zone is STALE. -/
theorem slotDeadline_unsent {before after : List Slot} {x : Slot} {s : State}
    (hframe : s.sweep.frame = .zones (before ++ x :: after)) (hbefore : ∀ y ∈ before, y.closed ≠ none)
    (hopen : x.closed = none) (hunsent : x.settlement = .unsent) (hstale : ∀ z ∈ s.sweep.zones, z.receiver = .stale) :
    (slotDeadline s).sweep = { s.sweep with
        frame := .zones (before ++ { x with closed := some .unsent, fetch := { x.fetch with runs := [] } } :: after) }
      ∧ (slotDeadline s).status = s.status := by
  rw [slotDeadline_first hframe hbefore hopen, closeSlot_unsent hunsent, takeReportOf_sweep, takeReportOf_status]
  refine ⟨?_, rfl⟩
  calc (recordClose before x after s).sweep
      = { s.sweep with
          frame := (recordClose before x after s).sweep.frame, zones := (recordClose before x after s).sweep.zones } := rfl
    _ = _ := by
      rw [recordClose_unsent hunsent hstale, recordClose]
      simp only [closing, hunsent]

/-- R22: what the fall of link-ready leaves of a zone frame and of the zones. -/
theorem linkFalls_zones {s : State} {slots : List Slot} (h : s.sweep.frame = .zones slots) :
    (linkFalls s).sweep = { s.sweep with
      frame := .zones (slots.map unsendSlot)
      zones := s.sweep.zones.map (fun z => { z with receiver := .stale }) } := by
  rw [linkFalls_running (by rw [h]; rfl), raise_sweep, h]
  rfl

/-- Settles O34. -/
theorem linkLossUnsendsTheFrame : Obligations.LinkLossUnsendsTheFrame := by
  refine ⟨fun s => rfl, fun s hidle => ?_, fun s slots hbypass hframe => ?_, fun s x hbypass hframe => ?_,
    fun s before after x hbypass hframe hbefore hopen => ?_⟩
  · show Host.Outcome.next (if s.bypass then _ else _) = _
    split
    · rfl
    · exact congrArg _ (linkFalls_idle (hidle.resolve_left ‹_›))
  · refine ⟨_, slots.map unsendSlot, (exec_linkReadyFalls hbypass).trans (congrArg _ (linkFalls_running (by rw [hframe]; rfl))),
      List.length_map _, fun n x y hx hy => ?_, ?_⟩
    · rw [List.getElem?_map, hx, Option.map_some, Option.some_inj] at hy
      exact ⟨fun hclosed => hy.symm.trans (unsendSlot_closed hclosed), fun hopen => hy.symm.trans (unsendSlot_open hopen)⟩
    · rw [dropSweep_eq, hframe]
      rfl
  · rw [exec_linkReadyFalls hbypass, linkFalls_running (by rw [hframe]; rfl), dropSweep_eq, hframe]
    rfl
  · have hsweep := linkFalls_zones hframe
    rw [List.map_append, List.map_cons, map_unsendSlot_closed hbefore, unsendSlot_open hopen] at hsweep
    have hstale : ∀ z ∈ (linkFalls s).sweep.zones, z.receiver = .stale := by
      rw [hsweep]
      intro z hz
      obtain ⟨y, _, rfl⟩ := List.mem_map.1 hz
      rfl
    have hbypass' : (linkFalls s).bypass = false := Eq.trans (linkFalls_within s .bypass (by decide)) hbypass
    have hcut : (linkFalls s).sweep.frame = .zones (before ++
        { x with settlement := .unsent, fetch := { x.fetch with runs := [] } } :: after.map unsendSlot) := by
      rw [hsweep]
    obtain ⟨hafter, hstatus⟩ := slotDeadline_unsent hcut hbefore hopen rfl hstale
    refine ⟨linkFalls s, _, { x with settlement := .unsent, closed := some .unsent, fetch := { x.fetch with runs := [] } }, exec_linkReadyFalls hbypass,
      congrArg Host.Outcome.next (outOfBypass_out hbypass'),
      ?_, congrArg (·.flags) hstatus, ?_, ?_, ⟨after.map unsendSlot, ?_, rfl, rfl⟩⟩
    · rw [hafter, hsweep]
    · rw [hafter]
      exact hstale
    · rw [hafter, hsweep]
      exact List.map_map.trans rfl
    · rw [hafter]

end Sys2Proof.Proofs
end

section
/-! PROOFS. A sweep boundary piece by piece: what comes before the units' work, the work in any order, and what comes
after it (R1, R11, R33, R56, logs 6, 7 and 10). -/

namespace Sys2Proof.Proofs

open Sys2Proof.Machine Sys2Proof.Safety

/-! ### The order of the work -/

theorem taskOrder_perm (order : List BoundaryTask) :
    (taskOrder order).Perm [.layout, .alert, .replay, .rotation, .message] := by
  rw [taskOrder]
  split
  · next hok =>
    obtain ⟨hlength, hall⟩ := Bool.and_eq_true_iff.1 hok
    have hmem : [BoundaryTask.layout, .alert, .replay, .rotation, .message] ⊆ order := fun k hk =>
      List.contains_iff_mem.1 (List.all_eq_true.1 hall k hk)
    have hsub := List.subperm_of_subset (by decide) hmem
    exact (hsub.perm_of_length_le (le_of_eq (eq_of_beq hlength))).symm
  · exact List.Perm.refl _

/-- Each unit's work stands once in the order. -/
theorem taskOrder_split (order : List BoundaryTask) (k : BoundaryTask) :
    ∃ before after, taskOrder order = before ++ k :: after ∧ k ∉ before ∧ k ∉ after := by
  have hperm := taskOrder_perm order
  have hmem : k ∈ taskOrder order := hperm.mem_iff.2 (by cases k <;> decide)
  obtain ⟨before, after, horder⟩ := List.append_of_mem hmem
  have hnodup : (before ++ k :: after).Nodup := horder ▸ hperm.nodup_iff.2 (by decide)
  have hnot := (List.nodup_middle.1 hnodup).notMem
  exact ⟨before, after, horder, fun h => hnot (List.mem_append_left _ h), fun h => hnot (List.mem_append_right _ h)⟩

/-! ### What comes before and after the work -/

/-- What a boundary does before the units' work (R1, logs 7 and 10). -/
def boundaryOpened (s : State) : State := nextNumber (closeFrame (captureIfDue s))

/-- The units' work in an order. -/
def runTasks (order : List BoundaryTask) (s : State) : State := order.foldl (fun s t => runTask t s) s

/-- What a boundary does after the units' work: the flips, a record put on air, the rate, the frame and the capture. -/
def boundaryEnded (hold : Bool) (s : State) : State :=
  boundaryCapture hold (startFrame (setRate (startOnAir (exchangeFlips s))))

theorem sweepBoundary_eq (order : List BoundaryTask) (hold : Bool) (s : State) :
    sweepBoundary order hold s = boundaryEnded hold (runTasks (taskOrder order) (boundaryOpened s)) := rfl

abbrev openedParts : List Part := [.image, .lines, .captureDue, .number] ++ closeParts

theorem boundaryOpened_within (s : State) : Within openedParts s (boundaryOpened s) :=
  (((captureIfDue_within s).mono (by decide)).andThen (closeFrame_within _) (by decide)).andThen (nextNumber_within _)
    (by decide)

abbrev endedParts : List Part := [.houses, .onAir, .rate, .image, .lines, .captureDue] ++ frameParts

theorem boundaryEnded_within (hold : Bool) (s : State) : Within endedParts s (boundaryEnded hold s) :=
  (((((exchangeFlips_within s).mono (by decide)).andThen (startOnAir_within _) (by decide)).andThen (setRate_within _)
    (by decide)).andThen (startFrame_within _) (by decide)).andThen (boundaryCapture_within hold _) (by decide)

theorem runTasks_append (before after : List BoundaryTask) (s : State) :
    runTasks (before ++ after) s = runTasks after (runTasks before s) := List.foldl_append

theorem exec_sweepBoundary {s : State} (h : s.bypass = false) (order : List BoundaryTask) (hold : Bool) :
    exec (.sweepBoundary order hold) s = .next (sweepBoundary order hold s) :=
  congrArg Host.Outcome.next (outOfBypass_out h)

/-! ### With nothing to apply and no alert -/

/-- No alert stands and no layout is to be applied. -/
def Calm (s : State) : Prop := s.alert.state = .quiet ∧ ∀ x, s.sweep.load = some x → x.pending = none

/-- No layout is to be applied. -/
theorem applyLayout_idle {s : State} (h : ∀ x, s.sweep.load = some x → x.pending = none) : applyLayout s = s := by
  rw [applyLayout]
  split
  · next hload => exact nomatch h _ hload
  · rfl

theorem alertWork_quiet {s : State} (h : s.alert.state = .quiet) : alertWork s = s := by
  rw [alertWork, h]

/-- What a unit's work can change where no alert stands and no layout is to be applied. -/
def calmParts : BoundaryTask → List Part
  | .layout => []
  | .alert => []
  | t => taskParts t

theorem runTask_calm {s : State} (h : Calm s) (t : BoundaryTask) : Within (calmParts t) s (runTask t s) := by
  obtain ⟨hquiet, hload⟩ := h
  cases t with
  | layout =>
    rw [runTask, applyLayout_idle hload]
    exact .refl _ s
  | alert =>
    rw [runTask, alertWork_quiet hquiet]
    exact .refl _ s
  | replay => exact runTask_within .replay s
  | rotation => exact runTask_within .rotation s
  | message => exact runTask_within .message s

theorem Calm.kept {s t : State} (h : Calm s) {ps : List Part} (hst : Within ps s t) (hstate : .alertState ∉ ps)
    (hload : .load ∉ ps) : Calm t :=
  ⟨(show t.alert.state = s.alert.state from hst .alertState hstate).trans h.1,
    (show t.sweep.load = s.sweep.load from hst .load hload).symm ▸ h.2⟩

theorem runTasks_calm {ps : List Part} (hstate : .alertState ∉ ps) (hload : .load ∉ ps) (order : List BoundaryTask)
    {s : State} (h : Calm s) (sub : ∀ t ∈ order, ∀ p ∈ calmParts t, p ∈ ps) : Within ps s (runTasks order s) := by
  induction order generalizing s with
  | nil => exact .refl _ s
  | cons t order ih =>
    have hfirst := (runTask_calm h t).mono (sub t List.mem_cons_self)
    exact hfirst.trans (ih (h.kept hfirst hstate hload) fun u hu => sub u (List.mem_cons_of_mem t hu))

/-- R1: one unit's work at a boundary without an alert or a layout, between the work of the units that come before it
and of those that come after it. -/
theorem sweepBoundary_calm {ps : List Part} {s : State} (h : Calm s) (k : BoundaryTask)
    (sub : ∀ t, t ≠ k → ∀ p ∈ calmParts t, p ∈ ps) (hopened : ∀ p ∈ openedParts, p ∈ ps) (hstate : .alertState ∉ ps)
    (hload : .load ∉ ps) (order : List BoundaryTask) (hold : Bool) :
    ∃ u v, Within ps s u ∧ Within ps (runTask k u) v ∧ sweepBoundary order hold s = boundaryEnded hold v := by
  obtain ⟨before, after, horder, hbefore, hafter⟩ := taskOrder_split order k
  have hfirst := (boundaryOpened_within s).mono hopened
  have hcalm := h.kept hfirst hstate hload
  have hpre := runTasks_calm hstate hload before hcalm fun t ht => sub t fun heq => hbefore (heq ▸ ht)
  have hcalm' := hcalm.kept hpre hstate hload
  have hmid : Calm (runTask k (runTasks before (boundaryOpened s))) :=
    hcalm'.kept (runTask_calm hcalm' k) (by cases k <;> decide) (by cases k <;> decide)
  have hpost := runTasks_calm hstate hload after hmid fun t ht => sub t fun heq => hafter (heq ▸ ht)
  refine ⟨_, _, hfirst.trans hpre, hpost, ?_⟩
  rw [sweepBoundary_eq, horder, runTasks_append]
  rfl

/-! ### The number, the rate, the flips and the capture -/

theorem statusImage_capture (s : State) : statusImage (capture s) = statusImage s := rfl

theorem exchangeHouse_eq (h : House) :
    exchangeHouse h = if h.flip = .flipPending then
      { h with flip := .steady, onAir := match h.onAir with | .a => .b | .b => .a } else h := by
  rw [exchangeHouse]
  cases hflip : h.flip with
  | steady => rw [if_neg FlipState.noConfusion]
  | flipPending => cases h.onAir <;> rfl

theorem exchangeHouse_flip (h : House) : (exchangeHouse h).flip = .steady := by
  rw [exchangeHouse]
  cases hflip : h.flip <;> simp only [hflip]

/-- What a boundary leaves but for the capture. -/
def boundaryLeft (order : List BoundaryTask) (s : State) : State :=
  startFrame (setRate (boundaryWork order (closeFrame s)))

theorem sweepBoundary_captured {s : State} (h : s.status.captureDue = false) (order : List BoundaryTask) (hold : Bool) :
    sweepBoundary order hold s = boundaryCapture hold (boundaryLeft order s) := by
  rw [sweepBoundary, captureIfDue, h]
  rfl

/-- What a unit's work can change where no layout is to be applied. -/
def unloadedParts : BoundaryTask → List Part
  | .layout => []
  | t => taskParts t

theorem runTask_unloaded {s : State} (h : ∀ x, s.sweep.load = some x → x.pending = none) (t : BoundaryTask) :
    Within (unloadedParts t) s (runTask t s) := by
  cases t with
  | layout =>
    rw [runTask, applyLayout_idle h]
    exact .refl _ s
  | alert => exact runTask_within .alert s
  | replay => exact runTask_within .replay s
  | rotation => exact runTask_within .rotation s
  | message => exact runTask_within .message s

theorem runTasks_unloaded {ps : List Part} (hload : .load ∉ ps) (sub : ∀ t, ∀ p ∈ unloadedParts t, p ∈ ps)
    (order : List BoundaryTask) {s : State} (h : ∀ x, s.sweep.load = some x → x.pending = none) :
    Within ps s (runTasks order s) := by
  induction order generalizing s with
  | nil => exact .refl _ s
  | cons t order ih =>
    have hfirst := (runTask_unloaded h t).mono (sub t)
    exact hfirst.trans (ih ((show (runTask t s).sweep.load = s.sweep.load from hfirst .load hload).symm ▸ h))

/-- R33: without a new layout a boundary's work exchanges the flips that are pending, and changes no HOUSE zone otherwise. -/
theorem boundaryWork_houses (order : List BoundaryTask) {s : State} (h : ∀ x, s.sweep.load = some x → x.pending = none) :
    (boundaryWork order s).path.houses = s.path.houses.map exchangeHouse := by
  have hworked := runTasks_unloaded (ps := [.alertState, .effective, .flag .alertOnAir, .flag .alertCleared]
    ++ replayParts ++ rotationParts ++ airParts) (by decide) (fun t => by cases t <;> decide) (taskOrder order)
    (s := nextNumber s) h
  have hstart := startOnAir_within (exchangeFlips (runTasks (taskOrder order) (nextNumber s)))
  calc (boundaryWork order s).path.houses
      = (exchangeFlips (runTasks (taskOrder order) (nextNumber s))).path.houses := hstart .houses (by decide)
    _ = (runTasks (taskOrder order) (nextNumber s)).path.houses.map exchangeHouse := rfl
    _ = s.path.houses.map exchangeHouse := congrArg _ (hworked .houses (by decide))

theorem boundaryWork_steady (order : List BoundaryTask) (s : State) :
    ∀ h ∈ (boundaryWork order s).path.houses, h.flip = .steady := by
  have hstart := startOnAir_within (exchangeFlips (runTasks (taskOrder order) (nextNumber s)))
  rw [show (boundaryWork order s).path.houses
    = (runTasks (taskOrder order) (nextNumber s)).path.houses.map exchangeHouse from hstart .houses (by decide)]
  intro h hmem
  obtain ⟨x, _, rfl⟩ := List.mem_map.1 hmem
  exact exchangeHouse_flip x

/-- What a boundary can change but for the capture. -/
theorem boundaryLeft_within (order : List BoundaryTask) (s : State) :
    Within ([.number, .rate] ++ workParts ++ closeParts ++ frameParts) s (boundaryLeft order s) :=
  ((((closeFrame_within s).mono (by decide)).andThen (boundaryWork_within order _) (by decide)).andThen
    (setRate_within _) (by decide)).andThen (startFrame_within _) (by decide)

theorem boundaryLeft_number (order : List BoundaryTask) (s : State) :
    (boundaryLeft order s).sweep.number = s.sweep.number + 1 := by
  have hworked := tasks_within (ps := workParts) (taskOrder order) (nextNumber (closeFrame s))
    fun t _ => taskParts_subset_workParts t
  have hended : Within ([.houses, .onAir, .rate] ++ frameParts)
      (runTasks (taskOrder order) (nextNumber (closeFrame s))) (boundaryLeft order s) :=
    ((((exchangeFlips_within _).mono (by decide)).andThen (startOnAir_within _) (by decide)).andThen (setRate_within _)
      (by decide)).andThen (startFrame_within _) (by decide)
  calc (boundaryLeft order s).sweep.number
      = (runTasks (taskOrder order) (nextNumber (closeFrame s))).sweep.number := hended .number (by decide)
    _ = (closeFrame s).sweep.number + 1 := hworked .number (by decide)
    _ = s.sweep.number + 1 := congrArg (· + 1) (closeFrame_within s .number (by decide))

theorem boundaryLeft_rate (order : List BoundaryTask) (s : State) :
    (boundaryLeft order s).sweep.rate
      = match (boundaryLeft order s).sweep.header with | some h => h.rate | none => 60 := by
  have hframe := startFrame_within (setRate (boundaryWork order (closeFrame s)))
  calc (boundaryLeft order s).sweep.rate
      = (setRate (boundaryWork order (closeFrame s))).sweep.rate := hframe .rate (by decide)
    _ = match (setRate (boundaryWork order (closeFrame s))).sweep.header with | some h => h.rate | none => 60 := rfl
    _ = _ := by rw [show (boundaryLeft order s).sweep.header
          = (setRate (boundaryWork order (closeFrame s))).sweep.header from hframe .header (by decide)]

theorem boundaryLeft_houses (order : List BoundaryTask) (s : State) :
    (boundaryLeft order s).path.houses = (boundaryWork order (closeFrame s)).path.houses :=
  startFrame_within (setRate (boundaryWork order (closeFrame s))) .houses (by decide)

/-- Settles O30. -/
theorem boundaryNumbersAndCaptures : Obligations.BoundaryNumbersAndCaptures := by
  intro s order hbypass hdue
  have hleft := boundaryLeft_within order s
  refine ⟨capture (boundaryLeft order s), ?_, boundaryLeft_number order s, boundaryLeft_rate order s, ?_, fun hload => ?_,
    ?_, ?_, ?_⟩
  · rw [exec_sweepBoundary hbypass, sweepBoundary_captured hdue]
    rfl
  · show ∀ h ∈ (boundaryLeft order s).path.houses, h.flip = .steady
    rw [boundaryLeft_houses]
    exact boundaryWork_steady order _
  · have hclose := closeFrame_within s
    show (boundaryLeft order s).path.houses = _
    rw [boundaryLeft_houses, boundaryWork_houses order
      ((show (closeFrame s).sweep.load = s.sweep.load from hclose .load (by decide)).symm ▸ hload),
      show (closeFrame s).path.houses = s.path.houses from hclose .houses (by decide)]
    exact List.map_congr_left fun h _ => (exchangeHouse_eq h).trans rfl
  · have hlines : (boundaryLeft order s).status.lines = s.status.lines := hleft .lines (by decide)
    rw [statusImage_capture, ← hlines]
    rfl
  · have hwhole : Within ([.image, .lines, .captureDue, .number, .rate] ++ workParts ++ closeParts ++ frameParts) s
        (capture (boundaryLeft order s)) := (hleft.mono (by decide)).andThen (boundaryCapture_within false _) (by decide)
    refine hwhole.eq_merge.trans (congrArg (fun t => { s with
      path := { s.path with watch := t.path.watch, houses := t.path.houses }
      port := t.port, decoder := t.decoder, status := t.status, sweep := t.sweep, receivers := t.receivers
      figures := t.figures, replay := t.replay, rotation := t.rotation, exposure := t.exposure
      messages := t.messages, alert := t.alert, brightness := t.brightness }) hwhole.eq_merge).symm
  · rw [exec_sweepBoundary hbypass, sweepBoundary_captured hdue]
    have himage : (boundaryLeft order s).status.image = s.status.image := hleft .image (by decide)
    have hlines : (boundaryLeft order s).status.lines = s.status.lines := hleft .lines (by decide)
    rw [← himage, ← hlines]
    rfl

/-! ### Content epochs through a boundary -/

theorem length_of_map_eq {α β : Type} {f : α → β} {l l' : List α} (h : l'.map f = l.map f) : l'.length = l.length := by
  simpa only [List.length_map] using congrArg List.length h

/-- The zones of a list have their epochs changed as `f` says, and keep their records. -/
def EpochsMoved (f : ZoneRec → Word → Word) (before after : List Zone) : Prop :=
  after.length = before.length ∧ ∀ (n : Nat) (z u : Zone), before[n]? = some z → after[n]? = some u →
    u.cfg = z.cfg ∧ u.epoch = f z.cfg z.epoch

theorem epochsMoved_refl (zones : List Zone) : EpochsMoved (fun _ e => e) zones zones :=
  ⟨rfl, fun _ z u hz hu => by cases hz.symm.trans hu; exact ⟨rfl, rfl⟩⟩

/-- R9: one bump of the zones that `p` picks. -/
def bumpedEpoch (p : ZoneRec → Bool) (c : ZoneRec) (e : Word) : Word := if c.enabled && p c then e + 1 else e

theorem bumpedEpoch_disabled {p : ZoneRec → Bool} {c : ZoneRec} (h : c.enabled = false) (e : Word) :
    bumpedEpoch p c e = e := by
  rw [bumpedEpoch, h]
  rfl

theorem bumpedEpoch_picked {p : ZoneRec → Bool} {c : ZoneRec} (h : c.enabled = true) (hp : p c = true) (e : Word) :
    bumpedEpoch p c e = e + 1 := by
  rw [bumpedEpoch, h, hp]
  rfl

theorem EpochsMoved.bumped {f : ZoneRec → Word → Word} {before after : List Zone} (h : EpochsMoved f before after)
    (p : ZoneRec → Bool) : EpochsMoved (fun c e => bumpedEpoch p c (f c e)) before (after.map (bumpZone p)) := by
  obtain ⟨hlength, hmoved⟩ := h
  refine ⟨(List.length_map _).trans hlength, fun n z u hz hu => ?_⟩
  rw [List.getElem?_map] at hu
  obtain ⟨y, hy, rfl⟩ := Option.map_eq_some_iff.1 hu
  obtain ⟨hcfg, hepoch⟩ := hmoved n z y hz hy
  simp only [bumpZone, bumpedEpoch, ← hcfg]
  split
  · exact ⟨rfl, by rw [hepoch, hcfg]⟩
  · exact ⟨rfl, by rw [hepoch, hcfg]⟩

/-- A footprint without a kind of zone keeps the records and the epochs of that kind. -/
theorem Within.epoch_eq {ps : List Part} {s t : State} (h : Within ps s t) {n : Nat} {z u : Zone} {k : ZoneKind}
    (hz : s.sweep.zones[n]? = some z) (hu : t.sweep.zones[n]? = some u) (hkind : roleKind z.cfg.role = k)
    (hcfgs : .cfgs ∉ ps) (hepochs : .epochs k ∉ ps) : u.cfg = z.cfg ∧ u.epoch = z.epoch := by
  have hcfg := congrArg (·[n]?) (h _ hcfgs)
  have hepoch := congrArg (·[n]?) (h _ hepochs)
  simp only [List.getElem?_map, hz, hu, Option.map_some, Option.some.injEq] at hcfg hepoch
  rw [epochOf, epochOf, hcfg, hkind, if_pos rfl, if_pos rfl, Option.some.injEq] at hepoch
  exact ⟨hcfg, hepoch⟩

/-- What some work does to the epochs of a kind of zone is what the whole does, where nothing before or after it
changes them. -/
theorem epochsMoved_between {ps qs : List Part} {s u w t : State} {f : ZoneRec → Word → Word} {k : ZoneKind}
    (hbefore : Within ps s u) (hmoved : EpochsMoved f u.sweep.zones w.sweep.zones) (hafter : Within qs w t)
    (hparts : .cfgs ∉ ps ∧ .epochs k ∉ ps ∧ .cfgs ∉ qs ∧ .epochs k ∉ qs) :
    t.sweep.zones.length = s.sweep.zones.length ∧
      ∀ (n : Nat) (z x : Zone), s.sweep.zones[n]? = some z → t.sweep.zones[n]? = some x → roleKind z.cfg.role = k →
        x.epoch = f z.cfg z.epoch := by
  obtain ⟨hcfgs, hepochs, hcfgs', hepochs'⟩ := hparts
  have hfirst : u.sweep.zones.length = s.sweep.zones.length := length_of_map_eq (hbefore .cfgs hcfgs)
  have hlast : t.sweep.zones.length = w.sweep.zones.length := length_of_map_eq (hafter .cfgs hcfgs')
  refine ⟨hlast.trans (hmoved.1.trans hfirst), fun n z x hz hx hkind => ?_⟩
  have hin := (List.getElem?_eq_some_iff.1 hz).1
  have hu := List.getElem?_eq_getElem (l := u.sweep.zones) (hfirst ▸ hin)
  have hw := List.getElem?_eq_getElem (l := w.sweep.zones) (hmoved.1 ▸ hfirst ▸ hin)
  obtain ⟨hcfg, hepoch⟩ := hbefore.epoch_eq hz hu hkind hcfgs hepochs
  obtain ⟨hcfg', hepoch'⟩ := hmoved.2 n _ _ hu hw
  rw [(hafter.epoch_eq hw hx (k := k) (by rw [hcfg', hcfg]; exact hkind) hcfgs' hepochs').2, hepoch', hcfg, hepoch]

theorem messageZone_eq (s : State) : messageZone s = (s.sweep.zones.map (·.cfg)).find? isMessage := by
  rw [messageZone, List.find?_map]
  rfl

end Sys2Proof.Proofs
end

section
/-! PROOFS. The on-air message at a boundary (R159, R160, log 21). -/

namespace Sys2Proof.Proofs

open Sys2Proof.Machine Sys2Proof.Safety

/-! ### The start and the end of a showing -/

/-- R160: a record that has not started starts. -/
def startedOnAir (o : OnAir) : OnAir :=
  match o.showing with
  | .notStarted => { o with showing := startShowing o.msg }
  | _ => o

theorem startOnAir_messages (s : State) :
    (startOnAir s).messages = { s.messages with onAir := s.messages.onAir.map startedOnAir } := by
  rw [startOnAir]
  split
  · next hair => rw [hair]; rfl
  · next hair =>
    cases honAir : s.messages.onAir with
    | none => exact congrArg (fun x => { s.messages with onAir := x }) honAir
    | some o =>
      obtain ⟨msg, showing⟩ := o
      cases showing with
      | notStarted => exact (hair msg honAir).elim
      | still _ => exact congrArg (fun x => { s.messages with onAir := x }) honAir
      | crawl _ => exact congrArg (fun x => { s.messages with onAir := x }) honAir

theorem startedOnAir_started (m : Message) :
    startedOnAir { msg := m, showing := startShowing m } = { msg := m, showing := startShowing m } := by
  rw [startShowing]
  cases m.mode <;> rfl

/-- R160: the queue that a record leaves behind as its showing ends: a repeat is spent, or the record is discarded. -/
def queueLeft (m : Message) (q : List Message) : List Message :=
  if m.remaining ≤ 1 then q else insertTail { m with remaining := m.remaining - 1 } q

theorem queueLeft_last {m : Message} (h : m.remaining ≤ 1) (q : List Message) : queueLeft m q = q := if_pos h

theorem queueLeft_repeat {m : Message} (h : 1 < m.remaining) (q : List Message) :
    queueLeft m q = insertTail { m with remaining := m.remaining - 1 } q := if_neg (Nat.not_le.2 h)

theorem endShowing_leaves {m : Message} {s : State} {zone : Option ZoneRec} {queue : List Message}
    (hzone : boundaryZone s = zone) (hqueue : queueLeft m s.messages.queue = queue)
    (hroom : 1 < m.remaining → queue.length ≤ 16) :
    endShowing m s = airChanged (putOnAirIn zone { s with messages := { s.messages with onAir := none, queue := queue } }) := by
  have hleft : (if m.remaining ≤ 1 then { s with messages.onAir := none }
      else joinQueue (insertTail { m with remaining := m.remaining - 1 } s.messages.queue) { s with messages.onAir := none })
      = { s with messages := { s.messages with onAir := none, queue := queue } } := by
    split
    · next hlast => rw [← hqueue, queueLeft_last hlast]
    · next hlast =>
      rw [queueLeft_repeat (Nat.not_le.1 hlast)] at hqueue
      rw [hqueue, joinQueue_fits (hroom (Nat.not_le.1 hlast))]
  rw [endShowing]
  dsimp only
  rw [hleft, settleAirIn_left]
  exact congrArg (fun zone => airChanged (putOnAirIn zone _)) hzone

theorem airChanged_messages (s : State) : (airChanged s).messages = s.messages := rfl

theorem airChanged_zones (s : State) : (airChanged s).sweep.zones = s.sweep.zones.map (bumpZone isMessage) := rfl

theorem endShowing_zones (m : Message) (s : State) :
    (endShowing m s).sweep.zones = s.sweep.zones.map (bumpZone isMessage) := by
  have hput (zone : Option ZoneRec) (u : State) : (putOnAirIn zone u).sweep.zones = u.sweep.zones :=
    (putOnAirIn_within zone u).zones_eq rfl
  rw [endShowing]
  dsimp only
  rw [settleAirIn_left, airChanged_zones, hput]
  split
  · rfl
  · rw [(joinQueue_within _ _).zones_eq rfl]

/-- R159, R160: the rows of a showing's end, from the queue before to the queue after, with the next record started. -/
def ShowingEnded (m : Message) (z : ZoneRec) (before after : MessageQueue) : Prop :=
  let begun (x : Message) : Option OnAir := some { msg := x, showing := startShowing x }
  (m.remaining ≤ 1 → before.queue = [] → after = { before with onAir := none })
    ∧ (∀ x rest, m.remaining ≤ 1 → before.queue = x :: rest → x.height = z.h →
        after = { before with queue := rest, onAir := begun x })
    ∧ (1 < m.remaining → before.queue = [] → after = { before with onAir := begun { m with remaining := m.remaining - 1 } })
    ∧ ∀ x, 1 < m.remaining → before.queue = [x] → x.height = z.h → m.priority ≤ x.priority →
        after = { before with queue := [{ m with remaining := m.remaining - 1 }], onAir := begun x }

section
variable {m : Message} {s : State} {z : ZoneRec}

/-- The head that goes on air at the end of a showing starts. -/
theorem endShowing_head {x : Message} {rest : List Message} (hzone : boundaryZone s = some z)
    (halert : s.alert.state ≠ .onAir) (hqueue : queueLeft m s.messages.queue = x :: rest)
    (hroom : 1 < m.remaining → (x :: rest).length ≤ 16) (hheight : x.height = z.h) :
    (startOnAir (endShowing m s)).messages
      = { s.messages with queue := rest, onAir := some { msg := x, showing := startShowing x } } := by
  rw [startOnAir_messages, endShowing_leaves hzone hqueue hroom, airChanged_messages,
    putOnAirIn_head (s := { s with messages := { s.messages with onAir := none, queue := x :: rest } }) rfl halert rfl hheight]
  rfl

theorem endShowing_ended (hzone : boundaryZone s = some z) (halert : s.alert.state ≠ .onAir) (hheight : m.height = z.h) :
    ShowingEnded m z s.messages (startOnAir (endShowing m s)).messages := by
  refine ⟨fun hlast hqueue => ?_, fun x rest hlast hqueue hx => ?_, fun hmore hqueue => ?_,
    fun x hmore hqueue hx hpriority => ?_⟩
  · rw [startOnAir_messages, endShowing_leaves hzone ((queueLeft_last hlast _).trans hqueue)
      fun hmore => (Nat.not_le.2 hmore hlast).elim, airChanged_messages,
      putOnAirIn_empty (s := { s with messages := { s.messages with onAir := none, queue := [] } }) rfl, ← hqueue]
    rfl
  · exact endShowing_head hzone halert ((queueLeft_last hlast _).trans hqueue)
      (fun hmore => (Nat.not_le.2 hmore hlast).elim) hx
  · have hleft : queueLeft m s.messages.queue = [{ m with remaining := m.remaining - 1 }] := by
      rw [queueLeft_repeat hmore, hqueue]
      rfl
    rw [endShowing_head hzone halert hleft (fun _ => Nat.le_add_left 1 15) hheight, ← hqueue]
  · have hleft : queueLeft m s.messages.queue = [x, { m with remaining := m.remaining - 1 }] := by
      rw [queueLeft_repeat hmore, hqueue]
      exact if_pos hpriority
    exact endShowing_head hzone halert hleft (fun _ => Nat.le_add_left 2 14) hx

end

/-! ### One boundary of a record -/

theorem boundaryZone_unloaded {s : State} (h : ∀ x, s.sweep.load = some x → x.pending = none) :
    boundaryZone s = messageZone s := by
  rw [boundaryZone]
  split
  · next hload => exact nomatch h _ hload
  · rfl

theorem messageZone_bumped (p : ZoneRec → Bool) (s : State) : messageZone (bumpZones p s) = messageZone s := by
  rw [messageZone_eq, messageZone_eq, bumpZones_zones, List.map_map]
  refine congrArg (List.find? isMessage) (List.map_congr_left fun z _ => ?_)
  show (bumpZone p z).cfg = z.cfg
  rw [bumpZone]
  split <;> rfl

section
variable {m : Message} {s : State} {z : ZoneRec}

theorem boundaryZone_crawled (hload : ∀ x, s.sweep.load = some x → x.pending = none) (o : OnAir) (offset : Nat) :
    boundaryZone (crawled o offset s) = messageZone s :=
  (boundaryZone_unloaded (s := crawled o offset s) hload).trans (messageZone_bumped _ _)

theorem messageWork_starts (h : s.messages.onAir = some { msg := m, showing := .notStarted }) :
    messageWork s = startOnAir s := by
  rw [messageWork, h]
  rfl

theorem messageWork_counts {n : Nat} (h : s.messages.onAir = some { msg := m, showing := .still n }) (hn : 1 < n) :
    messageWork s = { s with messages := { s.messages with onAir := some { msg := m, showing := .still (n - 1) } } } := by
  rw [messageWork, h]
  exact if_neg (Nat.not_le.2 hn)

theorem messageWork_still_ends {n : Nat} (h : s.messages.onAir = some { msg := m, showing := .still n }) (hn : n ≤ 1) :
    messageWork s = endShowing m s := by
  rw [messageWork, h]
  exact if_pos hn

theorem messageWork_crawl {offset : Nat} (h : s.messages.onAir = some { msg := m, showing := .crawl offset })
    (hload : ∀ x, s.sweep.load = some x → x.pending = none) (hzone : messageZone s = some z) :
    messageWork s = if m.width + z.w ≤ offset + crawlSpeed m
      then endShowing m (crawled { msg := m, showing := .crawl offset } offset s)
      else crawled { msg := m, showing := .crawl offset } offset s := by
  have hwidth : messageWidth (crawled { msg := m, showing := .crawl offset } offset s) = z.w := by
    rw [messageWidth, boundaryZone_crawled hload, hzone]
    rfl
  rw [messageWork, h]
  dsimp only
  rw [stepShowing_crawl rfl, hwidth]

end

/-! ### The boundary -/

/-- The parts that come before and after the Message Queue's work at a boundary. -/
abbrev aroundMessages : List Part := openedParts ++ replayParts ++ rotationParts

theorem boundaryEnded_messages (hold : Bool) (s : State) : (boundaryEnded hold s).messages = (startOnAir s).messages := by
  have hended : Within ([.rate, .image, .lines, .captureDue] ++ frameParts) (startOnAir (exchangeFlips s))
      (boundaryEnded hold s) :=
    (((setRate_within _).mono (by decide)).andThen (startFrame_within _) (by decide)).andThen
      (boundaryCapture_within hold _) (by decide)
  calc (boundaryEnded hold s).messages
      = (startOnAir (exchangeFlips s)).messages := (congrArg State.messages hended.eq_merge).trans rfl
    _ = (startOnAir s).messages := by rw [startOnAir_messages, startOnAir_messages]; rfl

/-- Settles O50. -/
theorem messagesShowAtTheBoundary : Obligations.MessagesShowAtTheBoundary := by
  intro s order hold m w z hbypass hquiet hload hair hzone hheight begun speed ends
  obtain ⟨u, v, hu, hv, hrun⟩ := sweepBoundary_calm (ps := aroundMessages) ⟨hquiet, hload⟩ .message
    (fun t => by cases t <;> decide) (by decide) (by decide) (by decide) order hold
  have hmessages : u.messages = s.messages := (congrArg State.messages hu.eq_merge).trans rfl
  have hair' : u.messages.onAir = some { msg := m, showing := w } := hmessages ▸ hair
  have hload' : ∀ x, u.sweep.load = some x → x.pending = none :=
    (show u.sweep.load = s.sweep.load from hu .load (by decide)).symm ▸ hload
  have hquiet' : u.alert.state = .quiet := Eq.trans (hu .alertState (by decide)) hquiet
  have hzone' : messageZone u = some z := by
    rw [← hzone, messageZone_eq, messageZone_eq]
    exact congrArg _ (hu .cfgs (by decide))
  have hepochs {f : ZoneRec → Word → Word} (h : EpochsMoved f u.sweep.zones (messageWork u).sweep.zones) :=
    epochsMoved_between (k := .message) hu h ((hv.mono (qs := aroundMessages ++ endedParts)
      (by decide)).andThen (boundaryEnded_within hold v) (by decide)) (by decide)
  refine ⟨boundaryEnded hold v, ?_⟩
  rw [exec_sweepBoundary hbypass, hrun]
  have hrow : (boundaryEnded hold v).messages = (startOnAir (messageWork u)).messages := by
    have hkept : v.messages = (messageWork u).messages := (congrArg State.messages hv.eq_merge).trans rfl
    rw [boundaryEnded_messages, startOnAir_messages, startOnAir_messages, hkept]
  have halert : u.alert.state ≠ .onAir := by rw [hquiet']; exact AlertState.noConfusion
  have hended {u' : State} (hbound : boundaryZone u' = some z) (halert' : u'.alert.state ≠ .onAir) {x : Option OnAir}
      (hafter : u'.messages = { s.messages with onAir := x }) :
      ShowingEnded m z { s.messages with onAir := x } (startOnAir (endShowing m u')).messages :=
    hafter ▸ endShowing_ended hbound halert' hheight
  cases w with
  | notStarted =>
    have hwork := messageWork_starts hair'
    obtain ⟨hlength, hepoch⟩ := hepochs (f := fun _ e => e) (by
      rw [hwork, (startOnAir_within u).zones_eq rfl]
      exact epochsMoved_refl _)
    refine ⟨rfl, fun _ => ?_, nofun, nofun, fun h => h.elim, fun _ _ h => h.elim, fun h => h.elim, fun _ h => h.elim, hlength,
      fun k y x hy hx hrole => ?_⟩
    · rw [hrow, hwork, startOnAir_messages, startOnAir_messages, hair', hmessages]
      exact congrArg (fun o => { s.messages with onAir := some o }) (startedOnAir_started m)
    · have hsame := hepoch k y x hy hx (by rw [hrole]; rfl)
      exact ⟨fun _ => hsame, fun _ _ => hsame, fun _ h => h.elim⟩
  | still n =>
    by_cases hn : n ≤ 1
    · have hwork := messageWork_still_ends hair' hn
      obtain ⟨hlength, hepoch⟩ := hepochs (f := bumpedEpoch isMessage) (by
        rw [hwork, endShowing_zones]
        exact (epochsMoved_refl _).bumped isMessage)
      obtain ⟨hgone, hnext, hagain, hbehind⟩ := hended ((boundaryZone_unloaded hload').trans hzone') halert
        (x := s.messages.onAir) hmessages
      rw [hrow, hwork]
      refine ⟨rfl, nofun, fun k hk hmore => ?_, nofun, fun _ => hgone, fun x rest _ => hnext x rest, fun _ => hagain,
        fun x _ => hbehind x, hlength, fun k y x hy hx hrole => ?_⟩
      · cases hk
        exact (Nat.not_le.2 hmore hn).elim
      · have hbumped := hepoch k y x hy hx (by rw [hrole]; rfl)
        exact ⟨fun hoff => hbumped.trans (bumpedEpoch_disabled hoff _), fun _ hnot => (hnot hn).elim,
          fun hon _ => hbumped.trans (bumpedEpoch_picked hon ((isMessage_iff _).2 hrole) _)⟩
    · have hwork := messageWork_counts hair' (Nat.not_le.1 hn)
      obtain ⟨hlength, hepoch⟩ := hepochs (f := fun _ e => e) (by
        rw [hwork]
        exact epochsMoved_refl _)
      refine ⟨rfl, nofun, fun k hk _ => ?_, nofun, fun h => (hn h).elim, fun _ _ h => (hn h).elim, fun h => (hn h).elim,
        fun _ h => (hn h).elim, hlength, fun k y x hy hx hrole => ?_⟩
      · cases hk
        rw [hrow, hwork, startOnAir_messages, hmessages]
        rfl
      · have hsame := hepoch k y x hy hx (by rw [hrole]; rfl)
        exact ⟨fun _ => hsame, fun _ _ => hsame, fun _ h => (hn h).elim⟩
  | crawl o =>
    have hwork := messageWork_crawl hair' hload' hzone'
    by_cases hn : m.width + z.w ≤ o + crawlSpeed m
    · rw [if_pos hn] at hwork
      obtain ⟨hlength, hepoch⟩ := hepochs (f := fun c e => bumpedEpoch isMessage c (bumpedEpoch isMessage c e)) (by
        rw [hwork, endShowing_zones]
        exact ((epochsMoved_refl _).bumped isMessage).bumped isMessage)
      obtain ⟨hgone, hnext, hagain, hbehind⟩ := hended (u' := crawled { msg := m, showing := .crawl o } o u)
        ((boundaryZone_crawled hload' _ _).trans hzone') halert
        (congrArg (fun q => { q with onAir := some { msg := m, showing := .crawl (o + crawlSpeed m) } }) hmessages)
      rw [hrow, hwork]
      refine ⟨rfl, nofun, nofun, fun k hk hless => ?_, fun _ => hgone, fun x rest _ => hnext x rest, fun _ => hagain,
        fun x _ => hbehind x, hlength, fun k y x hy hx hrole => ?_⟩
      · cases hk
        exact (Nat.not_le.2 hless hn).elim
      · have hbumped := hepoch k y x hy hx (by rw [hrole]; rfl)
        have hpicked := (isMessage_iff _).2 hrole
        exact ⟨fun hoff => hbumped.trans (by rw [bumpedEpoch_disabled hoff, bumpedEpoch_disabled hoff]),
          fun _ hnot => (hnot hn).elim,
          fun hon _ => hbumped.trans (by rw [bumpedEpoch_picked hon hpicked, bumpedEpoch_picked hon hpicked])⟩
    · rw [if_neg hn] at hwork
      obtain ⟨hlength, hepoch⟩ := hepochs (f := bumpedEpoch isMessage) (by
        rw [hwork]
        exact (epochsMoved_refl _).bumped isMessage)
      refine ⟨rfl, nofun, nofun, fun k hk _ => ?_, fun h => (hn h).elim, fun _ _ h => (hn h).elim, fun h => (hn h).elim,
        fun _ h => (hn h).elim, hlength, fun k y x hy hx hrole => ?_⟩
      · cases hk
        rw [hrow, hwork, startOnAir_messages]
        exact congrArg (fun q => { q with onAir := some { msg := m, showing := .crawl (o + crawlSpeed m) } }) hmessages
      · have hbumped := hepoch k y x hy hx (by rw [hrole]; rfl)
        exact ⟨fun hoff => hbumped.trans (bumpedEpoch_disabled hoff _),
          fun hon _ => hbumped.trans (bumpedEpoch_picked hon ((isMessage_iff _).2 hrole) _), fun _ h => (hn h).elim⟩

end Sys2Proof.Proofs
end

section
/-! PROOFS. The clip at a boundary (R107, R111 to R113, R117). -/

namespace Sys2Proof.Proofs

open Sys2Proof.Machine Sys2Proof.Safety

/-! ### The cadence step -/

section
variable {c : Clip}

theorem stepPlaying_playing (h : c.state = .playing) : stepPlaying c = cadence c := if_pos h

theorem readyClip_eq (s : State) (c : Clip) : readyClip (clockPhase s) c =
    { c with
      rate := c.pendingRate.getD c.rate, pendingRate := none
      angle := c.pendingAngle.getD c.angle, pendingAngle := none
      state := if c.state = .guarded ∧ s.clock.game.running = false then .playing else c.state } := by
  rw [readyClip, releaseGuard, clockPhase]
  cases s.clock.game.running with
  | true =>
    rw [if_neg (by simp), if_neg (by simp)]
    rfl
  | false =>
    by_cases hguarded : c.state = .guarded
    · rw [if_pos ⟨hguarded, rfl⟩, if_pos ⟨hguarded, rfl⟩]
      rfl
    · rw [if_neg fun h => hguarded h.1, if_neg fun h => hguarded h.1]
      rfl

/-- R113: the index above the out-point comes back into the clip. -/
def loopIndex (target : Nat) (c : Clip) : Nat :=
  c.inPoint + (target - c.outPoint - 1) % (c.outPoint - c.inPoint + 1)

theorem loopIndex_bounds (target : Nat) (h : c.inPoint ≤ c.outPoint) :
    c.inPoint ≤ loopIndex target c ∧ loopIndex target c ≤ c.outPoint := by
  have hmod : (target - c.outPoint - 1) % (c.outPoint - c.inPoint + 1) < c.outPoint - c.inPoint + 1 :=
    Nat.mod_lt _ (Nat.succ_pos _)
  rw [loopIndex]
  omega

/-- R113: what an end above the out-point leaves, and whether the clip has ended. -/
theorem endClip_cases (target : Nat) (c : Clip) :
    ((endClip target c).2 = true ∧ (endClip target c).1.state = .ended ∧ (endClip target c).1.index = c.outPoint)
      ∨ ((endClip target c).2 = false ∧ (endClip target c).1.state = c.state
          ∧ (endClip target c).1.index = loopIndex target c) := by
  rw [endClip]
  cases c.behaviour with
  | haltHold => exact .inl ⟨rfl, rfl, rfl⟩
  | haltDark => exact .inl ⟨rfl, rfl, rfl⟩
  | loop => exact .inr ⟨rfl, rfl, rfl⟩
  | angleSweep =>
    dsimp only
    split
    · exact .inr ⟨rfl, rfl, rfl⟩
    · exact .inl ⟨rfl, rfl, rfl⟩

/-- R113: the four behaviours of a clip's end. -/
theorem endClip_past (target : Nat) (c : Clip) : (endClip target c).1 =
    match c.behaviour with
    | .haltHold => { c with index := c.outPoint, state := .ended, endedDark := false }
    | .haltDark => { c with index := c.outPoint, state := .ended, endedDark := true }
    | .loop => { c with index := loopIndex target c }
    | .angleSweep =>
      if c.angle + 1 < c.bases.length then { c with index := loopIndex target c, angle := c.angle + 1 }
      else { c with index := c.outPoint, state := .ended, endedDark := false } := by
  rw [endClip]
  cases c.behaviour with
  | angleSweep => dsimp only; split <;> rfl
  | _ => rfl

/-- A step of a PLAYING clip ends it or leaves it PLAYING, and its index stays in the clip. -/
def StepSound (c : Clip) (p : Clip × Bool) : Prop :=
  (p.2 = (p.1.state == .ended)) ∧ (c.inPoint ≤ c.index → c.index ≤ c.outPoint → c.inPoint ≤ p.1.index ∧ p.1.index ≤ c.outPoint)

theorem endClip_sound {target : Nat} {d : Clip} (hstate : d.state = .playing) (hin : d.inPoint = c.inPoint)
    (hout : d.outPoint = c.outPoint) : StepSound c (endClip target d) := by
  rcases endClip_cases target d with ⟨hended, hs, hindex⟩ | ⟨hended, hs, hindex⟩
  · exact ⟨by rw [hended, hs]; rfl, fun hlow hhigh => by omega⟩
  · refine ⟨by rw [hended, hs, hstate]; rfl, fun hlow hhigh => ?_⟩
    rw [hindex, ← hin, ← hout]
    exact loopIndex_bounds target (by omega)

theorem cadence_fixed (h : c.growing = false) : cadence c = stepFixed (c.index + (c.acc + c.rate) / 256)
    { c with acc := (c.acc + c.rate) % 256 } := by
  rw [cadence]
  dsimp only
  rw [h, if_neg Bool.false_ne_true]

theorem cadence_growing (h : c.growing = true) : cadence c = stepGrowing (c.index + (c.acc + c.rate) / 256)
    ((c.acc + c.rate) / 256) { c with acc := (c.acc + c.rate) % 256 } := by
  rw [cadence]
  dsimp only
  rw [h, if_pos rfl]

theorem cadence_sound (hstate : c.state = .playing) : StepSound c (cadence c) := by
  have hplays : (false = (c.state == .ended)) := by rw [hstate]; rfl
  cases hgrowing : c.growing with
  | false =>
    rw [cadence_fixed hgrowing, stepFixed]
    split
    · next hinside => exact ⟨hplays, fun hlow _ => ⟨Nat.le_add_right_of_le hlow, hinside⟩⟩
    · exact endClip_sound hstate rfl rfl
  | true =>
    rw [cadence_growing hgrowing, stepGrowing]
    split
    · next hcapped =>
      refine ⟨hplays, fun hlow hhigh => ⟨Nat.le_max_left _ _, Nat.max_le.2 ⟨hlow.trans hhigh, ?_⟩⟩⟩
      have := hcapped.2
      dsimp only at this ⊢
      omega
    · split
      · next hinside =>
        split
        · exact ⟨hplays, fun hlow hhigh => ⟨hlow, hhigh⟩⟩
        · exact ⟨hplays, fun hlow _ => ⟨Nat.le_add_right_of_le hlow, hinside⟩⟩
      · exact endClip_sound hstate rfl rfl

theorem stepPlaying_sound (c : Clip) :
    ((stepPlaying c).2 = (c.state == .playing && (stepPlaying c).1.state == .ended))
      ∧ (c.inPoint ≤ c.index → c.index ≤ c.outPoint →
          c.inPoint ≤ (stepPlaying c).1.index ∧ (stepPlaying c).1.index ≤ c.outPoint) := by
  by_cases h : c.state = .playing
  · obtain ⟨hended, hindex⟩ := cadence_sound h
    rw [stepPlaying_playing h]
    exact ⟨by rw [hended, h]; rfl, hindex⟩
  · rw [stepPlaying_other h]
    refine ⟨?_, fun hlow hhigh => ⟨hlow, hhigh⟩⟩
    rw [beq_eq_false_iff_ne.2 h]
    rfl

end

theorem moved_iff (a b : Clip) : moved a b = true ↔ b.index ≠ a.index ∨ b.angle ≠ a.angle := by
  rw [moved, Bool.or_eq_true, bne_iff_ne, bne_iff_ne, ne_comm, ne_comm (a := a.angle)]

/-! ### The Replay Engine's work -/

section
variable {s : State} {c : Clip}

theorem consumeTake_idle (h : s.replay.take = false) : consumeTake s = s := by
  rw [consumeTake, h]
  rfl

theorem consumeTake_brings (h : s.replay.take = true) (hdeck : s.replay.onDeck = some c) :
    consumeTake s = clipChanged { s with replay := { s.replay with current := some c, onDeck := none, take := false } } := by
  rw [consumeTake, h, hdeck]
  rfl

/-- R111, R112: the clip stepped, with the bump where its index or its angle changed. -/
theorem replayWork_steps {u : State} (htaken : consumeTake s = u) (h : u.replay.current = some c) :
    replayWork s = if moved c (readyClip (clockPhase u) c)
        || moved (readyClip (clockPhase u) c) (stepPlaying (readyClip (clockPhase u) c)).1
      then clipChanged (raiseIf (stepPlaying (readyClip (clockPhase u) c)).2 .clipEnded
        { u with replay := { u.replay with current := some (stepPlaying (readyClip (clockPhase u) c)).1 } })
      else raiseIf (stepPlaying (readyClip (clockPhase u) c)).2 .clipEnded
        { u with replay := { u.replay with current := some (stepPlaying (readyClip (clockPhase u) c)).1 } } := by
  rw [replayWork, htaken]
  dsimp only
  rw [h]

theorem clipChanged_zones (s : State) : (clipChanged s).sweep.zones = s.sweep.zones.map (bumpZone isReplay) := rfl

theorem replayWork_replay {u : State} (htaken : consumeTake s = u) (h : u.replay.current = some c) :
    (replayWork s).replay
      = { u.replay with current := some (stepPlaying (readyClip (clockPhase u) c)).1 } := by
  rw [replayWork_steps htaken h]
  split
  · show (raiseIf _ _ _).replay = _
    rw [raiseIf_replay]
  · rw [raiseIf_replay]

theorem replayWork_ended {u : State} (htaken : consumeTake s = u) (h : u.replay.current = some c) :
    flagUp .clipEnded (replayWork s) = (flagUp .clipEnded u || (stepPlaying (readyClip (clockPhase u) c)).2) := by
  rw [replayWork_steps htaken h]
  split
  · exact flagUp_raiseIf _ _ _
  · exact flagUp_raiseIf _ _ _

theorem replayWork_epochs {u : State} (htaken : consumeTake s = u) (h : u.replay.current = some c) :
    EpochsMoved (fun z e => if moved c (readyClip (clockPhase u) c)
        || moved (readyClip (clockPhase u) c) (stepPlaying (readyClip (clockPhase u) c)).1
      then bumpedEpoch isReplay z e else e) u.sweep.zones (replayWork s).sweep.zones := by
  rw [replayWork_steps htaken h]
  split
  · rw [clipChanged_zones, raiseIf_sweep]
    exact (epochsMoved_refl _).bumped isReplay
  · rw [raiseIf_sweep]
    exact epochsMoved_refl _

end

/-! ### The boundary -/

/-- The parts that come before and after the Replay Engine's work at a boundary. -/
abbrev aroundReplay : List Part := openedParts ++ rotationParts ++ airParts

/-- An ARMED clip with nothing pending stays as it is. -/
theorem readyClip_armed {c : Clip} (hstate : c.state = .armed) (hrate : c.pendingRate = none) (hangle : c.pendingAngle = none)
    (s : State) : readyClip (clockPhase s) c = c := by
  rw [readyClip_eq, hrate, hangle, hstate]
  cases c
  simp_all

/-- R112, R113: the step of a clip that does not grow. -/
theorem stepPlaying_fixed {c : Clip} (hstate : c.state = .playing) (h : c.growing = false) :
    stepPlaying c = stepFixed (c.index + (c.acc + c.rate) / 256) { c with acc := (c.acc + c.rate) % 256 } :=
  (stepPlaying_playing hstate).trans (cadence_fixed h)

theorem stepPlaying_growing {c : Clip} (hstate : c.state = .playing) (h : c.growing = true) :
    stepPlaying c = stepGrowing (c.index + (c.acc + c.rate) / 256) ((c.acc + c.rate) / 256)
      { c with acc := (c.acc + c.rate) % 256 } :=
  (stepPlaying_playing hstate).trans (cadence_growing h)

/-- Settles O45. -/
theorem cadenceStaysInTheClip : Obligations.CadenceStaysInTheClip := by
  intro s order hold hbypass hquiet hload
  obtain ⟨u, v, hu, hv, hrun⟩ := sweepBoundary_calm (ps := aroundReplay) ⟨hquiet, hload⟩ .replay
    (fun t => by cases t <;> decide) (by decide) (by decide) (by decide) order hold
  have hreplay : u.replay = s.replay := (congrArg State.replay hu.eq_merge).trans rfl
  have hclock : u.clock = s.clock := (congrArg State.clock hu.eq_merge).trans rfl
  have hended := (hv.mono (qs := aroundReplay ++ endedParts) (by decide)).andThen (boundaryEnded_within hold v) (by decide)
  have hkept : (boundaryEnded hold v).replay = (replayWork u).replay :=
    (congrArg State.replay hended.eq_merge).trans rfl
  rw [exec_sweepBoundary hbypass, hrun]
  refine ⟨fun d htake hdeck harmed hrate hangle => ⟨_, rfl, ?_⟩, fun c htake hcurrent => ?_⟩
  · rw [hkept, replayWork_replay (consumeTake_brings (hreplay ▸ htake) (hreplay ▸ hdeck)) rfl]
    rw [readyClip_armed harmed hrate hangle, stepPlaying_other (by rw [harmed]; decide), hreplay]
    rfl
  · intro b target stepped loop past
    have hready : readyClip (clockPhase u) c = b := (readyClip_eq u c).trans (by rw [hclock])
    have htaken := consumeTake_idle (hreplay ▸ htake)
    have hcurrent' : u.replay.current = some c := hreplay ▸ hcurrent
    obtain ⟨hflag, hbounds⟩ := stepPlaying_sound b
    refine ⟨_, (stepPlaying b).1, rfl, ?_, fun hstate => ?_, fun hstate hfixed => ?_, fun hstate hgrows => ?_, hbounds, ?_, ?_⟩
    · rw [hkept, replayWork_replay htaken hcurrent', hready, hreplay]
    · rw [stepPlaying_other hstate]
    · rw [stepPlaying_fixed hstate hfixed, stepFixed]
      split
      · rfl
      · exact (endClip_past target stepped).trans rfl
    · rw [stepPlaying_growing hstate hgrows, stepGrowing]
      have hcap : ((b.mark < (target : Int) ∧ b.mark < (b.outPoint : Int)) ↔ (b.mark < b.outPoint ∧ b.mark < target)) :=
        and_comm
      have hstill : (b.acc + b.rate) / 256 = 0 ↔ target = b.index := by
        simp only [target]
        omega
      dsimp only
      by_cases hcapped : b.mark < b.outPoint ∧ b.mark < target
      · rw [if_pos hcapped, if_pos hcapped.symm]
        rfl
      · rw [if_neg hcapped, if_neg (mt And.symm hcapped)]
        by_cases hinside : target ≤ b.outPoint
        · rw [if_pos hinside, if_pos hinside]
          by_cases hrests : target = b.index
          · rw [if_pos hrests, if_pos (hstill.2 hrests)]
          · rw [if_neg hrests, if_neg (mt hstill.1 hrests)]
        · rw [if_neg hinside, if_neg hinside]
          exact (endClip_past target { stepped with chase := none }).trans rfl
    · rw [show flagUp .clipEnded (boundaryEnded hold v) = flagUp .clipEnded (replayWork u) from
          (hended (.flag .clipEnded) (by decide)).1, replayWork_ended htaken hcurrent', hready, ← hflag,
        show flagUp .clipEnded u = flagUp .clipEnded s from (hu (.flag .clipEnded) (by decide)).1]
    · have hmoves : (moved c b || moved b (stepPlaying b).1) = true
          ↔ b.angle ≠ c.angle ∨ (stepPlaying b).1.index ≠ b.index ∨ (stepPlaying b).1.angle ≠ b.angle := by
        have hindex : b.index = c.index := rfl
        rw [Bool.or_eq_true, moved_iff, moved_iff, hindex]
        simp only [ne_eq, not_true_eq_false, false_or]
      obtain ⟨hlength, hepoch⟩ := epochsMoved_between (k := .replay) hu (hready ▸ replayWork_epochs htaken hcurrent') hended
        (by decide)
      refine ⟨hlength, fun k z x hz hx hrole => ?_⟩
      rw [hepoch k z x hz hx (by rw [hrole]; rfl)]
      by_cases hmoved : (moved c b || moved b (stepPlaying b).1) = true
      · rw [if_pos hmoved, bumpedEpoch, (isReplay_iff _).2 hrole, Bool.and_true]
        exact if_congr (and_iff_left (hmoves.1 hmoved)).symm rfl rfl
      · rw [if_neg hmoved, if_neg fun h => hmoved (hmoves.2 h.2)]

end Sys2Proof.Proofs
end

section
/-! PROOFS. The ribbons at a boundary (R128 to R133, R139). -/

namespace Sys2Proof.Proofs

open Sys2Proof.Machine Sys2Proof.Safety

/-! ### The search -/

theorem admits_iff (x : PhaseSet) (s : State) : admits x (clockPhase s) = true ↔
    x = .any ∨ (x = .running ∧ s.clock.game.running = true) ∨ (x = .stopped ∧ s.clock.game.running = false) := by
  rw [clockPhase]
  cases x <;> cases s.clock.game.running <;> decide

theorem eligible_iff (l : SlotList) (p : ClockPhase) (i : Nat) :
    eligible l p i = true ↔ ∃ x, l.slots[i]? = some x ∧ admits x.phases p = true := by
  rw [eligible]
  cases l.slots[i]? <;> simp

/-- R130: what a search in an order leaves of a ribbon: the first eligible slot, or HOUSE. -/
def Enters (l : SlotList) (p : ClockPhase) (at' : Nat → Nat) (fallback : Nat) (r₀ r₁ : Ribbon) : Prop :=
  (∀ k x, k < l.slots.length → l.slots[at' k]? = some x → admits x.phases p = true →
      (∀ j, j < k → eligible l p (at' j) ≠ true) →
      r₁ = { r₀ with entry := .slot (at' k), dwell := x.dwell, search := at' k })
    ∧ ((∀ k, k < l.slots.length → eligible l p (at' k) ≠ true) →
      r₁ = { r₀ with entry := .house, dwell := 250, search := fallback })

theorem enterFirst_enters (l : SlotList) (p : ClockPhase) (at' : Nat → Nat) (fallback : Nat) (r : Ribbon) :
    Enters l p at' fallback r (enterFirst l p ((List.range l.slots.length).map at') fallback r) := by
  refine ⟨fun k x hk hx hadmits hfirst => ?_, fun hnone => ?_⟩
  · have heligible : eligible l p (at' k) = true := (eligible_iff l p _).2 ⟨x, hx, hadmits⟩
    have hfound : ((List.range l.slots.length).map at').find? (eligible l p) = some (at' k) := by
      rw [List.find?_map, List.find?_range_eq_some (p := eligible l p ∘ at') |>.2 ⟨heligible, List.mem_range.2 hk, fun j hj => ?_⟩]
      · rfl
      · rw [Function.comp_apply, Bool.not_eq_true']
        exact Bool.eq_false_iff.2 (hfirst j hj)
    rw [enterFirst, hfound]
    dsimp only
    rw [dwellOf, hx]
  · have hfound : ((List.range l.slots.length).map at').find? (eligible l p) = none := by
      rw [List.find?_map, List.find?_range_eq_none (p := eligible l p ∘ at') |>.2 fun j hj => ?_]
      · rfl
      · rw [Function.comp_apply, Bool.not_eq_true']
        exact Bool.eq_false_iff.2 (hnone j hj)
    rw [enterFirst, hfound]
    rfl

theorem enterFromStart_enters (l : SlotList) (p : ClockPhase) (r : Ribbon) :
    Enters l p (fun k => k) (l.slots.length - 1) r (enterFromStart l p r) := by
  have h := enterFirst_enters l p (fun k => k) (l.slots.length - 1) r
  rwa [List.map_id''] at h
  exact fun _ => rfl

/-- A search examines a slot of its order exactly where none before it is eligible. -/
theorem mem_examined (l : SlotList) (p : ClockPhase) (i : Nat) (order : List Nat) :
    i ∈ examined l p order
      ↔ ∃ k, order[k]? = some i ∧ ∀ (j a : Nat), j < k → order[j]? = some a → eligible l p a ≠ true := by
  induction order with
  | nil => simp [examined]
  | cons a order ih =>
    have hlater (k : Nat) : (∀ (j b : Nat), j < k + 1 → (a :: order)[j]? = some b → eligible l p b ≠ true)
        ↔ eligible l p a ≠ true ∧ ∀ (j b : Nat), j < k → order[j]? = some b → eligible l p b ≠ true := by
      refine ⟨fun h => ⟨h 0 a (Nat.succ_pos k) rfl, fun j b hj hb => h (j + 1) b (Nat.succ_lt_succ hj) hb⟩,
        fun ⟨hhead, htail⟩ j b hj hb => ?_⟩
      cases j with
      | zero => cases hb; exact hhead
      | succ j => exact htail j b (Nat.lt_of_succ_lt_succ hj) hb
    have hmem : i ∈ examined l p (a :: order) ↔ i = a ∨ (eligible l p a ≠ true ∧ i ∈ examined l p order) := by
      rw [examined]
      by_cases ha : eligible l p a = true <;> simp [ha]
    rw [hmem, ih]
    constructor
    · rintro (rfl | ⟨hskipped, k, hk, hfirst⟩)
      · exact ⟨0, rfl, fun j _ hj => (Nat.not_lt_zero j hj).elim⟩
      · exact ⟨k + 1, hk, (hlater k).2 ⟨hskipped, hfirst⟩⟩
    · rintro ⟨k, hk, hfirst⟩
      cases k with
      | zero => exact .inl (Option.some.inj hk).symm
      | succ k =>
        obtain ⟨hskipped, hrest⟩ := (hlater k).1 hfirst
        exact .inr ⟨hskipped, k, hk, hrest⟩

/-- R131: the cycle boundary, judged by the order of an advance. -/
theorem cycleBoundary_iff (l : SlotList) (p : ClockPhase) (r : Ribbon) : cycleBoundary l p r = true ↔
    r.entry = .house ∨ ∃ k, k < l.slots.length ∧ (r.search + 1 + k) % l.slots.length = 0
      ∧ ∀ j, j < k → eligible l p ((r.search + 1 + j) % l.slots.length) ≠ true := by
  have horder (k i : Nat) : (searchOrder l.slots.length r.search)[k]? = some i
      ↔ k < l.slots.length ∧ (r.search + 1 + k) % l.slots.length = i := by
    rw [searchOrder, List.getElem?_map, Option.map_eq_some_iff]
    simp [List.getElem?_eq_some_iff]
  rw [cycleBoundary, Bool.or_eq_true, beq_iff_eq, List.contains_iff_mem, mem_examined]
  refine or_congr Iff.rfl (exists_congr fun k => ?_)
  rw [horder, and_assoc]
  refine and_congr_right fun hk => and_congr_right fun _ => ⟨fun h j hj => h j _ hj ((horder j _).2 ⟨hj.trans hk, rfl⟩),
    fun h j a hj ha => ?_⟩
  obtain ⟨_, rfl⟩ := (horder j a).1 ha
  exact h j hj

/-! ### The rows of a ribbon's boundary -/

/-- R139: a ribbon whose staged list has become its committed list. -/
def committing (x : StagedList) (r : Ribbon) : Ribbon := { r with committed := some x.list, staged := none }

section
variable {r : Ribbon} {l : SlotList} {x : StagedList} (p : ClockPhase)

theorem ribbonBoundary_off (h : r.state = .off) :
    ribbonBoundary p r = { ribbon := r, committed := false, bumped := false } := by
  rw [ribbonBoundary, h]

theorem ribbonBoundary_counts (h : r.state = .on ∨ r.state = .stopping) (hdwell : 1 < r.dwell) :
    ribbonBoundary p r = { ribbon := { r with dwell := r.dwell - 1 }, committed := false, bumped := false } := by
  have hmore := Nat.not_le.2 hdwell
  rcases h with h | h <;> rw [ribbonBoundary, h] <;> exact if_neg hmore

theorem ribbonBoundary_starts (h : r.state = .starting) (hstaged : r.staged = none) (hlist : r.committed = some l) :
    ribbonBoundary p r = entryOutcome r (enterFromStart l p { r with state := .on }) := by
  rw [ribbonBoundary, h]
  dsimp only
  rw [startRibbon, hstaged, hlist]

theorem ribbonBoundary_starts_staged (h : r.state = .starting) (hstaged : r.staged = some x) :
    ribbonBoundary p r = commitOutcome (enterFromStart x.list p { committing x r with state := .on }) := by
  rw [ribbonBoundary, h]
  dsimp only
  rw [startRibbon, hstaged]
  rfl

theorem ribbonBoundary_advances (h : r.state = .on) (hdwell : r.dwell ≤ 1) :
    ribbonBoundary p r = advanceRibbon p { r with dwell := r.dwell - 1 } := by
  rw [ribbonBoundary, h]
  exact if_pos hdwell

theorem ribbonBoundary_stops (h : r.state = .stopping) (hdwell : r.dwell ≤ 1) :
    ribbonBoundary p r = turnOff { r with dwell := r.dwell - 1 } := by
  rw [ribbonBoundary, h]
  exact if_pos hdwell

theorem advanceRibbon_commits (hlist : r.committed = some l) (hstaged : r.staged = some x)
    (h : x.point = .atSlot ∨ cycleBoundary l p r = true) :
    advanceRibbon p r = commitOutcome (enterFromStart x.list p (committing x r)) := by
  have hnow : commitsNow l p r x = true := by rw [commitsNow, Bool.or_eq_true, beq_iff_eq]; exact h
  rw [advanceRibbon, hlist]
  dsimp only
  rw [hstaged]
  exact if_pos hnow

theorem advanceRibbon_searches (hlist : r.committed = some l)
    (h : ∀ x, r.staged = some x → x.point ≠ .atSlot ∧ cycleBoundary l p r ≠ true) :
    advanceRibbon p r = entryOutcome r (enterFirst l p (searchOrder l.slots.length r.search) r.search r) := by
  rw [advanceRibbon, hlist]
  dsimp only
  split
  · next x hstaged =>
    obtain ⟨hpoint, hcycle⟩ := h x hstaged
    refine if_neg fun hnow => ?_
    rw [commitsNow, Bool.or_eq_true, beq_iff_eq] at hnow
    exact hnow.elim hpoint hcycle
  · rfl

theorem turnOff_unstaged (hlist : r.committed = some l) (hstaged : r.staged = none) :
    turnOff r = entryOutcome r { r with state := .off, entry := .none, dwell := 0, search := l.slots.length - 1 } := by
  rw [turnOff, hlist]
  dsimp only
  rw [hstaged]
  rfl

theorem turnOff_staged (hstaged : r.staged = some x) :
    turnOff r = commitOutcome
      { r with
        state := .off, entry := .none, dwell := 0, committed := some x.list, staged := none
        search := x.list.slots.length - 1 } := by
  rw [turnOff]
  rw [hstaged]
  dsimp only
  rw [commitOff]
  rfl

end

/-- R139: a list is committed exactly where a staged list is consumed. -/
def Spends (r : Ribbon) (o : RibbonOutcome) : Prop :=
  o.committed = true ↔ r.staged ≠ none ∧ o.ribbon.staged = none

theorem spends_kept {r new : Ribbon} {b : Bool} (h : new.staged = r.staged) :
    Spends r { ribbon := new, committed := false, bumped := b } :=
  ⟨fun hf => (Bool.false_ne_true hf).elim, fun ⟨hsome, hnone⟩ => (hsome (h.symm.trans hnone)).elim⟩

theorem spends_commit {r new : Ribbon} {x : StagedList} (hstaged : r.staged = some x) (h : new.staged = none) :
    Spends r (commitOutcome new) :=
  ⟨fun _ => ⟨by rw [hstaged]; exact Option.some_ne_none x, h⟩, fun _ => rfl⟩

theorem turnOff_spends (r : Ribbon) : Spends r (turnOff r) := by
  cases hstaged : r.staged with
  | none =>
    rw [turnOff]
    rw [hstaged]
    exact spends_kept hstaged.symm
  | some x =>
    rw [turnOff_staged hstaged]
    exact spends_commit hstaged rfl

theorem ribbonBoundary_spends (p : ClockPhase) (r : Ribbon) : Spends r (ribbonBoundary p r) := by
  rw [ribbonBoundary]
  split
  · exact spends_kept rfl
  · rw [startRibbon]
    split
    · next x _ hstaged => exact spends_commit hstaged (enterFirst_staged _ _ _ _ _)
    · exact spends_kept (enterFirst_staged _ _ _ _ _)
    · exact spends_kept rfl
  · split
    · rw [advanceRibbon]
      split
      · exact spends_kept rfl
      · dsimp only
        split
        · next x hstaged =>
          split
          · exact spends_commit hstaged (enterFirst_staged _ _ _ _ _)
          · exact spends_kept (enterFirst_staged _ _ _ _ _)
        · exact spends_kept (enterFirst_staged _ _ _ _ _)
    · exact spends_kept rfl
  · split
    · exact turnOff_spends { r with dwell := r.dwell - 1 }
    · exact spends_kept rfl

/-- R133, R139: a ribbon's work is handed on exactly where its entry differs or its staged list was committed. -/
theorem ribbonBoundary_bumped (p : ClockPhase) (r : Ribbon) : (ribbonBoundary p r).bumped = true ↔
    (ribbonBoundary p r).ribbon.entry ≠ r.entry ∨ (r.staged ≠ none ∧ (ribbonBoundary p r).ribbon.staged = none) := by
  have hhanded : (ribbonBoundary p r).bumped = _ := ribbonBoundary_handedOn p r
  rw [hhanded, Bool.or_eq_true, bne_iff_ne, ne_comm, show _ ↔ _ from ribbonBoundary_spends p r, or_comm]

/-! ### The boundary -/

theorem handRibbon_ribbonOf (id : RibbonId) (o : RibbonOutcome) (s : State) : ribbonOf id (handRibbon id o s) = o.ribbon := by
  have hset := setRibbon_ribbonOf id o.ribbon s
  have hraised : ribbonOf id (raiseIf o.committed .rotationCommitted (setRibbon id o.ribbon s)) = o.ribbon :=
    Eq.trans (raiseIf_within _ _ _ (.ribbon id) (by simp)) hset
  rw [handRibbon]
  split
  · exact hraised
  · exact hraised

theorem handRibbon_committed (id : RibbonId) (o : RibbonOutcome) (s : State) (h : o.committed = true) :
    flagUp .rotationCommitted (handRibbon id o s) = true := by
  have hraised : flagUp .rotationCommitted (raiseIf o.committed .rotationCommitted (setRibbon id o.ribbon s)) = true := by
    rw [flagUp_raiseIf, h, Bool.or_true]
  rw [handRibbon]
  split
  · exact hraised
  · exact hraised

theorem handRibbon_epochs (id : RibbonId) (o : RibbonOutcome) (s : State) :
    EpochsMoved (fun z e => if o.bumped = true then bumpedEpoch (showsRibbon id) z e else e) s.sweep.zones
      (handRibbon id o s).sweep.zones := by
  have hraised : (raiseIf o.committed .rotationCommitted (setRibbon id o.ribbon s)).sweep.zones = s.sweep.zones := by
    rw [raiseIf_sweep, setRibbon_sweep]
  rw [handRibbon]
  split
  · rw [rebuildWatch_sweep, bumpZones_zones, hraised]
    exact (epochsMoved_refl _).bumped _
  · rw [hraised]
    exact epochsMoved_refl _

/-- The other ribbon. -/
def otherRibbon : RibbonId → RibbonId
  | .a => .b
  | .b => .a

/-- R129: one ribbon's work, before or after the other's. -/
theorem rotationWork_between {s : State} (h : s.alert.state = .quiet) (id : RibbonId) :
    ∃ x, Within (ribbonParts (otherRibbon id)) s x
      ∧ Within (ribbonParts (otherRibbon id)) (ribbonWork id x) (rotationWork s) := by
  have hwork : rotationWork s = ribbonWork .b (ribbonWork .a s) := by
    rw [rotationWork, alertOnAir, h]
    rfl
  rw [hwork]
  cases id with
  | a => exact ⟨s, .refl _ s, ribbonWork_within .b _⟩
  | b => exact ⟨ribbonWork .a s, ribbonWork_within .a s, .refl _ _⟩

/-- The parts that come before and after one ribbon's work at a boundary. -/
abbrev aroundRibbon (id : RibbonId) : List Part := openedParts ++ replayParts ++ airParts ++ ribbonParts (otherRibbon id)

/-- R1: a ribbon's work at a boundary without an alert or a layout, between what comes before it and after it. -/
theorem sweepBoundary_ribbon {s : State} (h : Calm s) (order : List BoundaryTask) (hold : Bool) (id : RibbonId) :
    ∃ x, Within (aroundRibbon id) s x
      ∧ Within (aroundRibbon id ++ endedParts) (ribbonWork id x) (sweepBoundary order hold s) := by
  obtain ⟨u, v, hu, hv, hrun⟩ := sweepBoundary_calm (ps := openedParts ++ replayParts ++ airParts) h .rotation
    (fun t => by cases t <;> decide) (by decide) (by decide) (by decide) order hold
  have hquiet : u.alert.state = .quiet := Eq.trans (hu .alertState (by decide)) h.1
  obtain ⟨x, hx, hwork⟩ := rotationWork_between hquiet id
  have hother : ∀ p ∈ ribbonParts (otherRibbon id), p ∈ aroundRibbon id := fun p hp => List.mem_append_right _ hp
  have haround : ∀ p ∈ openedParts ++ replayParts ++ airParts, p ∈ aroundRibbon id := fun p hp => List.mem_append_left _ hp
  refine ⟨x, (hu.mono haround).andThen hx hother, hrun ▸ ?_⟩
  have hafter := ((hwork.mono hother).andThen hv haround).mono (qs := aroundRibbon id ++ endedParts)
    fun p hp => List.mem_append_left _ hp
  exact hafter.andThen (boundaryEnded_within hold v) fun p hp => List.mem_append_right _ hp

/-- Settles O47. -/
theorem ribbonsRotateAtTheBoundary : Obligations.RibbonsRotateAtTheBoundary := by
  intro s order hold id hbypass hquiet hload r admitted eligibleAt chosen fromStart after cycle
  obtain ⟨x, hbefore, hafter⟩ := sweepBoundary_ribbon ⟨hquiet, hload⟩ order hold id
  have hribbon : ribbonOf id x = r := hbefore (.ribbon id) (by cases id <;> decide)
  have hclock : clockPhase x = clockPhase s := by
    rw [clockPhase, clockPhase, show x.clock.game = s.clock.game from hbefore .game (by cases id <;> decide)]
  have hwork : ribbonWork id x = handRibbon id (ribbonBoundary (clockPhase s) r) x := by rw [ribbonWork, hclock, hribbon]
  rw [hwork] at hafter
  have hleft : ribbonOf id (sweepBoundary order hold s) = (ribbonBoundary (clockPhase s) r).ribbon :=
    Eq.trans (hafter (.ribbon id) (by cases id <;> decide)) (handRibbon_ribbonOf id _ x)
  have hflag (h : (ribbonBoundary (clockPhase s) r).committed = true) :
      flagUp .rotationCommitted (sweepBoundary order hold s) = true :=
    ((hafter .cleared (by cases id <;> decide)).2 .rotationCommitted).1 (handRibbon_committed id _ x h)
  have heligible (l : SlotList) (i : Nat) : eligible l (clockPhase s) i = true ↔ eligibleAt l i :=
    (eligible_iff l _ i).trans (exists_congr fun y => and_congr_right fun _ => admits_iff y.phases s)
  have hchosen {l : SlotList} {at' : Nat → Nat} {fallback : Nat} {r₀ r₁ : Ribbon}
      (h : Enters l (clockPhase s) at' fallback r₀ r₁) : chosen l at' fallback r₀ r₁ :=
    ⟨fun k y hk hy hadmitted hfirst => h.1 k y hk hy ((admits_iff _ _).2 hadmitted) fun j hj => mt (heligible l _).1 (hfirst j hj),
      fun hnone => h.2 fun k hk => mt (heligible l _).1 (hnone k hk)⟩
  have hcycle (l : SlotList) : cycleBoundary l (clockPhase s) { r with dwell := r.dwell - 1 } = true ↔ cycle l := by
    refine (cycleBoundary_iff l _ _).trans (or_congr Iff.rfl (exists_congr fun k => and_congr_right fun _ =>
      and_congr_right fun _ => forall_congr' fun j => imp_congr_right fun _ => not_congr (heligible l _)))
  rw [exec_sweepBoundary hbypass]
  obtain ⟨hlength, hepoch⟩ := epochsMoved_between (k := .sponsor id) hbefore (handRibbon_epochs id _ x) hafter
    (by cases id <;> decide)
  refine ⟨_, rfl, fun hoff => ?_, fun hlive hdwell => ?_, fun l hstart hstaged hlist => ?_, fun y hstart hstaged => ?_,
    fun l hon hdwell hlist => ⟨fun y hstaged hnow => ?_, fun hsearch => ?_⟩,
    fun l hstop hdwell hlist => ⟨fun hstaged => ?_, fun y hstaged => ?_⟩, hlength, fun k z u hz hu hrole => ?_⟩
  · rw [hleft, ribbonBoundary_off _ hoff]
  · rw [hleft, ribbonBoundary_counts _ hlive hdwell]
  · rw [hleft, ribbonBoundary_starts _ hstart hstaged hlist]
    exact hchosen (enterFromStart_enters _ _ _)
  · have hrow := ribbonBoundary_starts_staged (clockPhase s) hstart hstaged
    refine ⟨hflag (by rw [hrow]; rfl), ?_⟩
    rw [hleft, hrow]
    exact hchosen (enterFromStart_enters _ _ _)
  · have hrow := (ribbonBoundary_advances (clockPhase s) hon hdwell).trans
      (advanceRibbon_commits (r := { r with dwell := r.dwell - 1 }) _ hlist hstaged (hnow.imp_right (hcycle l).2))
    refine ⟨hflag (by rw [hrow]; rfl), ?_⟩
    rw [hleft, hrow]
    exact hchosen (enterFromStart_enters y.list (clockPhase s) (committing y { r with dwell := r.dwell - 1 }))
  · rw [hleft, ribbonBoundary_advances _ hon hdwell, advanceRibbon_searches (r := { r with dwell := r.dwell - 1 }) _ hlist
      fun y hy => ⟨by rw [(hsearch y hy).1]; exact CommitPoint.noConfusion, mt (hcycle l).1 (hsearch y hy).2⟩]
    exact hchosen (enterFirst_enters l (clockPhase s) (after l) r.search { r with dwell := r.dwell - 1 })
  · rw [hleft, ribbonBoundary_stops _ hstop hdwell, turnOff_unstaged (r := { r with dwell := r.dwell - 1 }) hlist hstaged]
    rfl
  · have hrow := (ribbonBoundary_stops (clockPhase s) hstop hdwell).trans
      (turnOff_staged (r := { r with dwell := r.dwell - 1 }) hstaged)
    exact ⟨hflag (by rw [hrow]; rfl), by rw [hleft, hrow]; rfl⟩
  · rw [hepoch k z u hz hu (by rw [hrole]; rfl), hleft]
    by_cases hbumped : (ribbonBoundary (clockPhase s) r).bumped = true
    · rw [if_pos hbumped, bumpedEpoch, (showsRibbon_iff id _).2 hrole, Bool.and_true]
      exact if_congr (and_iff_left ((ribbonBoundary_bumped _ r).1 hbumped)).symm rfl rfl
    · rw [if_neg hbumped, if_neg fun h => hbumped ((ribbonBoundary_bumped _ r).2 h.2)]

end Sys2Proof.Proofs
end

section
/-! PROOFS. The alert at a boundary, and the alert frame (R23, R129, R141, R172 to R174). -/

namespace Sys2Proof.Proofs

open Sys2Proof.Machine Sys2Proof.Safety

/-! ### One unit's work among the others' -/

/-- R1, log 6: a boundary around one unit's work. -/
theorem sweepBoundary_around (k : BoundaryTask) (order : List BoundaryTask) (hold : Bool) (s : State) :
    ∃ before after, k ∉ before ∧ k ∉ after ∧ sweepBoundary order hold s
      = boundaryEnded hold (runTasks after (runTask k (runTasks before (boundaryOpened s)))) := by
  obtain ⟨before, after, horder, hbefore, hafter⟩ := taskOrder_split order k
  refine ⟨before, after, hbefore, hafter, ?_⟩
  rw [sweepBoundary_eq, horder, runTasks_append]
  rfl

theorem runTasks_within {ps : List Part} {k : BoundaryTask} {order : List BoundaryTask} (hk : k ∉ order)
    (sub : ∀ t, t ≠ k → ∀ p ∈ taskParts t, p ∈ ps) (s : State) : Within ps s (runTasks order s) :=
  tasks_within order s fun t ht => sub t fun heq => hk (heq ▸ ht)

/-- What the tasks of an order each keep, all of them keep. -/
theorem runTasks_keep {inv : State → Prop} {k : BoundaryTask} (hkeep : ∀ t, t ≠ k → Keeps inv (runTask t))
    {order : List BoundaryTask} (hk : k ∉ order) : Keeps inv (runTasks order) := by
  induction order with
  | nil => exact fun s hs => hs
  | cons t order ih =>
    exact fun s hs => ih (fun h => hk (List.mem_cons_of_mem t h)) _
      (hkeep t (fun heq => hk (heq ▸ List.mem_cons_self)) s hs)

/-- What comes before and after the Alert Unit's work at a boundary. -/
abbrev aroundAlert : List Part := openedParts ++ layoutParts ++ replayParts ++ rotationParts ++ airParts

theorem taskParts_aroundAlert (t : BoundaryTask) : t ≠ .alert → ∀ p ∈ taskParts t, p ∈ aroundAlert := by
  cases t <;> decide

/-! ### The air and the clip under an alert -/

/-- No record is on air while the alert is ON_AIR. -/
def AirEmptied (s : State) : Prop := s.alert.state = .onAir ∧ s.messages.onAir = none

/-- No take is pending and the clip does not run. -/
def ClipHeld (s : State) : Prop :=
  s.replay.take = false ∧ ∀ c, s.replay.current = some c → c.state ≠ .playing ∧ c.state ≠ .guarded

theorem airEmptied_dependsOn : DependsOn [.alertState, .onAir] AirEmptied := fun s t hsame h =>
  ⟨Eq.trans (hsame .alertState (by decide)) h.1, Eq.trans (hsame .onAir (by decide)) h.2⟩

theorem settleAirIn_emptied (zone : Option ZoneRec) (left : Bool) : Keeps AirEmptied (settleAirIn zone left) := by
  intro s h
  have hidle : putOnAirIn zone s = s := putOnAirIn_idle (.inr (.inr ((alertOnAir_iff s).2 h.1)))
  rcases settleAirIn_cases zone left s with ⟨heq, _⟩ | ⟨heq, _⟩ <;> rw [heq, hidle]
  · exact h
  · exact h

theorem returnToQueue_emptied {s : State} (h : s.alert.state = .onAir) : AirEmptied (returnToQueue s) := by
  refine ⟨Eq.trans (returnToQueue_within s .alertState (by decide)) h, ?_⟩
  rw [returnToQueue]
  split
  · next o _ => exact Eq.trans (joinQueue_within _ _ .onAir (by decide)) rfl
  · assumption

theorem messageRelayout_emptied (old new : Option ZoneRec) : Keeps AirEmptied (messageRelayout old new) := by
  intro s h
  unfold messageRelayout
  split
  · rw [h.2]
    exact h
  · exact settleAirIn_emptied _ _ s h
  · split
    · exact h
    · exact settleAirIn_emptied _ _ _ (returnToQueue_emptied h.1)

/-- R159, R166: under the alert no work at a boundary puts a record on air. -/
theorem runTask_airEmptied (t : BoundaryTask) : Keeps AirEmptied (runTask t) := by
  intro s h
  cases t with
  | layout =>
    exact applyLayout_keeps airEmptied_dependsOn (by decide)
      (fun l => airEmptied_dependsOn.keeps (installZones_within l) (by decide))
      (fun b => airEmptied_dependsOn.keeps (replayRelayout_within b) (by decide)) messageRelayout_emptied
      (airEmptied_dependsOn.keeps rebuildWatch_within (by decide)) s h
  | alert =>
    rw [runTask, alertWork, h.1]
    exact h
  | message =>
    rw [runTask, messageWork, h.2]
    exact h
  | replay => exact airEmptied_dependsOn.keeps replayWork_within (by decide) s h
  | rotation => exact airEmptied_dependsOn.keeps rotationWork_within (by decide) s h

theorem clipHeld_dependsOn : DependsOn [.take, .current] ClipHeld := fun s t hsame h => by
  have htake : t.replay.take = s.replay.take := hsame .take (by decide)
  have hcurrent : t.replay.current = s.replay.current := hsame .current (by decide)
  rw [ClipHeld, htake, hcurrent]
  exact h

theorem alertHolds_clip {s : State} (h : s.replay.take = false) : ClipHeld (alertHoldsClip s) := by
  refine ⟨h, fun c hc => ?_⟩
  obtain ⟨d, _, rfl⟩ := Option.map_eq_some_iff.1 hc
  rw [alertHold]
  split
  · exact ⟨ClipState.noConfusion, ClipState.noConfusion⟩
  · next hother => exact not_or.1 hother

/-- R119: no work at a boundary sets a held clip going. -/
theorem runTask_clipHeld (t : BoundaryTask) (ht : t ≠ .alert) : Keeps ClipHeld (runTask t) := by
  intro s h
  cases t with
  | alert => exact (ht rfl).elim
  | layout =>
    refine applyLayout_keeps clipHeld_dependsOn (by decide)
      (fun l => clipHeld_dependsOn.keeps (installZones_within l) (by decide)) (fun b u hu => ?_)
      (fun _ _ => clipHeld_dependsOn.keeps (messageRelayout_within _ _) (by decide))
      (clipHeld_dependsOn.keeps rebuildWatch_within (by decide)) s h
    cases b with
    | true => exact hu
    | false => exact ⟨rfl, nofun⟩
  | message => exact clipHeld_dependsOn.keeps messageWork_within (by decide) s h
  | rotation => exact clipHeld_dependsOn.keeps rotationWork_within (by decide) s h
  | replay =>
    have htaken := consumeTake_idle h.1
    rw [runTask]
    cases hcurrent : s.replay.current with
    | none =>
      rw [replayWork, htaken]
      dsimp only
      rw [hcurrent]
      exact h
    | some c =>
      obtain ⟨hplaying, hguarded⟩ := h.2 c hcurrent
      have hready : (readyClip (clockPhase s) c).state = c.state := by
        rw [readyClip_eq]
        exact if_neg fun hg => hguarded hg.1
      have hreplay := replayWork_replay htaken hcurrent
      rw [stepPlaying_other (by rw [hready]; exact hplaying)] at hreplay
      refine ⟨by rw [hreplay]; exact h.1, fun d hd => ?_⟩
      rw [hreplay] at hd
      cases hd
      rw [hready]
      exact ⟨hplaying, hguarded⟩

/-- No take is pending. -/
def Untaken (s : State) : Prop := s.replay.take = false

theorem untaken_dependsOn : DependsOn [.take] Untaken := fun _ _ hsame h => Eq.trans (hsame .take (by decide)) h

/-- R107: no work at a boundary makes a take pending. -/
theorem runTask_untaken (t : BoundaryTask) : Keeps Untaken (runTask t) := by
  intro s h
  cases t with
  | layout =>
    refine applyLayout_keeps untaken_dependsOn (by decide)
      (fun l => untaken_dependsOn.keeps (installZones_within l) (by decide)) (fun b u hu => ?_)
      (fun _ _ => untaken_dependsOn.keeps (messageRelayout_within _ _) (by decide))
      (untaken_dependsOn.keeps rebuildWatch_within (by decide)) s h
    cases b with
    | true => exact hu
    | false => rfl
  | alert => exact untaken_dependsOn.keeps alertWork_within (by decide) s h
  | message => exact untaken_dependsOn.keeps messageWork_within (by decide) s h
  | rotation => exact untaken_dependsOn.keeps rotationWork_within (by decide) s h
  | replay =>
    have htaken := consumeTake_idle h
    cases hcurrent : s.replay.current with
    | none =>
      rw [runTask, replayWork, htaken]
      dsimp only
      rw [hcurrent]
      exact h
    | some c =>
      rw [Untaken, runTask, replayWork_replay htaken hcurrent]
      exact h

/-! ### The alert state at a boundary -/

/-- R172, R173: the alert state after a boundary is the one that the Alert Unit's work leaves. -/
theorem sweepBoundary_alertState (order : List BoundaryTask) (hold : Bool) (s : State) :
    ∃ u v, Within aroundAlert s u ∧ Within aroundAlert (alertWork u) v ∧ sweepBoundary order hold s = boundaryEnded hold v
      ∧ (AirEmptied (alertWork u) → AirEmptied v) ∧ (ClipHeld (alertWork u) → ClipHeld v)
      ∧ (s.replay.take = false → u.replay.take = false) := by
  obtain ⟨before, after, hbefore, hafter, hrun⟩ := sweepBoundary_around .alert order hold s
  have hopened := (boundaryOpened_within s).mono (qs := aroundAlert) (by decide)
  refine ⟨_, _, hopened.trans (runTasks_within hbefore taskParts_aroundAlert _), runTasks_within hafter taskParts_aroundAlert _,
    hrun, fun h => runTasks_keep (fun t _ => runTask_airEmptied t) hafter _ h,
    fun h => runTasks_keep runTask_clipHeld hafter _ h,
    fun h => runTasks_keep (fun t _ => runTask_untaken t) hbefore _ (untaken_dependsOn.kept (boundaryOpened_within s) (by decide) h)⟩

/-! ### The frame that a boundary starts (R11, R23) -/

/-- R11: the state in which a boundary starts its frame. -/
def frameOpened (s : State) : State := { s with sweep.duty := s.brightness.effective, sweep.link := [], sweep.frame := .none }

section
variable {s : State} {h : ScreenHeader}

theorem startFrame_eq (s : State) : startFrame s =
    match s.sweep.header with
    | none => frameOpened s
    | some h => if alertOnAir (frameOpened s) then startAlertFrame h (frameOpened s) else startZoneFrame h (frameOpened s) :=
  rfl

theorem startFrame_none (hheader : s.sweep.header = none) : startFrame s = frameOpened s := by
  rw [startFrame_eq, hheader]

theorem startFrame_alert (hheader : s.sweep.header = some h) (halert : s.alert.state = .onAir) :
    startFrame s = startAlertFrame h (frameOpened s) := by
  rw [startFrame_eq, hheader]
  exact if_pos ((alertOnAir_iff (frameOpened s)).2 halert)

theorem startFrame_zones (hheader : s.sweep.header = some h) (halert : s.alert.state ≠ .onAir) :
    startFrame s = startZoneFrame h (frameOpened s) := by
  rw [startFrame_eq, hheader]
  exact if_neg (mt (alertOnAir_iff (frameOpened s)).1 halert)

theorem startZoneFrame_frame (h : ScreenHeader) (s : State) :
    (startZoneFrame h s).sweep.frame = .zones (planFrame s.pins.linkReady s) := by
  rw [startZoneFrame]
  split
  · next hready => rw [hready]; rfl
  · next hready =>
    rw [Bool.eq_false_iff.2 hready, raise_sweep]
    rfl

end

/-- The state in which a boundary starts its frame, after the units' work. -/
def boundaryPlanned (s : State) : State := setRate (startOnAir (exchangeFlips s))

theorem boundaryPlanned_within (s : State) : Within [.houses, .onAir, .rate] s (boundaryPlanned s) :=
  (((exchangeFlips_within s).mono (by decide)).andThen (startOnAir_within _) (by decide)).andThen (setRate_within _)
    (by decide)

theorem boundaryEnded_eq (hold : Bool) (s : State) :
    boundaryEnded hold s = boundaryCapture hold (startFrame (boundaryPlanned s)) := rfl

theorem boundaryEnded_frame (hold : Bool) (s : State) :
    (boundaryEnded hold s).sweep = (startFrame (boundaryPlanned s)).sweep := by
  cases hold <;> rfl

/-- Without an alert a boundary starts a zone frame. -/
theorem boundaryEnded_zones {v : State} {h : ScreenHeader} (hheader : v.sweep.header = some h)
    (halert : v.alert.state ≠ .onAir) (hold : Bool) : ∃ slots, (boundaryEnded hold v).sweep.frame = .zones slots := by
  have hplanned := boundaryPlanned_within v
  rw [boundaryEnded_frame, startFrame_zones (h := h) (Eq.trans (hplanned .header (by decide)) hheader)
    (by rw [show (boundaryPlanned v).alert.state = v.alert.state from hplanned .alertState (by decide)]; exact halert),
    startZoneFrame_frame]
  exact ⟨_, rfl⟩

theorem alertWork_engaging {s : State} (h : s.alert.state = .engaging) : alertWork s = alertEntry s := by
  rw [alertWork, h]

theorem alertWork_releasing {s : State} (h : s.alert.state = .releasing) :
    alertWork s = raise .alertCleared { s with alert := { s.alert with state := .quiet } } := by
  rw [alertWork, h]

theorem alertWork_onAir {s : State} (h : s.alert.state = .onAir) : alertWork s = s := by
  rw [alertWork, h]

/-! ### Under an alert -/

/-- What the units' work can change while the alert is ON_AIR. -/
abbrev onAirParts : List Part := layoutParts ++ replayParts ++ airParts

/-- R129, R141: while the alert is ON_AIR the ribbons hold, and the alert stays. -/
theorem runTasks_onAir (order : List BoundaryTask) {s : State} (h : s.alert.state = .onAir) :
    Within onAirParts s (runTasks order s) := by
  induction order generalizing s with
  | nil => exact .refl _ s
  | cons t order ih =>
    have hfirst : Within onAirParts s (runTask t s) := by
      cases t with
      | layout => exact (runTask_within .layout s).mono (by decide)
      | alert =>
        rw [runTask, alertWork_onAir h]
        exact .refl _ s
      | replay => exact (runTask_within .replay s).mono (by decide)
      | rotation =>
        rw [runTask, rotationWork, (alertOnAir_iff s).2 h]
        exact .refl _ s
      | message => exact (runTask_within .message s).mono (by decide)
    exact hfirst.trans (ih (Eq.trans (hfirst .alertState (by decide)) h))

/-- What the deadline of an alert slot can change. -/
abbrev alertSlotParts : List Part := [.frame, .port, .link, .receivers]

theorem closeAlert_frame (x : AlertSlot) (s : State) : ∃ y, (closeAlert x s).sweep.frame = .alert y := by
  rw [closeAlert]
  dsimp only
  split <;> exact ⟨_, rfl⟩

/-- R20, R23: the deadlines still to come of an alert frame. -/
theorem closeTimes_alert (n : Nat) {s : State} (h : s.sweep.frame = .none ∨ ∃ x, s.sweep.frame = .alert x) :
    Within alertSlotParts s (closeTimes n s) := by
  induction n generalizing s with
  | zero => exact .refl _ s
  | succ n ih =>
    rw [closeTimes, slotDeadline]
    rcases h with h | ⟨x, h⟩
    · rw [h]
      exact ih (.inl h)
    · rw [h]
      dsimp only
      split
      · exact ih (.inr ⟨x, h⟩)
      · exact (closeAlert_within x s).trans (ih (.inr (closeAlert_frame x s)))

/-- R23, R174: the single slot of an alert frame. -/
def alertSlotOf (h : ScreenHeader) (s : State) : AlertSlot :=
  { raster := alertRaster s.alert h, colour := s.alert.colour
    fetch := startFetch (if s.pins.linkReady then
      (match alertRaster s.alert h with | some a => rasterRun a h.width h.height | none => []) else [])
    sending := s.pins.linkReady, closed := false }

/-- R10, R23: the alert frame before its header is sent. -/
def alertFramed (h : ScreenHeader) (s : State) : State :=
  { allStale (chooseRaster h s) with sweep.frame := .alert (alertSlotOf h s) }

theorem startAlertFrame_eq (h : ScreenHeader) (s : State) : startAlertFrame h s =
    if s.pins.linkReady then sendItem (.header (frameHeader .alert h s)) (alertFramed h s)
    else raise .linkDown (alertFramed h s) := rfl

theorem alertFramed_stale (h : ScreenHeader) (s : State) : ∀ z ∈ (alertFramed h s).sweep.zones, z.receiver = .stale := by
  intro z hz
  obtain ⟨y, _, rfl⟩ := List.mem_map.1 hz
  rfl

/-- What an alert frame's start leaves but for the link. -/
theorem startAlertFrame_left (h : ScreenHeader) (s : State) :
    (startAlertFrame h s).sweep.frame = .alert (alertSlotOf h s)
      ∧ (startAlertFrame h s).alert = { s.alert with chosen := alertRaster s.alert h }
      ∧ ∀ z ∈ (startAlertFrame h s).sweep.zones, z.receiver = .stale := by
  rw [startAlertFrame_eq]
  split
  · exact ⟨rfl, rfl, alertFramed_stale h s⟩
  · rw [raise_sweep, raise_alert]
    exact ⟨rfl, rfl, alertFramed_stale h s⟩

theorem startAlertFrame_sent {s : State} (hready : s.pins.linkReady = true) (h : ScreenHeader) :
    (startAlertFrame h s).sweep.link = s.sweep.link ++ [.header (frameHeader .alert h s)] := by
  rw [startAlertFrame_eq, if_pos hready]
  rfl

theorem startAlertFrame_unsent {s : State} (hready : s.pins.linkReady = false) (h : ScreenHeader) :
    (startAlertFrame h s).sweep.link = s.sweep.link ∧ flagUp .linkDown (startAlertFrame h s) = true := by
  rw [startAlertFrame_eq, hready, if_neg Bool.false_ne_true, flagUp_raise, raise_sweep]
  exact ⟨rfl, rfl⟩

/-- R174: the raster chosen for a screen. -/
theorem alertRaster_iff (x : AlertUnit) (h : ScreenHeader) (a : Nat) : alertRaster x h = some a ↔
    (x.latch = true ∧ x.standing = some a ∧ a + h.width * h.height * 4 ≤ 0x400000000)
      ∨ (x.latch = false ∧ x.raised = some { raster := a, width := h.width, height := h.height }) := by
  rw [alertRaster]
  cases x.latch with
  | true =>
    rw [if_pos rfl]
    cases x.standing with
    | none => simp
    | some r =>
      have hfits : fits r (rasterBytes h.width h.height) = true ↔ r + h.width * h.height * 4 ≤ 0x400000000 := fits_iff _ _
      simp only [hfits, Option.ite_none_right_eq_some, Option.some.injEq, true_and, Bool.true_eq_false, false_and, or_false]
      exact ⟨fun ⟨hfit, heq⟩ => ⟨heq, heq ▸ hfit⟩, fun ⟨heq, hfit⟩ => ⟨heq ▸ hfit, heq⟩⟩
  | false =>
    rw [if_neg Bool.false_ne_true]
    cases x.raised with
    | none => simp
    | some r =>
      obtain ⟨raster, width, height⟩ := r
      simp only [Option.ite_none_right_eq_some, Option.some.injEq, Bool.false_eq_true, false_and, false_or, true_and,
        RaisedAlert.mk.injEq]
      exact ⟨fun ⟨⟨hw, hh⟩, hr⟩ => ⟨hr, hw, hh⟩, fun ⟨hr, hw, hh⟩ => ⟨⟨hw, hh⟩, hr⟩⟩

/-- R23: a raster's run, where it has a line. -/
theorem startFetch_raster {w h : Nat} (hlines : 16 ≤ w * h) (a : Nat) :
    startFetch (rasterRun a w h) = { runs := [{ addr := a, lines := w * h / 16 }], got := [] } := by
  have hsome : 0 < w * h / 16 := Nat.div_pos hlines (by decide)
  simp [startFetch, rasterRun, rasterLines, hsome]

theorem alertSlotOf_runs {h : ScreenHeader} (hlines : 16 ≤ h.width * h.height) (s : State) :
    (alertSlotOf h s).fetch.runs = match alertRaster s.alert h, s.pins.linkReady with
      | some a, true => [{ addr := a, lines := h.width * h.height / 16 }]
      | _, _ => [] := by
  rw [alertSlotOf]
  cases s.pins.linkReady with
  | false => cases alertRaster s.alert h <;> rfl
  | true =>
    cases alertRaster s.alert h with
    | none => rfl
    | some a => exact congrArg Fetch.runs (startFetch_raster hlines a)

/-- R1: the boundary that finds the alert ON_AIR, with no zone frame in progress, changes no ribbon, no exposure entry
and not the alert but for its raster. -/
theorem sweepBoundary_onAir {s : State} (h : s.alert.state = .onAir)
    (hframe : s.sweep.frame = .none ∨ ∃ x, s.sweep.frame = .alert x) (order : List BoundaryTask) (hold : Bool) :
    ∃ v, Within ([.number, .image, .lines, .captureDue] ++ alertSlotParts ++ onAirParts) s v
      ∧ sweepBoundary order hold s = boundaryEnded hold v := by
  have hdue := captureIfDue_within s
  have hframe' : (captureIfDue s).sweep.frame = s.sweep.frame := hdue .frame (by decide)
  have hopened : Within ([.number, .image, .lines, .captureDue] ++ alertSlotParts) s (boundaryOpened s) :=
    ((hdue.mono (by decide)).andThen (closeTimes_alert _ (hframe'.symm ▸ hframe)) (by decide)).andThen (nextNumber_within _)
      (by decide)
  have hon : (boundaryOpened s).alert.state = .onAir := Eq.trans (hopened .alertState (by decide)) h
  exact ⟨_, (hopened.mono (by decide)).andThen (runTasks_onAir _ hon) (by decide), sweepBoundary_eq order hold s⟩

/-- Settles O52. -/
theorem alertAtTheBoundary : Obligations.AlertAtTheBoundary := by
  refine ⟨fun s order hold hbypass => ?_, fun s order hold hbypass halert hframe => ?_⟩
  · obtain ⟨u, v, hu, hv, hrun, hair, hclip, htake⟩ := sweepBoundary_alertState order hold s
    have hended := boundaryEnded_within hold v
    have hstate : u.alert.state = s.alert.state := hu .alertState (by decide)
    have hleft : (boundaryEnded hold v).alert.state = (alertWork u).alert.state :=
      Eq.trans (hended .alertState (by decide)) (hv .alertState (by decide))
    have hflag (f : Flag) (h : flagUp f (alertWork u) = true) : flagUp f (boundaryEnded hold v) = true :=
      ((hended .cleared (by decide)).2 f).1 (((hv .cleared (by decide)).2 f).1 h)
    refine ⟨_, exec_sweepBoundary hbypass order hold, ?_, ?_, ?_, ?_, ?_⟩
    · have hwhole := sweepBoundary_within order hold s
      exact (congrArg State.alert hwhole.eq_merge).trans rfl
    · intro h
      rw [hrun, hleft, alertWork_quiet (hstate.trans h), hstate, h]
    · intro h
      rw [hrun, hleft, alertWork_onAir (hstate.trans h), hstate, h]
    · intro h
      have hwork := alertWork_engaging (hstate.trans h)
      obtain ⟨halert, hraised, hreplay, hoff, _⟩ := alertEntry_entered u
      have hon : (alertWork u).alert.state = .onAir := by rw [hwork, halert]
      have hemptied := hair ⟨hon, hwork ▸ hoff⟩
      rw [hrun]
      refine ⟨hleft.trans hon, hflag _ (hwork ▸ hraised), ?_, fun c huntaken hc => ?_⟩
      · rw [boundaryEnded_messages, startOnAir_messages, hemptied.2]
        rfl
      · have hheld : ClipHeld (alertWork u) := by
          have hclips := alertHolds_clip (htake huntaken)
          rw [ClipHeld, hwork, hreplay]
          exact hclips
        exact (hclip hheld).2 c (hc ▸ (hended .current (by decide)).symm)
    · intro h
      have hwork := alertWork_releasing (hstate.trans h)
      have hquiet : (alertWork u).alert.state = .quiet := by rw [hwork, raise_alert]
      rw [hrun]
      refine ⟨hleft.trans hquiet, hflag _ (by rw [hwork, flagUp_raise]; rfl), fun hd hheader => ?_⟩
      refine boundaryEnded_zones (h := hd) (Eq.trans (hended .header (by decide)).symm hheader) ?_ hold
      rw [show v.alert.state = (alertWork u).alert.state from hv .alertState (by decide), hquiet]
      exact AlertState.noConfusion
  · obtain ⟨v, hv, hrun⟩ := sweepBoundary_onAir halert hframe order hold
    have hwhole := (hv.mono (qs := [.number] ++ alertSlotParts ++ onAirParts ++ endedParts) (by decide)).andThen
      (boundaryEnded_within hold v) (by decide)
    have hsweep := boundaryEnded_frame hold v
    have hunit : (boundaryEnded hold v).alert = (startFrame (boundaryPlanned v)).alert := by cases hold <;> rfl
    have hkept : (boundaryPlanned v).alert = s.alert :=
      (congrArg State.alert ((hv.mono (qs := [.number, .rate, .image, .lines, .captureDue] ++ alertSlotParts ++ onAirParts)
        (by decide)).andThen (boundaryPlanned_within v) (by decide)).eq_merge).trans rfl
    have hframed := startFrame_within (boundaryPlanned v)
    have hheaders : (boundaryEnded hold v).sweep.header = (boundaryPlanned v).sweep.header := by
      rw [hsweep]
      exact hframed .header (by decide)
    rw [exec_sweepBoundary hbypass, hrun]
    refine ⟨_, rfl, ?_, ?_, ?_, fun hnone => ?_, fun h hsome => ?_⟩
    · rw [hunit]
      exact (congrArg State.alert hframed.eq_merge).trans (by rw [← hkept]; rfl)
    · exact (congrArg State.rotation hwhole.eq_merge).trans rfl
    · exact (congrArg State.exposure hwhole.eq_merge).trans rfl
    · rw [hsweep, hunit, startFrame_none (hheaders.symm.trans hnone), ← hkept]
      exact ⟨rfl, rfl⟩
    · have hrow := startFrame_alert (hheaders.symm.trans hsome) (by rw [hkept]; exact halert)
      obtain ⟨hslot, hraster, hstale⟩ := startAlertFrame_left h (frameOpened (boundaryPlanned v))
      have hchosen : (boundaryEnded hold v).alert = { s.alert with chosen := alertRaster s.alert h } := by
        rw [hunit, hrow, hraster, ← hkept]
        rfl
      have hpins : (boundaryEnded hold v).pins = (boundaryPlanned v).pins := by
        rw [show (boundaryEnded hold v).pins = (startFrame (boundaryPlanned v)).pins by cases hold <;> rfl]
        exact hframed .pins (by decide)
      have hduty : (boundaryEnded hold v).brightness.effective = (boundaryPlanned v).brightness.effective := by
        rw [show (boundaryEnded hold v).brightness = (startFrame (boundaryPlanned v)).brightness by cases hold <;> rfl]
        exact hframed .effective (by decide)
      have hnumber : (boundaryEnded hold v).sweep.number = (boundaryPlanned v).sweep.number := by
        rw [hsweep]
        exact hframed .number (by decide)
      rw [hchosen, hpins, hduty, hnumber]
      have hw : (frameOpened (boundaryPlanned v)).alert = s.alert := hkept
      refine ⟨alertSlotOf h (frameOpened (boundaryPlanned v)), by rw [hsweep, hrow, hslot], by rw [alertSlotOf, hw],
        by rw [alertSlotOf, hw], rfl, rfl, ?_, fun hlines => ?_, by rw [hsweep, hrow]; exact hstale,
        alertRaster_iff s.alert h, fun hready => ?_, fun hready => ?_⟩
      · rw [alertSlotOf, startFetch]
      · have hruns := alertSlotOf_runs hlines (frameOpened (boundaryPlanned v))
        rw [hw] at hruns
        exact hruns
      · obtain ⟨hlink, hdown⟩ := startAlertFrame_unsent (s := frameOpened (boundaryPlanned v)) hready h
        refine ⟨?_, by rw [hsweep, hrow, hlink]; rfl⟩
        rw [show flagUp .linkDown (boundaryEnded hold v) = flagUp .linkDown (startFrame (boundaryPlanned v)) by
          cases hold <;> rfl, hrow, hdown]
      · rw [hsweep, hrow, startAlertFrame_sent (s := frameOpened (boundaryPlanned v)) hready]
        rfl

end Sys2Proof.Proofs
end

section
/-! PROOFS. The frame plan of a boundary (R11 to R16, R21, R94, R161, R162). -/

namespace Sys2Proof.Proofs

open Sys2Proof.Machine Sys2Proof.Safety

/-! ### What the plan reads -/

/-- The parts of the state that say what the zones show. -/
abbrev contentParts : List Part := [.current, .ribbon .a, .ribbon .b, .glyphs, .strings, .onAir, .houses]

section
variable {ps : List Part} {s t : State}

theorem zoneContent_within (h : Within ps s t) (apart : meets contentParts ps = false) (z : ZoneRec) :
    zoneContent t z = zoneContent s z := by
  have hsame (p : Part) (hp : p ∈ contentParts) : p.Same s t := h p fun hin =>
    Bool.false_ne_true (apart.symm.trans (List.any_eq_true.2 ⟨p, hp, decide_eq_true hin⟩))
  have hcurrent : t.replay.current = s.replay.current := hsame .current (by decide)
  have hribbon (id : RibbonId) : ribbonOf id t = ribbonOf id s := hsame (.ribbon id) (by cases id <;> decide)
  have hglyphs : t.figures.glyphs = s.figures.glyphs := hsame .glyphs (by decide)
  have hstrings : t.figures.strings = s.figures.strings := hsame .strings (by decide)
  have hair : t.messages.onAir = s.messages.onAir := hsame .onAir (by decide)
  have hhouses : t.path.houses = s.path.houses := hsame .houses (by decide)
  simp only [zoneContent, hcurrent, hribbon, hglyphs, hstrings, hair, findHouse, hhouses]

theorem zoneShape_within (h : Within ps s t) (apart : meets contentParts ps = false) (z : ZoneRec) :
    zoneShape t z = zoneShape s z := by
  have hsame (p : Part) (hp : p ∈ contentParts) : p.Same s t := h p fun hin =>
    Bool.false_ne_true (apart.symm.trans (List.any_eq_true.2 ⟨p, hp, decide_eq_true hin⟩))
  have hglyphs : t.figures.glyphs = s.figures.glyphs := hsame .glyphs (by decide)
  have hair : t.messages.onAir = s.messages.onAir := hsame .onAir (by decide)
  simp only [zoneShape, hglyphs, hair]

theorem zoneRuns_within (h : Within ps s t) (apart : meets contentParts ps = false) (z : ZoneRec) :
    zoneRuns t z = zoneRuns s z := by
  have hsame (p : Part) (hp : p ∈ contentParts) : p.Same s t := h p fun hin =>
    Bool.false_ne_true (apart.symm.trans (List.any_eq_true.2 ⟨p, hp, decide_eq_true hin⟩))
  have hglyphs : t.figures.glyphs = s.figures.glyphs := hsame .glyphs (by decide)
  have hair : t.messages.onAir = s.messages.onAir := hsame .onAir (by decide)
  simp only [zoneRuns, zoneContent_within h apart, zoneShape_within h apart, hglyphs, hair]

theorem planSlot_within (h : Within ps s t) (apart : meets contentParts ps = false) (sent : Bool) (plan : List ZoneRec)
    (z : Zone) : planSlot sent t plan z = planSlot sent s plan z := by
  have hactive : zoneActive t = zoneActive s := funext fun z => congrArg Option.isSome (zoneContent_within h apart z)
  have hident : zoneIdent t = zoneIdent s := funext fun z => by rw [zoneIdent, zoneIdent, zoneContent_within h apart]
  have hshape : zoneShape t = zoneShape s := funext (zoneShape_within h apart)
  have hruns : zoneRuns t = zoneRuns s := funext (zoneRuns_within h apart)
  unfold planSlot settleSlot
  rw [hactive, hident, hshape, hruns]

end

/-! ### The plan of the frame that a boundary leaves -/

theorem enabledZones_stale (s : State) :
    enabledZones (allStale s) = (enabledZones s).map (fun z => { z with receiver := .stale }) := by
  rw [enabledZones, enabledZones, List.map_filterMap]
  refine List.filterMap_congr fun id _ => ?_
  show List.find? _ (s.sweep.zones.map _) = _
  rw [List.find?_map]
  rfl

/-- R21: a plan that is not sent does not read what the receivers hold. -/
theorem planFrame_unsent (s : State) : planFrame false (allStale s) = planFrame false s := by
  have hsources : Within [.holds] s (allStale s) := allStale_within s
  simp only [planFrame]
  rw [enabledZones_stale, List.map_map, List.map_map]
  refine List.map_congr_left fun z _ => ?_
  exact (planSlot_within hsources (by decide) false _ _).trans rfl

theorem planFrame_within {ps : List Part} {s t : State} (h : Within ps s t) (apart : meets contentParts ps = false)
    (hzones : t.sweep.zones = s.sweep.zones) (sent : Bool) : planFrame sent t = planFrame sent s := by
  have henabled : enabledZones t = enabledZones s := by rw [enabledZones, enabledZones, hzones]
  simp only [planFrame, henabled]
  exact List.map_congr_left fun z _ => planSlot_within h apart sent _ z

/-! ### The slots' zones -/

theorem mem_enabledZones {s : State} {z : Zone} (h : z ∈ enabledZones s) :
    z ∈ s.sweep.zones ∧ z.cfg.enabled = true ∧ z.cfg.id < 24 := by
  obtain ⟨id, hid, hfind⟩ := List.mem_filterMap.1 h
  have hpicked := List.find?_some hfind
  rw [Bool.and_eq_true, beq_iff_eq] at hpicked
  exact ⟨List.mem_of_find?_eq_some hfind, hpicked.2, hpicked.1 ▸ List.mem_range.1 hid⟩

theorem mem_enabledZones_iff {s : State} (hdistinct : s.sweep.zones.Pairwise (fun a b => a.cfg.id ≠ b.cfg.id)) {z : Zone}
    (hz : z ∈ s.sweep.zones) : z ∈ enabledZones s ↔ z.cfg.enabled = true ∧ z.cfg.id < 24 :=
  ⟨fun h => (mem_enabledZones h).2, fun ⟨henabled, hid⟩ =>
    List.mem_filterMap.2 ⟨z.cfg.id, List.mem_range.2 hid, find_enabled hdistinct hz henabled⟩⟩

/-- R12: the enabled zones stand in rising order of zone ID. -/
theorem enabledZones_rising (s : State) : (enabledZones s).Pairwise (fun a b => a.cfg.id < b.cfg.id) := by
  rw [enabledZones]
  refine List.pairwise_lt_range.filterMap _ fun i j hij a ha b hb => ?_
  have hi := List.find?_some ha
  have hj := List.find?_some hb
  rw [Bool.and_eq_true, beq_iff_eq] at hi hj
  rw [hi.1, hj.1]
  exact hij

theorem mem_planFrame {sent : Bool} {s : State} {x : Slot} (h : x ∈ planFrame sent s) :
    ∃ z ∈ enabledZones s, x = planSlot sent s ((enabledZones s).map (·.cfg)) z := by
  obtain ⟨z, hz, rfl⟩ := List.mem_map.1 h
  exact ⟨z, hz, rfl⟩

/-! ### The frame -/

/-- A zone frame's start leaves the plan of the state that it leaves. -/
theorem startZoneFrame_planned (h : ScreenHeader) (s : State) :
    (startZoneFrame h s).sweep.frame = .zones (planFrame s.pins.linkReady (startZoneFrame h s)) := by
  rw [startZoneFrame_frame]
  cases hready : s.pins.linkReady with
  | true =>
    have hframe : startZoneFrame h s = sendItem (.header (frameHeader .zones h s))
        { s with sweep.frame := .zones (planFrame true s) } := if_pos hready
    rw [hframe]
    have hframed : Within [.frame, .link, .receivers] s { s with sweep.frame := .zones (planFrame true s) } := .of_merge rfl
    exact congrArg Frame.zones
      (planFrame_within (hframed.andThen (sendItem_within _ _) (by decide)) (by decide) rfl true).symm
  | false =>
    have hframe : startZoneFrame h s
        = raise .linkDown (allStale { s with sweep.frame := .zones (planFrame false s) }) :=
      if_neg (by rw [hready]; exact Bool.false_ne_true)
    rw [hframe, planFrame_within (raise_within .linkDown _) (by decide) (by rw [raise_sweep]), planFrame_unsent]
    have hframed : Within [.frame] s { s with sweep.frame := .zones (planFrame false s) } := .of_merge rfl
    exact congrArg Frame.zones (planFrame_within hframed (by decide) rfl false).symm

/-- R20, R21: the frame header on the link, or the link's loss. -/
theorem startZoneFrame_sent {s : State} (hready : s.pins.linkReady = true) (h : ScreenHeader) :
    (startZoneFrame h s).sweep.link = s.sweep.link ++ [.header (frameHeader .zones h s)]
      ∧ (startZoneFrame h s).receivers
        = { s.receivers with header := some (frameHeader .zones h s), seen := [], alert := none } := by
  rw [startZoneFrame, if_pos hready]
  exact ⟨rfl, rfl⟩

theorem startZoneFrame_unsent {s : State} (hready : s.pins.linkReady = false) (h : ScreenHeader) :
    (startZoneFrame h s).sweep.link = s.sweep.link ∧ flagUp .linkDown (startZoneFrame h s) = true
      ∧ ∀ z ∈ (startZoneFrame h s).sweep.zones, z.receiver = .stale := by
  rw [startZoneFrame, hready, if_neg Bool.false_ne_true, raise_sweep, flagUp_raise]
  refine ⟨rfl, rfl, fun z hz => ?_⟩
  obtain ⟨y, _, rfl⟩ := List.mem_map.1 hz
  rfl

/-! ### Activity (R12) -/

section
variable {s : State} {z : ZoneRec}

theorem zoneActive_figure {f : Figure} (h : z.role = .figure f) : zoneActive s z = true ↔ s.figures.glyphs ≠ none := by
  rw [zoneActive, zoneContent, h]
  dsimp only
  rw [Option.isSome_map, Option.isSome_iff_ne_none]

theorem zoneActive_message (h : z.role = .message) : zoneActive s z = true ↔ s.messages.onAir ≠ none := by
  rw [zoneActive, zoneContent, h]
  dsimp only
  rw [Option.isSome_map, Option.isSome_iff_ne_none]

theorem clipActive_iff (c : Clip) : clipActive c = true
    ↔ ¬ (c.state = .ended ∧ c.endedDark = true) ∧ (c.growing = true → (c.index : Int) ≤ c.mark) := by
  rw [clipActive, Bool.and_eq_true, Bool.not_eq_true', Bool.and_eq_false_iff, Bool.or_eq_true, beq_eq_false_iff_ne,
    decide_eq_true_iff, not_and_or, Bool.not_eq_true, Bool.not_eq_true', ← Bool.not_eq_true c.growing,
    ← imp_iff_not_or, ← imp_iff_not_or]

theorem zoneActive_replay (h : z.role = .replay) : zoneActive s z = true ↔ ∃ c, s.replay.current = some c
    ∧ ¬ (c.state = .ended ∧ c.endedDark = true) ∧ (c.growing = true → (c.index : Int) ≤ c.mark) := by
  rw [zoneActive, zoneContent, h]
  cases s.replay.current with
  | none => simp
  | some c =>
    dsimp only
    simp only [Option.some.injEq, exists_eq_left', ← clipActive_iff]
    cases clipActive c <;> simp

theorem zoneActive_sponsor {r : RibbonId} (h : z.role = .sponsor r) (hentry : (ribbonOf r s).entry ≠ .none)
    (hlist : (ribbonOf r s).committed ≠ none) :
    zoneActive s z = true ↔ (ribbonOf r s).state = .on ∨ (ribbonOf r s).state = .stopping := by
  obtain ⟨l, hl⟩ := Option.ne_none_iff_exists'.1 hlist
  rw [zoneActive, zoneContent, h]
  dsimp only
  by_cases hstate : (ribbonOf r s).state = .on ∨ (ribbonOf r s).state = .stopping
  · rw [ribbonContent_on hl hstate]
    refine iff_of_true ?_ hstate
    split
    · split <;> rfl
    · rfl
    · next hnone => exact (hentry hnone).elim
  · rw [ribbonContent_none (.inr hstate)]
    exact iff_of_false Bool.false_ne_true hstate

theorem zoneActive_house {a b i : Nat} (h : z.role = .house a b i) : zoneActive s z = true
    ↔ ∃ x, s.path.houses.find? (fun x => x.zone == z.id) = some x ∧ x.stale = false := by
  rw [zoneActive, zoneContent, h]
  dsimp only
  rw [findHouse]
  cases s.path.houses.find? (fun x => x.zone == z.id) with
  | none => simp
  | some x => cases hstale : x.stale <;> simp [hstale]

/-! ### Content identity (R14) -/

theorem zoneContent_replay (h : z.role = .replay) {k : Clip} (hk : s.replay.current = some k) {c : Content}
    (hc : zoneContent s z = some c) : c = .clipFrame k.id k.angle k.index (k.bases.getD k.angle 0 + k.index * k.stride) := by
  rw [zoneContent, h, hk] at hc
  dsimp only at hc
  split at hc
  · exact (Option.some.inj hc).symm
  · cases hc

theorem zoneContent_sponsor {r : RibbonId} (h : z.role = .sponsor r) {l : SlotList}
    (hlist : (ribbonOf r s).committed = some l) {c : Content} (hc : zoneContent s z = some c) :
    ((ribbonOf r s).entry = .house → c = .houseMark l.house)
      ∧ ∀ n y, (ribbonOf r s).entry = .slot n → l.slots[n]? = some y →
          c = match y.content with
            | .sponsor id duty a => .sponsorSlot n id duty a
            | .skip => .houseMark l.house := by
  rw [zoneContent, h] at hc
  dsimp only at hc
  by_cases hstate : (ribbonOf r s).state = .on ∨ (ribbonOf r s).state = .stopping
  · rw [ribbonContent_on hlist hstate] at hc
    refine ⟨fun hentry => ?_, fun n y hentry hy => ?_⟩
    · rw [hentry] at hc
      exact (Option.some.inj hc).symm
    · rw [hentry] at hc
      dsimp only at hc
      rw [hy] at hc
      obtain ⟨content, phases, dwell⟩ := y
      cases content <;> exact (Option.some.inj hc).symm
  · rw [ribbonContent_none (.inr hstate)] at hc
    cases hc

theorem zoneContent_figure {f : Figure} (h : z.role = .figure f) {c : Content} (hc : zoneContent s z = some c) :
    c = .figureString (figureString s.figures.strings f) := by
  rw [zoneContent, h] at hc
  obtain ⟨_, _, rfl⟩ := Option.map_eq_some_iff.1 hc
  rfl

theorem zoneContent_message {o : OnAir} (h : z.role = .message) (ho : s.messages.onAir = some o) {c : Content}
    (hc : zoneContent s z = some c) :
    c = .message o.msg.id o.msg.sponsor o.msg.addr (match o.showing with | .crawl k => k | _ => 0) := by
  rw [zoneContent, h, ho] at hc
  exact (Option.some.inj hc).symm

theorem zoneContent_buffer {a b i : Nat} {x : House} (h : z.role = .house a b i)
    (hx : s.path.houses.find? (fun x => x.zone == z.id) = some x) {c : Content} (hc : zoneContent s z = some c) :
    c = .houseBuffer (match x.onAir with | .a => x.bufA | .b => x.bufB) := by
  rw [zoneContent, h] at hc
  dsimp only at hc
  rw [findHouse, hx] at hc
  dsimp only at hc
  split at hc
  · cases hc
  · exact (Option.some.inj hc).symm

end

/-! ### Shape and runs (R16, R94, R161, R162) -/

section
variable {s : State} {z : ZoneRec}

theorem zoneShape_figure {f : Figure} {g : GlyphSet} (h : z.role = .figure f) (hg : s.figures.glyphs = some g) :
    zoneShape s z = .cells (cellCount f) g.cellWidth g.cellHeight := by
  rw [zoneShape, h]
  dsimp only
  rw [hg]

theorem zoneShape_message {o : OnAir} (h : z.role = .message) (ho : s.messages.onAir = some o) :
    zoneShape s z = messageShape o.msg o.showing z.w := by
  rw [zoneShape, h]
  dsimp only
  rw [ho]

theorem messageShape_still {m : Message} {d : Nat} (h : m.mode = .still d) (w : Showing) (width : Nat) :
    messageShape m w width = .window 0 (min m.width width - 1) 0 := by
  rw [messageShape, h]

theorem messageShape_crawl {m : Message} {v : Nat} (h : m.mode = .crawl v) (k width : Nat) :
    messageShape m (.crawl k) width = if k = 0 ∨ m.width + width ≤ k then .blank
      else .window (k - width) (min m.width k - 1) (width - k) := by
  rw [messageShape, h]
  rfl

theorem zoneShape_whole (hfigure : ∀ f, z.role ≠ .figure f) (hmessage : z.role ≠ .message) : zoneShape s z = .whole := by
  rw [zoneShape]
  split
  · next f hf => exact (hfigure f hf).elim
  · next hm => exact (hmessage hm).elim
  · rfl

/-- A zone-sized raster is one run. -/
theorem zoneRuns_raster {a : Nat} {c : Content} (hc : zoneContent s z = some c) (hlines : 16 ≤ z.w * z.h)
    (hraster : (∃ id angle index, c = .clipFrame id angle index a) ∨ (∃ n id duty, c = .sponsorSlot n id duty a)
      ∨ c = .houseMark a ∨ c = .houseBuffer a) :
    (startFetch (zoneRuns s z)).runs = [{ addr := a, lines := z.w * z.h / 16 }] := by
  have hruns : zoneRuns s z = rasterRun a z.w z.h := by
    rw [zoneRuns, hc]
    rcases hraster with ⟨_, _, _, rfl⟩ | ⟨_, _, _, rfl⟩ | rfl | rfl <;> rfl
  rw [hruns, startFetch_raster hlines]

theorem startFetch_full {runs : List Run} (h : ∀ r ∈ runs, 0 < r.lines) : (startFetch runs).runs = runs :=
  List.filter_eq_self.2 fun r hr => decide_eq_true (h r hr)

/-- R94: one run for each cell. -/
theorem zoneRuns_figure {f : Figure} {g : GlyphSet} (h : z.role = .figure f) (hg : s.figures.glyphs = some g)
    (hlines : 16 ≤ g.cellWidth * g.cellHeight) :
    (startFetch (zoneRuns s z)).runs = (figureString s.figures.strings f).map (fun y =>
      { addr := g.addrs.getD
          (match y with
            | .digit d => d.val | .colon => 10 | .dot => 11 | .blank => 12 | .letterO => 13
            | .letterT => 14 | .dash => 15) 0
        lines := g.cellWidth * g.cellHeight / 16 }) := by
  have hcontent : zoneContent s z = some (.figureString (figureString s.figures.strings f)) := by
    rw [zoneContent, h, hg]
    rfl
  have hruns : zoneRuns s z = glyphRuns g (figureString s.figures.strings f) := by
    rw [zoneRuns, hcontent]
    dsimp only
    rw [hg]
  rw [hruns, startFetch_full]
  · refine List.map_congr_left fun y _ => ?_
    cases y <;> rfl
  · intro r hr
    obtain ⟨y, _, rfl⟩ := List.mem_map.1 hr
    exact Nat.div_pos hlines (by decide)

theorem messageRuns_lines (m : Message) (shape : Shape) (h : Nat) : ∀ r ∈ messageRuns m shape h, 0 < r.lines := by
  cases shape with
  | window first last start =>
    intro r hr
    obtain ⟨y, _, rfl⟩ := List.mem_map.1 hr
    exact Nat.succ_pos _
  | _ => exact List.forall_mem_nil _

theorem zoneRuns_message {o : OnAir} (h : z.role = .message) (ho : s.messages.onAir = some o) :
    (startFetch (zoneRuns s z)).runs = messageRuns o.msg (messageShape o.msg o.showing z.w) z.h := by
  have hcontent : zoneContent s z
      = some (.message o.msg.id o.msg.sponsor o.msg.addr (crawlOffset o.showing)) := by
    rw [zoneContent, h, ho]
    rfl
  have hruns : zoneRuns s z = messageRuns o.msg (messageShape o.msg o.showing z.w) z.h := by
    rw [zoneRuns, hcontent]
    dsimp only
    rw [ho, zoneShape_message h ho]
  rw [hruns]
  exact startFetch_full (messageRuns_lines _ _ _)

end

/-! ### Visibility and settlement (R13, R15, R21) -/

section
variable {s : State} {z : Zone} {plan : List ZoneRec} {sent : Bool}

theorem planSlot_visible (sent : Bool) (s : State) (x : Slot) (hx : x ∈ planFrame sent s) : x.visible = true
    ↔ x.active = true ∧ ∀ y ∈ planFrame sent s, y.active = true → x.zone.layer < y.zone.layer →
        intersects y.zone x.zone = false := by
  obtain ⟨z, _, rfl⟩ := mem_planFrame hx
  show (zoneActive s z.cfg && !hidden ((enabledZones s).map (·.cfg)) (zoneActive s) z.cfg) = true ↔ _
  rw [Bool.and_eq_true, Bool.not_eq_true', Machine.hidden, List.any_eq_false]
  refine and_congr_right fun _ => ⟨fun h y hy hactive hlayer => ?_, fun h o ho => ?_⟩
  · obtain ⟨u, hu, rfl⟩ := mem_planFrame hy
    have hclear := h u.cfg (List.mem_map_of_mem hu)
    rw [Bool.and_eq_true, Bool.and_eq_true, decide_eq_true_iff, not_and, Bool.not_eq_true] at hclear
    exact hclear ⟨hactive, hlayer⟩
  · obtain ⟨u, hu, rfl⟩ := List.mem_map.1 ho
    rw [Bool.and_eq_true, Bool.and_eq_true, decide_eq_true_iff, not_and, Bool.not_eq_true]
    exact fun ⟨hactive, hlayer⟩ => h (planSlot sent s _ u) (List.mem_map_of_mem hu) hactive hlayer

theorem settleSlot_unsent (s : State) (z : Zone) : settleSlot false s z = .unsent := rfl

theorem settleSlot_dark (h : zoneActive s z.cfg = false) : settleSlot true s z = .dark := by
  rw [settleSlot, h]
  rfl

theorem settleSlot_held (h : zoneActive s z.cfg = true)
    (hheld : z.receiver = .holdsCurrent ∧ z.epoch = z.lastEpoch ∧ z.lastIdent = some (zoneIdent s z.cfg)) :
    settleSlot true s z = .held := by
  rw [settleSlot, h]
  exact if_pos hheld

theorem settleSlot_toFetch (h : zoneActive s z.cfg = true)
    (hnot : ¬ (z.receiver = .holdsCurrent ∧ z.epoch = z.lastEpoch ∧ z.lastIdent = some (zoneIdent s z.cfg))) :
    settleSlot true s z = .toFetch := by
  rw [settleSlot, h]
  exact if_neg hnot

theorem planSlot_noRuns (h : (planSlot sent s plan z).settlement ≠ .toFetch) : (planSlot sent s plan z).fetch.runs = [] := by
  have hnone : (planSlot sent s plan z).fetch = startFetch [] := congrArg startFetch (if_neg h)
  rw [hnone]
  rfl

theorem planSlot_runs (h : (planSlot sent s plan z).settlement = .toFetch) :
    (planSlot sent s plan z).fetch.runs = (startFetch (zoneRuns s z.cfg)).runs := by
  have hruns : (planSlot sent s plan z).fetch = startFetch (zoneRuns s z.cfg) := congrArg startFetch (if_pos h)
  rw [hruns]

theorem planSlot_ident_dark (h : (planSlot sent s plan z).active = false) : (planSlot sent s plan z).ident = .dark := by
  have hnone : zoneContent s z.cfg = none := Option.not_isSome_iff_eq_none.1 (ne_true_of_eq_false h)
  show zoneIdent s z.cfg = _
  rw [zoneIdent, hnone]

theorem planSlot_ident_shown (h : (planSlot sent s plan z).active = true) : ∃ c, zoneContent s z.cfg = some c
    ∧ (planSlot sent s plan z).ident = .shown z.cfg.layer z.cfg.role c := by
  obtain ⟨c, hc⟩ := Option.isSome_iff_exists.1 h
  refine ⟨c, hc, ?_⟩
  show zoneIdent s z.cfg = _
  rw [zoneIdent, hc]

end

/-! ### The boundary -/

/-- R11: a boundary that leaves a header and no alert on air leaves the plan of its own state. -/
theorem boundaryEnded_planned {v : State} {h : ScreenHeader} (hold : Bool)
    (hheader : (boundaryEnded hold v).sweep.header = some h) (halert : (boundaryEnded hold v).alert.state ≠ .onAir) :
    (boundaryEnded hold v).sweep.frame
        = .zones (planFrame (boundaryEnded hold v).pins.linkReady (boundaryEnded hold v))
      ∧ ∃ w, boundaryEnded hold v = boundaryCapture hold (startZoneFrame h (frameOpened w)) := by
  have hframed := startFrame_within (boundaryPlanned v)
  have hcaptured := boundaryCapture_within hold (startFrame (boundaryPlanned v))
  have hrow : startFrame (boundaryPlanned v) = startZoneFrame h (frameOpened (boundaryPlanned v)) := by
    refine startFrame_zones ?_ ?_
    · rw [← show (startFrame (boundaryPlanned v)).sweep.header = (boundaryPlanned v).sweep.header from
        hframed .header (by decide), ← boundaryEnded_frame hold, hheader]
    · rw [← show (startFrame (boundaryPlanned v)).alert.state = (boundaryPlanned v).alert.state from
        hframed .alertState (by decide)]
      cases hold <;> exact halert
  refine ⟨?_, boundaryPlanned v, by rw [boundaryEnded_eq, hrow]⟩
  have hpins : (boundaryEnded hold v).pins.linkReady = (frameOpened (boundaryPlanned v)).pins.linkReady := by
    rw [show (boundaryEnded hold v).pins = (startFrame (boundaryPlanned v)).pins from hcaptured .pins (by decide),
      show (startFrame (boundaryPlanned v)).pins = (boundaryPlanned v).pins from hframed .pins (by decide)]
    rfl
  rw [boundaryEnded_frame, hrow, startZoneFrame_planned, hpins, boundaryEnded_eq, hrow]
  exact congrArg Frame.zones (planFrame_within (boundaryCapture_within hold _) (by decide) (by cases hold <;> rfl) _).symm

/-- R7, R14, R16, R94, R162: what a slot of the plan that is to be fetched fetches. -/
theorem planSlot_fetches {s : State} {z : Zone} {plan : List ZoneRec} {sent : Bool} {c : Content}
    (hc : zoneContent s z.cfg = some c) (h : (planSlot sent s plan z).settlement = .toFetch) :
    (∀ a, 16 ≤ z.cfg.w * z.cfg.h →
        (∃ id angle index, c = .clipFrame id angle index a) ∨ (∃ n id duty, c = .sponsorSlot n id duty a)
          ∨ c = .houseMark a ∨ c = .houseBuffer a →
        (planSlot sent s plan z).fetch.runs = [{ addr := a, lines := z.cfg.w * z.cfg.h / 16 }])
      ∧ ∀ o, z.cfg.role = .message → s.messages.onAir = some o →
        (∀ d, o.msg.mode = .still d →
          (planSlot sent s plan z).fetch.runs = messageRuns o.msg (.window 0 (min o.msg.width z.cfg.w - 1) 0) z.cfg.h)
        ∧ ∀ v k, o.msg.mode = .crawl v → o.showing = .crawl k →
          (k = 0 ∨ o.msg.width + z.cfg.w ≤ k → (planSlot sent s plan z).fetch.runs = [])
          ∧ (0 < k → k < o.msg.width + z.cfg.w → (planSlot sent s plan z).fetch.runs
            = messageRuns o.msg (.window (k - z.cfg.w) (min o.msg.width k - 1) (z.cfg.w - k)) z.cfg.h) := by
  rw [planSlot_runs h]
  refine ⟨fun a hlines hraster => zoneRuns_raster hc hlines hraster, fun o hmessage ho => ?_⟩
  rw [zoneRuns_message hmessage ho]
  refine ⟨fun d hd => by rw [messageShape_still hd], fun v k hv hk => ?_⟩
  rw [hk, messageShape_crawl hv]
  refine ⟨fun hblank => by rw [if_pos hblank]; rfl, fun hstarted hpasses => ?_⟩
  rw [if_neg fun hblank => hblank.elim (Nat.ne_of_gt hstarted) (Nat.not_le.2 hpasses)]

/-- Settles O32. -/
theorem framePlanIsOrderedAndVisible : Obligations.FramePlanIsOrderedAndVisible := by
  intro s order hold hbypass
  rw [exec_sweepBoundary hbypass, sweepBoundary_eq]
  generalize runTasks (taskOrder order) (boundaryOpened s) = v
  refine ⟨boundaryEnded hold v, rfl, fun hnone => ?_, fun hsome halert => ?_⟩
  · have hframed := startFrame_within (boundaryPlanned v)
    have hheader : (boundaryPlanned v).sweep.header = none := by
      rw [← show (startFrame (boundaryPlanned v)).sweep.header = (boundaryPlanned v).sweep.header from
        hframed .header (by decide), ← boundaryEnded_frame hold, hnone]
    rw [boundaryEnded_frame, startFrame_none hheader]
    exact ⟨rfl, rfl⟩
  · obtain ⟨h, hheader⟩ := Option.ne_none_iff_exists'.1 hsome
    obtain ⟨hframe, w, hrow⟩ := boundaryEnded_planned hold hheader halert
    have hsweep : (boundaryEnded hold v).sweep = (startZoneFrame h (frameOpened w)).sweep := by
      rw [hrow]
      cases hold <;> rfl
    have hpins : (boundaryEnded hold v).pins = (frameOpened w).pins := by
      rw [hrow, show (boundaryCapture hold (startZoneFrame h (frameOpened w))).pins = (startZoneFrame h (frameOpened w)).pins
        from boundaryCapture_within hold _ .pins (by decide)]
      exact startZoneFrame_within h _ .pins (by decide)
    refine ⟨_, hframe, ?_, ?_, ?_, ?_, ?_, fun x hx => ?_⟩
    · exact List.pairwise_map.2 (enabledZones_rising _)
    · intro hdistinct z hz
      rw [← mem_enabledZones_iff hdistinct hz]
      refine ⟨fun hin => ⟨_, List.mem_map_of_mem hin, rfl⟩, fun ⟨x, hx, hzone⟩ => ?_⟩
      obtain ⟨y, hy, rfl⟩ := mem_planFrame hx
      have hlisted := mem_enabledZones hy
      exact (mem_enabledZones_iff hdistinct hz).2 ((show y.cfg = z.cfg from hzone) ▸ hlisted.2)
    · intro x hx
      obtain ⟨y, hy, rfl⟩ := mem_planFrame hx
      obtain ⟨hin, henabled, hid⟩ := mem_enabledZones hy
      exact ⟨henabled, hid, y, hin, rfl⟩
    · intro hlow
      rw [hpins] at hlow
      obtain ⟨hlink, hdown, hstale⟩ := startZoneFrame_unsent hlow h
      refine ⟨?_, by rw [hsweep, hlink]; rfl, by rw [hsweep]; exact hstale⟩
      rw [hrow]
      cases hold <;> exact hdown
    · intro hready h' hh' sent
      cases hheader.symm.trans hh'
      rw [hpins] at hready
      obtain ⟨hlink, hcards⟩ := startZoneFrame_sent hready h
      have hleft := (startZoneFrame_within h (frameOpened w)).mono
        (qs := [.frame, .link, .receivers, .holds, .flag .linkDown, .image, .lines, .captureDue]) (by decide)
      have hwhole := hrow ▸ hleft.andThen (boundaryCapture_within hold _) (by decide)
      have hnumber : (boundaryEnded hold v).sweep.number = (frameOpened w).sweep.number := hwhole .number (by decide)
      have hduty : (boundaryEnded hold v).brightness.effective = (frameOpened w).brightness.effective :=
        hwhole .effective (by decide)
      have hsent : sent = frameHeader .zones h (frameOpened w) := by
        rw [frameHeader, ← hnumber, ← hduty]
      have hreceivers : (boundaryEnded hold v).receivers = (startZoneFrame h (frameOpened w)).receivers := by
        rw [hrow]
        cases hold <;> rfl
      refine ⟨by rw [hsent, hsweep, hlink]; rfl, ?_⟩
      rw [hsent, hreceivers, hcards]
    · have hvisible := planSlot_visible _ _ x hx
      obtain ⟨z, hz, rfl⟩ := mem_planFrame hx
      clear hframe hrow hx
      generalize boundaryEnded hold v = t at *
      refine ⟨rfl, rfl, fun f hf => zoneActive_figure hf, zoneActive_message, zoneActive_replay,
        fun r hr hentry hlist => zoneActive_sponsor hr hentry hlist, fun a b i hr => zoneActive_house hr, fun hactive => ?_,
        fun f g hf hg => (zoneShape_figure hf hg).trans (by cases f <;> rfl),
        fun o hm ho => ⟨fun d hd => (zoneShape_message hm ho).trans (messageShape_still hd _ _), fun v k hv hk => ?_⟩,
        zoneShape_whole, planSlot_ident_dark, hvisible, fun hlow => ?_, fun hready => ?_⟩
      · obtain ⟨c, hc, hident⟩ := planSlot_ident_shown hactive
        refine ⟨c, hident, fun k hr hk => zoneContent_replay hr hk hc, fun r l hr hlist => ?_,
          fun f hf => zoneContent_figure hf hc, fun o hm ho => ?_, fun a b i y hr hy => ?_, fun hfetch => ?_⟩
        · obtain ⟨hhouse, hslot⟩ := zoneContent_sponsor hr hlist hc
          exact ⟨hhouse, fun n y hn hy => (hslot n y hn hy).trans (by cases y.content <;> rfl)⟩
        · exact (zoneContent_message hm ho hc).trans (by cases o.showing <;> rfl)
        · exact (zoneContent_buffer hr hy hc).trans (by cases y.onAir <;> rfl)
        · obtain ⟨hraster, hmessage⟩ := planSlot_fetches hc hfetch
          refine ⟨hraster, fun f g hf hg hlines => ?_, fun o hm ho => ?_⟩
          · refine (planSlot_runs hfetch).trans ((zoneRuns_figure (z := z.cfg) hf hg hlines).trans ?_)
            exact List.map_congr_left fun y _ => by cases y <;> rfl
          · intro rows
            obtain ⟨hstill, hcrawl⟩ := hmessage o hm ho
            exact ⟨hstill, hcrawl⟩
      · refine (zoneShape_message hm ho).trans ?_
        rw [hk, messageShape_crawl hv]
      · have hunsent : (planSlot t.pins.linkReady t ((enabledZones t).map (·.cfg)) z).settlement = .unsent := by
          rw [hlow]
          rfl
        exact ⟨hunsent, planSlot_noRuns (by rw [hunsent]; exact Settlement.noConfusion)⟩
      · refine ⟨z, (mem_enabledZones hz).1, rfl, rfl, fun hdark => ?_, fun hactive => ⟨fun hheld => ?_, fun hnot => ?_⟩⟩
        · rw [hready]
          exact settleSlot_dark hdark
        · have hsettled : (planSlot t.pins.linkReady t ((enabledZones t).map (·.cfg)) z).settlement = .held := by
            rw [hready]
            exact settleSlot_held hactive hheld
          exact ⟨hsettled, planSlot_noRuns (by rw [hsettled]; exact Settlement.noConfusion)⟩
        · rw [hready]
          exact settleSlot_toFetch hactive hnot

end Sys2Proof.Proofs
end

section
/-! PROOFS. The pixels of a slot (R16, R94, R162) and of the board (R20), place by place. -/

namespace Sys2Proof.Proofs

open Sys2Proof.Machine Sys2Proof.Safety

/-! ### Places in a list of equal chunks -/

/-- The `i`-th place of the `j`-th chunk, all chunks up to it being `w` long. -/
theorem getElem?_flatMap_range {α : Type} {f : Nat → List α} {w n j i : Nat} (hlength : ∀ k, k ≤ j → (f k).length = w)
    (hj : j < n) (hi : i < w) : ((List.range n).flatMap f)[j * w + i]? = (f j)[i]? := by
  have hchunks : ∀ m, m ≤ j + 1 → ((List.range m).flatMap f).length = m * w := by
    intro m
    induction m with
    | zero => intro _; exact (Nat.zero_mul w).symm
    | succ m ih =>
      intro hm
      rw [List.range_succ, List.flatMap_append, List.length_append, ih (by omega), List.flatMap_singleton,
        hlength m (by omega), Nat.succ_mul]
  obtain ⟨d, rfl⟩ : ∃ d, n = j + (1 + d) := ⟨n - (j + 1), by omega⟩
  rw [List.range_add, List.flatMap_append, List.getElem?_append_right (by rw [hchunks j (by omega)]; omega),
    hchunks j (by omega), Nat.add_sub_cancel_left, Nat.add_comm 1 d, List.range_succ_eq_map, List.map_cons,
    List.flatMap_cons, Nat.add_zero, List.getElem?_append_left (by rw [hlength j (Nat.le_refl j)]; exact hi)]

theorem linePixels_length (l : Line) : (linePixels l).length = 16 := by
  rw [linePixels, List.length_map, List.length_range]

theorem linePixels_getElem? (l : Line) {k : Nat} (h : k < 16) : (linePixels l)[k]? = some (wordAt l (4 * k)) := by
  rw [linePixels, List.getElem?_map, List.getElem?_range h]
  rfl

/-- The `n`-th pixel of the lines fetched. -/
def pixelAt (got : List Line) (n : Nat) : Option Pixel := got[n / 16]?.map (fun l => wordAt l (4 * (n % 16)))

theorem flatMap_linePixels_getElem? (got : List Line) (n : Nat) : (got.flatMap linePixels)[n]? = pixelAt got n := by
  induction got generalizing n with
  | nil => rfl
  | cons l rest ih =>
    rw [List.flatMap_cons, pixelAt]
    by_cases hn : n < 16
    · rw [List.getElem?_append_left (by rw [linePixels_length]; exact hn), linePixels_getElem? l hn,
        Nat.div_eq_of_lt hn, Nat.mod_eq_of_lt hn]
      rfl
    · obtain ⟨m, rfl⟩ : ∃ m, n = m + 16 := ⟨n - 16, by omega⟩
      rw [List.getElem?_append_right (by rw [linePixels_length]; omega), linePixels_length, Nat.add_sub_cancel, ih,
        pixelAt, Nat.add_div_right m (by decide), Nat.add_mod_right, List.getElem?_cons_succ]

theorem flatMap_linePixels_length (got : List Line) : (got.flatMap linePixels).length = 16 * got.length := by
  induction got with
  | nil => rfl
  | cons l rest ih => rw [List.flatMap_cons, List.length_append, linePixels_length, ih, List.length_cons]; omega

theorem pixelsOf_length {got : List Line} {k n : Nat} (h : k + n ≤ got.length) : (pixelsOf got k n).length = 16 * n := by
  rw [pixelsOf, flatMap_linePixels_length, List.length_take, List.length_drop, Nat.min_eq_left (by omega)]

theorem pixelsOf_getElem? {got : List Line} {k n i : Nat} (h : i < 16 * n) :
    (pixelsOf got k n)[i]? = pixelAt got (16 * k + i) := by
  rw [pixelsOf, flatMap_linePixels_getElem?, pixelAt, pixelAt, List.getElem?_take_of_lt (by omega), List.getElem?_drop,
    Nat.mul_add_div (by decide), Nat.mul_add_mod]

/-! ### Rows -/

section
variable {z : ZoneRec} {start : Nat} {px : List Pixel} {i : Nat}

theorem rowOf_length (h : start + px.length ≤ z.w) : (rowOf z start px).length = z.w := by
  rw [rowOf, List.length_append, List.length_append, List.length_replicate, List.length_replicate]
  omega

theorem rowOf_before (h : i < start) : (rowOf z start px)[i]? = some z.backdrop := by
  rw [rowOf, List.append_assoc, List.getElem?_append_left (by rw [List.length_replicate]; exact h),
    List.getElem?_replicate_of_lt h]

theorem rowOf_inside (hstart : start ≤ i) (hend : i < start + px.length) : (rowOf z start px)[i]? = px[i - start]? := by
  rw [rowOf, List.append_assoc, List.getElem?_append_right (by rw [List.length_replicate]; exact hstart),
    List.length_replicate, List.getElem?_append_left (by omega)]

theorem rowOf_after (hend : start + px.length ≤ i) (hi : i < z.w) : (rowOf z start px)[i]? = some z.backdrop := by
  rw [rowOf, List.getElem?_append_right (by rw [List.length_append, List.length_replicate]; exact hend),
    List.length_append, List.length_replicate, List.getElem?_replicate_of_lt (by omega)]

end

/-! ### The shapes -/

theorem zonePixels_whole (z : ZoneRec) (got : List Line) (n : Nat) : (zonePixels z .whole got)[n]? = pixelAt got n :=
  flatMap_linePixels_getElem? got n

theorem place_lt {w h i j : Nat} (hi : i < w) (hj : j < h) : j * w + i < w * h := by
  calc j * w + i < j * w + w := Nat.add_lt_add_left hi _
    _ = w * (j + 1) := by rw [Nat.mul_succ, Nat.mul_comm]
    _ ≤ w * h := Nat.mul_le_mul_left w hj

theorem zonePixels_blank {z : ZoneRec} {got : List Line} {n : Nat} (h : n < z.w * z.h) :
    (zonePixels z .blank got)[n]? = some z.backdrop :=
  List.getElem?_replicate_of_lt h

/-- R94: row `j` of a figure of `count` cells, `c` lines wide and `h` high. -/
def cellRow (got : List Line) (count c h j : Nat) : List Pixel :=
  (List.range count).flatMap (fun k => pixelsOf got (k * (c * h) + j * c) c)

section
variable {got : List Line} {count c h j : Nat}

/-- Each line of a row lies among the lines fetched. -/
theorem cellLine_le (hgot : count * (c * h) ≤ got.length) (hj : j < h) {k : Nat} (hk : k < count) :
    k * (c * h) + j * c + c ≤ got.length := by
  calc k * (c * h) + j * c + c = k * (c * h) + c * (j + 1) := by rw [Nat.mul_succ, Nat.mul_comm j c, Nat.add_assoc]
    _ ≤ k * (c * h) + c * h := Nat.add_le_add_left (Nat.mul_le_mul_left c hj) _
    _ = (k + 1) * (c * h) := (Nat.succ_mul k (c * h)).symm
    _ ≤ count * (c * h) := Nat.mul_le_mul_right _ hk
    _ ≤ got.length := hgot

theorem cellRow_length (hgot : count * (c * h) ≤ got.length) (hj : j < h) :
    (cellRow got count c h j).length = count * (16 * c) := by
  rw [cellRow, List.length_flatMap, List.map_congr_left (g := fun _ => 16 * c)
    fun k hk => pixelsOf_length (cellLine_le hgot hj (List.mem_range.1 hk)), List.map_const', List.length_range,
    List.sum_replicate, smul_eq_mul]

theorem cellRow_getElem? (hgot : count * (c * h) ≤ got.length) (hj : j < h) {i : Nat} (hi : i < count * (16 * c)) :
    (cellRow got count c h j)[i]? =
      pixelAt got (i / (16 * c) * (16 * c * h) + j * (16 * c) + i % (16 * c)) := by
  have hc : 0 < 16 * c := Nat.pos_of_mul_pos_left (Nat.zero_lt_of_lt hi)
  have hcell : i / (16 * c) < count := Nat.div_lt_of_lt_mul (by rwa [Nat.mul_comm])
  have hplace : i = i / (16 * c) * (16 * c) + i % (16 * c) := by rw [Nat.mul_comm, Nat.div_add_mod]
  have hcolumn : i % (16 * c) < 16 * c := Nat.mod_lt i hc
  have hlengths : ∀ k, k ≤ i / (16 * c) → (pixelsOf got (k * (c * h) + j * c) c).length = 16 * c :=
    fun k hk => pixelsOf_length (cellLine_le hgot hj (Nat.lt_of_le_of_lt hk hcell))
  calc (cellRow got count c h j)[i]?
      = (cellRow got count c h j)[i / (16 * c) * (16 * c) + i % (16 * c)]? := by rw [← hplace]
    _ = (pixelsOf got (i / (16 * c) * (c * h) + j * c) c)[i % (16 * c)]? :=
        getElem?_flatMap_range hlengths hcell hcolumn
    _ = pixelAt got (16 * (i / (16 * c) * (c * h) + j * c) + i % (16 * c)) := pixelsOf_getElem? hcolumn
    _ = _ := by congr 2; ring

end

/-- R94: the pixels of a figure. -/
theorem zonePixels_cells {z : ZoneRec} {got : List Line} {count cw i j : Nat} (hi : i < z.w) (hj : j < z.h)
    (hcell : cw % 16 = 0) (hwidth : count * cw ≤ z.w) (hgot : count * (cw * z.h / 16) ≤ got.length) :
    (zonePixels z (.cells count cw z.h) got)[j * z.w + i]? =
      if i < count * cw then pixelAt got (i / cw * (cw * z.h) + j * cw + i % cw) else some z.backdrop := by
  obtain ⟨c, rfl⟩ : ∃ c, cw = 16 * c := ⟨cw / 16, by omega⟩
  have hlines : 16 * c * z.h / 16 = c * z.h := by rw [Nat.mul_assoc, Nat.mul_div_cancel_left _ (by decide)]
  have hcolumns : 16 * c / 16 = c := Nat.mul_div_cancel_left c (by decide)
  rw [hlines] at hgot
  have hrows : zonePixels z (.cells count (16 * c) z.h) got =
      (List.range z.h).flatMap (fun y => rowOf z 0 (cellRow got count c z.h y)) := by
    simp only [zonePixels, cellRow, rasterLines, hlines, hcolumns]
  rw [hrows, getElem?_flatMap_range (fun k hk => rowOf_length ?_) hj hi]
  · split
    next hinside => rw [rowOf_inside (Nat.zero_le i) (by rw [cellRow_length hgot hj]; omega), Nat.sub_zero, cellRow_getElem? hgot hj hinside]
    next houtside => exact rowOf_after (by rw [cellRow_length hgot hj]; omega) hi
  · rw [cellRow_length hgot (Nat.lt_of_le_of_lt hk hj)]
    omega

/-- R162: row `j` of a message's window. -/
def windowRow (got : List Line) (first last j : Nat) : List Pixel :=
  ((pixelsOf got (j * (last / 16 - first / 16 + 1)) (last / 16 - first / 16 + 1)).drop (first % 16)).take (last - first + 1)

section
variable {got : List Line} {first last j h : Nat}

theorem windowRow_length (hfirst : first ≤ last) (hgot : h * (last / 16 - first / 16 + 1) ≤ got.length) (hj : j < h) :
    (windowRow got first last j).length = last - first + 1 := by
  have hline : j * (last / 16 - first / 16 + 1) + (last / 16 - first / 16 + 1) ≤ got.length :=
    (Nat.succ_mul j _ ▸ Nat.mul_le_mul_right _ hj).trans hgot
  rw [windowRow, List.length_take, List.length_drop, pixelsOf_length hline]
  omega

theorem windowRow_getElem? (hfirst : first ≤ last) {i : Nat} (hi : i < last - first + 1) :
    (windowRow got first last j)[i]? = pixelAt got (16 * (j * (last / 16 - first / 16 + 1)) + first % 16 + i) := by
  rw [windowRow, List.getElem?_take_of_lt hi, List.getElem?_drop, pixelsOf_getElem? (by omega), Nat.add_assoc]

end

/-- R162: the pixels of a message's window. -/
theorem zonePixels_window {z : ZoneRec} {got : List Line} {first last start i j : Nat} (hi : i < z.w) (hj : j < z.h)
    (hfirst : first ≤ last) (hwidth : start + (last - first) < z.w)
    (hgot : z.h * (last / 16 - first / 16 + 1) ≤ got.length) :
    (zonePixels z (.window first last start) got)[j * z.w + i]? =
      if start ≤ i ∧ i ≤ start + (last - first) then
        pixelAt got (16 * (j * (last / 16 - first / 16 + 1)) + first % 16 + (i - start))
      else some z.backdrop := by
  have hrows : zonePixels z (.window first last start) got =
      (List.range z.h).flatMap (fun y => rowOf z start (windowRow got first last y)) := rfl
  have hlength := windowRow_length (j := j) hfirst hgot hj
  rw [hrows, getElem?_flatMap_range (fun k hk => rowOf_length ?_) hj hi]
  · split
    next hinside => rw [rowOf_inside hinside.1 (by omega), windowRow_getElem? hfirst (by omega)]
    next houtside =>
      by_cases hbefore : i < start
      · exact rowOf_before hbefore
      · exact rowOf_after (by omega) hi
  · rw [windowRow_length hfirst hgot (Nat.lt_of_le_of_lt hk hj)]
    omega

/-! ### The board -/

/-- `z`, or below it. -/
def UnderOrSelf (z u : HeldZone) : Prop := u = z ∨ u.zone.layer < z.zone.layer

theorem upper_top {a : Option HeldZone} {z : HeldZone} (ha : ∀ u, a = some u → UnderOrSelf z u) :
    upper a z = some z := by
  cases a with
  | none => rfl
  | some u =>
    rw [upper]
    rcases ha u rfl with rfl | hlower
    · exact if_neg (Nat.lt_irrefl _)
    · exact if_pos hlower

theorem upper_keeps_top {z u : HeldZone} (h : UnderOrSelf z u) : upper (some z) u = some z := by
  rw [upper]
  rcases h with rfl | hlower
  · exact if_neg (Nat.lt_irrefl _)
  · exact if_neg (Nat.lt_asymm hlower)

theorem upper_mem {a : Option HeldZone} {u v : HeldZone} (h : upper a u = some v) : a = some v ∨ u = v := by
  cases a with
  | none => exact .inr (Option.some.inj h)
  | some x =>
    rw [upper] at h
    split at h
    · exact .inr (Option.some.inj h)
    · exact .inl h

/-- R20: the topmost of a list of zones is the one above every other. -/
theorem foldl_upper_top {l : List HeldZone} {z : HeldZone} {a : Option HeldZone} (hz : a = some z ∨ z ∈ l)
    (hl : ∀ u ∈ l, UnderOrSelf z u) (ha : ∀ u, a = some u → UnderOrSelf z u) : l.foldl upper a = some z := by
  induction l generalizing a with
  | nil => exact hz.resolve_right List.not_mem_nil
  | cons y ys ih =>
    have hy := hl y List.mem_cons_self
    refine ih ?_ (fun u hu => hl u (List.mem_cons_of_mem y hu)) fun u hu => ?_
    · rcases hz with rfl | hz
      · exact .inl (upper_keeps_top hy)
      · rcases List.mem_cons.1 hz with rfl | hz
        · exact .inl (upper_top ha)
        · exact .inr hz
    · rcases upper_mem hu with hu | rfl
      · exact ha u hu
      · exact hy

theorem covers_iff (z : ZoneRec) (x y : Nat) :
    covers z x y = true ↔ z.x ≤ x ∧ x < z.x + z.w ∧ z.y ≤ y ∧ y < z.y + z.h := by
  simp only [covers, Bool.and_eq_true, decide_eq_true_eq, and_assoc]

section
variable {c : ReceiverCards} {h : FrameHeader} {x y : Nat}

theorem boardPixel_alert (hheader : c.header = some h) (hkind : h.kind = .alert) {p : Payload} (hp : c.alert = some p) :
    boardPixel c x y = payloadPixel p h.width x y := by
  simp only [boardPixel, hheader, hkind, hp, Option.bind_some]

/-- The zones seen of the frame that cover a place. -/
def lying (c : ReceiverCards) (x y : Nat) : List HeldZone :=
  c.held.filter (fun z => c.seen.contains z.zone.id && covers z.zone x y)

theorem filter_lying : c.held.filter (fun z => c.seen.contains z.zone.id && covers z.zone x y) = lying c x y := rfl

theorem mem_lying {z : HeldZone} : z ∈ lying c x y ↔ z ∈ c.held ∧ z.zone.id ∈ c.seen ∧ z.zone.x ≤ x
    ∧ x < z.zone.x + z.zone.w ∧ z.zone.y ≤ y ∧ y < z.zone.y + z.zone.h := by
  rw [lying, List.mem_filter, Bool.and_eq_true, List.contains_iff_mem, covers_iff]

theorem boardPixel_backdrop (hheader : c.header = some h) (hkind : h.kind = .zones) (hnone : lying c x y = []) :
    boardPixel c x y = some h.backdrop := by
  simp only [boardPixel, hheader, hkind, filter_lying, hnone, List.foldl_nil]

theorem boardPixel_top (hheader : c.header = some h) (hkind : h.kind = .zones) {z : HeldZone} (hz : z ∈ lying c x y)
    (htop : ∀ u ∈ lying c x y, UnderOrSelf z u) :
    boardPixel c x y = payloadPixel z.content z.zone.w (x - z.zone.x) (y - z.zone.y) := by
  have hfold : (lying c x y).foldl upper none = some z := foldl_upper_top (.inr hz) htop fun _ hu => by cases hu
  simp only [boardPixel, hheader, hkind, filter_lying, hfold]

end

end Sys2Proof.Proofs
end

section
/-! PROOFS. The close of a slot at its deadline, what it sends and what it reports (R17 to R20, R23, R24, R145 to R148). -/

namespace Sys2Proof.Proofs

open Sys2Proof.Machine Sys2Proof.Safety

/-! ### How a slot closes -/

section
variable {x : Slot} {b : Bool}

theorem underruns_iff : underruns x = true ↔ x.settlement = .toFetch ∧ x.fetch.runs ≠ [] := by
  simp only [underruns, Fetch.complete, Bool.and_eq_true, beq_iff_eq, Bool.not_eq_true', List.isEmpty_eq_false_iff]

theorem closing_unsent (h : x.settlement = .unsent) : closing x b = .unsent := by rw [closing, h]

theorem closing_dark (h : x.settlement = .dark) : closing x b = .dark := by rw [closing, h]

theorem closing_held (h : x.settlement = .held) : closing x b = .held := by rw [closing, h]

theorem closing_fetched (h : x.settlement = .toFetch) (hruns : x.fetch.runs = []) : closing x b = .fresh := by
  simp only [closing, h, Fetch.complete, hruns, List.isEmpty_nil, if_true]

theorem closing_unfetched (h : x.settlement = .toFetch) (hruns : x.fetch.runs ≠ []) :
    closing x b = if b then .stalled else .dark := by
  simp only [closing, h, Fetch.complete, List.isEmpty_eq_false_iff.2 hruns, Bool.false_eq_true, if_false]

end

theorem zoneHolds_iff {id : Nat} {s : State} :
    zoneHolds id s = true ↔ ∃ z ∈ s.sweep.zones, z.cfg.id = id ∧ z.receiver = .holdsCurrent := by
  simp only [zoneHolds, List.any_eq_true, Bool.and_eq_true, beq_iff_eq]

theorem closeZone_eq (d : Disposition) (under : Bool) (x : Slot) (z : Zone) : closeZone d under x z =
    { z with
      receiver := if d = .unsent then .stale else .holdsCurrent
      lastEpoch := if d = .fresh then x.epoch else z.lastEpoch
      lastIdent := if d = .fresh then some x.ident else if d = .dark then some .dark else z.lastIdent
      underruns := if under then min (z.underruns + 1) 65535 else z.underruns } := by
  cases d <;> rfl

theorem slotPayload_eq (d : Disposition) (x : Slot) : slotPayload d x =
    if d = .fresh then .pixels (zonePixels x.zone x.shape x.fetch.got)
    else if d = .dark then .fill x.zone.backdrop else .keep := by
  cases d <;> rfl

/-! ### What a close leaves -/

/-- R20: the closed slot on the link. -/
def closedItems (d : Disposition) (x : Slot) : List LinkItem :=
  if d = .unsent then [] else [.slot x.zone d (slotPayload d x)]

/-- R20: the receiver cards after the closed slot. -/
def closedCards (d : Disposition) (x : Slot) (c : ReceiverCards) : ReceiverCards :=
  if d = .unsent then c else cardsTake c (.slot x.zone d (slotPayload d x))

/-- R24: the table after the closed slot's report. -/
def reportedEntries (d : Disposition) (duty : Nat) (x : Slot) (t : List ExposureEntry) : List ExposureEntry :=
  match slotReport d duty x with
  | some r => takeReport r t
  | none => t

/-- R17: a line in flight for the closed slot will be dropped. -/
def abandoned (id : Nat) (f : Flight) : Flight := if f.origin = .slot id then { f with dropped := true } else f

theorem abandoned_eq (id : Nat) (f : Flight) :
    abandoned id f = { f with dropped := f.dropped || f.origin == .slot id } := by
  obtain ⟨origin, data, dropped⟩ := f
  rw [abandoned]
  split
  next h => simp only [show origin = .slot id from h, beq_self_eq_true, Bool.or_true]
  next h => simp only [beq_false_of_ne h, Bool.or_false]

theorem sendClosed_eq (d : Disposition) (x : Slot) (s : State) : sendClosed d x s =
    { s with
      sweep := { s.sweep with link := s.sweep.link ++ closedItems d x }
      receivers := closedCards d x s.receivers } := by
  rw [sendClosed, closedItems, closedCards]
  split
  · rw [List.append_nil]
  · rfl

theorem takeReportOf_eq (d : Disposition) (duty : Nat) (x : Slot) (s : State) :
    takeReportOf (slotReport d duty x) s =
      { s with exposure := { s.exposure with entries := reportedEntries d duty x s.exposure.entries } } := by
  rw [reportedEntries]
  cases slotReport d duty x <;> rfl

theorem raiseIf_recordClose (c : Bool) (f : Flag) (before after : List Slot) (x : Slot) (s : State) :
    raiseIf c f (recordClose before x after s) =
      { raiseIf c f s with
        port := (recordClose before x after s).port, sweep := (recordClose before x after s).sweep
        receivers := s.receivers, exposure := s.exposure } := by
  cases c <;> rfl

/-- A slot at its deadline, part by part. -/
theorem closeSlot_parts (before : List Slot) (x : Slot) (after : List Slot) (s : State) (d : Disposition)
    (hd : closing x (zoneHolds x.zone.id s) = d) : closeSlot before x after s =
      { raiseIf (underruns x) .zoneUnderrun s with
        port := s.port.map (abandoned x.zone.id)
        sweep := { s.sweep with
          frame := .zones (before ++ { x with closed := some d, fetch := { x.fetch with runs := [] } } :: after)
          zones := s.sweep.zones.map (fun z => if z.cfg.id = x.zone.id then closeZone d (underruns x) x z else z)
          link := s.sweep.link ++ closedItems d x }
        receivers := closedCards d x s.receivers
        exposure := { s.exposure with entries := reportedEntries d s.sweep.duty x s.exposure.entries } } := by
  subst hd
  rw [closeSlot_eq, takeReportOf_eq, sendClosed_eq, raiseIf_recordClose]
  rfl


/-- R20: a slot that carries nothing leaves the zone's content as it was. -/
theorem cardsTake_keep {z : ZoneRec} {d : Disposition} {c : ReceiverCards} :
    cardsTake c (.slot z d .keep) = { c with
      held :=
        { zone := z
          content := match c.held.find? (fun y => y.zone.id == z.id) with | some y => y.content | none => .keep }
          :: c.held.filter (fun y => y.zone.id != z.id)
      seen := c.seen ++ [z.id] } := by
  simp only [cardsTake]
  cases c.held.find? (fun y => y.zone.id == z.id) <;> rfl

theorem closedCards_sent {d : Disposition} (hd : d ≠ .unsent) (x : Slot) (c : ReceiverCards) :
    let old := c.held.find? (fun y => y.zone.id == x.zone.id)
    let kept : Payload := match old with | some y => y.content | none => .keep
    closedCards d x c = { c with
      held :=
        { zone := x.zone
          content :=
            if d = .fresh then .pixels (zonePixels x.zone x.shape x.fetch.got)
            else if d = .dark then .fill x.zone.backdrop else kept }
          :: c.held.filter (fun y => y.zone.id != x.zone.id)
      seen := c.seen ++ [x.zone.id] } := by
  intro old kept
  rw [closedCards, if_neg hd]
  cases d with
  | unsent => exact absurd rfl hd
  | fresh => rfl
  | dark => rfl
  | held => exact cardsTake_keep
  | stalled => exact cardsTake_keep

/-! ### Reports -/

section
variable {d : Disposition} {duty : Nat} {x : Slot} {t : List ExposureEntry}

/-- R24: only SPONSOR zones and the MESSAGE zone report. -/
theorem reportedEntries_silent (hmessage : x.zone.role ≠ .message) (hsponsor : ∀ r, x.zone.role ≠ .sponsor r) :
    reportedEntries d duty x t = t := by
  have hsilent : slotReport d duty x = none := by
    rw [slotReport]
    cases hrole : x.zone.role <;> simp_all
  rw [reportedEntries, hsilent]

theorem reportedEntries_sponsor {r : RibbonId} {layer n id minDuty raster : Nat} {role : Role}
    (hrole : x.zone.role = .sponsor r) (hident : x.ident = .shown layer role (.sponsorSlot n id minDuty raster)) :
    reportedEntries d duty x t = onEntry id (scheduleUnit (settleUnit d x.visible duty minDuty)) t := by
  simp only [reportedEntries, slotReport, takeReport, hrole, hident]

theorem reportedEntries_message {layer id sponsor raster o : Nat} {role : Role}
    (hrole : x.zone.role = .message) (hident : x.ident = .shown layer role (.message id sponsor raster o)) :
    reportedEntries d duty x t =
      if sponsor ≠ 0 ∧ (d = .fresh ∨ d = .held) ∧ x.visible then onEntry sponsor creditMoment t else t := by
  simp only [reportedEntries, slotReport, takeReport, hrole, hident]

/-- R24: a zone that shows no sponsor changes no entry. -/
theorem reportedEntries_unsponsored
    (hident : x.ident = .dark ∨ ∃ layer role a, x.ident = .shown layer role (.houseMark a)) :
    reportedEntries d duty x t = t := by
  rw [reportedEntries, slotReport]
  rcases hident with hident | ⟨_, _, _, hident⟩ <;> cases hrole : x.zone.role <;> simp only [takeReport, hident]

end

section
variable {d : Disposition} {visible : Bool} {duty minDuty : Nat}

theorem settleUnit_unshown : settleUnit d visible duty minDuty = .unshown ↔ d = .unsent ∨ d = .dark ∨ d = .stalled := by
  rw [settleUnit]
  split_ifs <;> simp_all

theorem settleUnit_occluded : settleUnit d visible duty minDuty = .occluded ↔
    ¬ (d = .unsent ∨ d = .dark ∨ d = .stalled) ∧ visible = false := by
  rw [settleUnit]
  split_ifs <;> simp_all

theorem settleUnit_dimmed : settleUnit d visible duty minDuty = .dimmed ↔
    ¬ (d = .unsent ∨ d = .dark ∨ d = .stalled)
      ∧ ¬ (¬ (d = .unsent ∨ d = .dark ∨ d = .stalled) ∧ visible = false) ∧ duty < minDuty := by
  rw [settleUnit]
  split_ifs <;> simp_all

theorem settleUnit_credited : settleUnit d visible duty minDuty = .credited ↔
    ¬ (d = .unsent ∨ d = .dark ∨ d = .stalled)
      ∧ ¬ (¬ (d = .unsent ∨ d = .dark ∨ d = .stalled) ∧ visible = false)
      ∧ ¬ (¬ (d = .unsent ∨ d = .dark ∨ d = .stalled)
        ∧ ¬ (¬ (d = .unsent ∨ d = .dark ∨ d = .stalled) ∧ visible = false) ∧ duty < minDuty) := by
  rw [settleUnit]
  split_ifs <;> simp_all

end

/-- R145, R148: the entry of one sponsor takes a unit unless it is frozen. -/
theorem onEntry_schedule (id : Nat) (u : UnitSettlement) (t : List ExposureEntry) :
    onEntry id (scheduleUnit u) t = t.map (fun e =>
      if e.sponsor = id ∧ e.frozen = false then
        { e with
          scheduled := e.scheduled + 1
          unshown := if u = .unshown then e.unshown + 1 else e.unshown
          occluded := if u = .occluded then e.occluded + 1 else e.occluded
          dimmed := if u = .dimmed then e.dimmed + 1 else e.dimmed
          credited := if u = .credited then e.credited + 1 else e.credited
          frozen := 4294967295 ≤ e.scheduled + 1 }
      else e) := by
  refine List.map_congr_left fun e _ => ?_
  by_cases hid : e.sponsor = id
  · rw [if_pos hid, scheduleUnit]
    cases hfrozen : e.frozen
    · exact (if_pos ⟨hid, rfl⟩).symm
    · exact (if_neg (fun h => Bool.noConfusion h.2)).symm
  · rw [if_neg hid, if_neg (fun h => hid h.1)]

/-- R147, R148: the entry of one sponsor takes a moment credit unless it is frozen. -/
theorem onEntry_credit (id : Nat) (t : List ExposureEntry) :
    onEntry id creditMoment t = t.map (fun e =>
      if e.sponsor = id ∧ e.frozen = false then { e with moment := min (e.moment + 1) 4294967295 } else e) := by
  refine List.map_congr_left fun e _ => ?_
  by_cases hid : e.sponsor = id
  · rw [if_pos hid, creditMoment]
    cases hfrozen : e.frozen
    · exact (if_pos ⟨hid, rfl⟩).symm
    · exact (if_neg (fun h => Bool.noConfusion h.2)).symm
  · rw [if_neg hid, if_neg (fun h => hid h.1)]

/-- R147: the moment credit of a message's sponsor, under its conditions. -/
theorem creditedWhere_eq (P : Prop) [Decidable P] (id : Nat) (t : List ExposureEntry) :
    (if P then onEntry id creditMoment t else t) = t.map (fun e =>
      if (e.sponsor = id ∧ e.frozen = false) ∧ P then { e with moment := min (e.moment + 1) 4294967295 } else e) := by
  by_cases hP : P
  · simp only [onEntry_credit, hP, if_true, and_true]
  · simp only [hP, and_false, if_false, List.map_id']

theorem exec_slotDeadline {s : State} {before after : List Slot} {x : Slot} (hbypass : s.bypass = false)
    (hframe : s.sweep.frame = .zones (before ++ x :: after)) (hbefore : ∀ y ∈ before, y.closed ≠ none)
    (hopen : x.closed = none) : exec .slotDeadline s = .next (closeSlot before x after s) :=
  congrArg Host.Outcome.next ((outOfBypass_out hbypass).trans (slotDeadline_first hframe hbefore hopen))

/-- R23, R174: the alert slot at its deadline. -/
theorem closeAlert_eq (x : AlertSlot) (s : State) :
    let payload : Payload :=
      if x.raster ≠ none ∧ x.fetch.runs = [] then .pixels (x.fetch.got.flatMap linePixels) else .fill x.colour
    let closed : State :=
      { s with
        port := s.port.map (fun f => { f with
          dropped := f.dropped || f.origin == .alertSlot || (match f.origin with | .slot _ => true | _ => false) })
        sweep := { s.sweep with
          frame := .alert { x with closed := true, fetch := { x.fetch with runs := [] } } } }
    closeAlert x s =
      if x.sending = true then
        { closed with
          sweep := { closed.sweep with link := s.sweep.link ++ [.alertSlot payload] }
          receivers := { s.receivers with alert := some payload } }
      else closed := by
  intro payload closed
  have hpayload : (if x.raster.isSome ∧ x.fetch.complete then .pixels (x.fetch.got.flatMap linePixels)
      else .fill x.colour) = payload := by
    simp only [payload, Fetch.complete, List.isEmpty_iff, Option.isSome_iff_ne_none]
  rw [closeAlert, hpayload, dropSweep_eq]
  rfl


/-- R17 to R20: what a slot's deadline leaves in each part. -/
structure ClosedAs (before : List Slot) (x : Slot) (after : List Slot) (d : Disposition) (s t : State) : Prop where
  settled : d = closing x (zoneHolds x.zone.id s)
  flags : ∀ f, flagUp f t = (flagUp f s || (f = .zoneUnderrun && underruns x))
  sweep : t.sweep = { s.sweep with
    frame := .zones (before ++ { x with closed := some d, fetch := { x.fetch with runs := [] } } :: after)
    zones := s.sweep.zones.map (fun z => if z.cfg.id = x.zone.id then closeZone d (underruns x) x z else z)
    link := s.sweep.link ++ closedItems d x }
  port : t.port = s.port.map (abandoned x.zone.id)
  receivers : t.receivers = closedCards d x s.receivers
  exposure : t.exposure = { s.exposure with entries := reportedEntries d s.sweep.duty x s.exposure.entries }
  rest : t = { s with
    port := t.port, sweep := t.sweep, receivers := t.receivers, exposure := t.exposure
    status := { s.status with flags := t.status.flags }
    decoder := { s.decoder with latches := t.decoder.latches } }

theorem flagUp_raiseIf_any (c : Bool) (f g : Flag) (s : State) :
    flagUp g (raiseIf c f s) = (flagUp g s || (g = f && c)) := by
  cases c
  · rw [raiseIf_false, Bool.and_false, Bool.or_false]
  · rw [raiseIf_true, flagUp_raise, Bool.and_true, Bool.or_comm]

theorem closeSlot_closedAs (before : List Slot) (x : Slot) (after : List Slot) (s : State) (d : Disposition)
    (hd : closing x (zoneHolds x.zone.id s) = d) : ClosedAs before x after d s (closeSlot before x after s) := by
  have hparts := closeSlot_parts before x after s d hd
  have hraised := flagUp_raiseIf_any (underruns x) .zoneUnderrun
  exact
    { settled := hd.symm
      flags := fun f => (congrArg (flagUp f) hparts).trans (hraised f s)
      sweep := congrArg State.sweep hparts
      port := congrArg State.port hparts
      receivers := congrArg State.receivers hparts
      exposure := congrArg State.exposure hparts
      rest := by
        rw [hparts]
        cases underruns x <;> rfl }

theorem slot_closes {s : State} {before after : List Slot} {x : Slot} (hbypass : s.bypass = false)
    (hframe : s.sweep.frame = .zones (before ++ x :: after)) (hbefore : ∀ y ∈ before, y.closed ≠ none)
    (hopen : x.closed = none) : ∃ t d, exec .slotDeadline s = .next t ∧ ClosedAs before x after d s t :=
  ⟨_, _, exec_slotDeadline hbypass hframe hbefore hopen, closeSlot_closedAs before x after s _ rfl⟩

/-- Settles O33. -/
theorem slotClosesAndReports : Obligations.SlotClosesAndReports := by
  refine ⟨fun s before after x hbypass hframe hbefore hopen => ?_, fun s before after x hbypass hframe hbefore hopen => ?_,
    fun s x hbypass hframe hopen => ?_, fun z got i j hi hj => ?_, fun c h x y hheader => ?_⟩
  · obtain ⟨t, d, hexec, hclosed⟩ := slot_closes hbypass hframe hbefore hopen
    refine ⟨t, d, hexec, fun h => hclosed.settled.trans (closing_unsent h), fun h => hclosed.settled.trans (closing_dark h),
      fun h => hclosed.settled.trans (closing_held h), fun h hruns => hclosed.settled.trans (closing_fetched h hruns),
      fun h hruns => ?_, fun f => ?_, ?_, ?_, fun hmessage hsponsor => ?_, fun hunsent => ?_, fun hsent => ?_, hclosed.rest⟩
    · rw [hclosed.settled, closing_unfetched h hruns]
      simp only [zoneHolds_iff]
    · rw [hclosed.flags]
      simp only [← underruns_iff, Bool.decide_and, Bool.decide_eq_true]
    · rw [hclosed.sweep]
      simp only [closeZone_eq, closedItems, slotPayload_eq, underruns_iff]
    · rw [hclosed.port]
      exact congrArg s.port.map (funext (abandoned_eq _))
    · rw [hclosed.exposure, reportedEntries_silent hmessage hsponsor]
    · rw [hclosed.receivers, closedCards, if_pos hunsent]
    · exact hclosed.receivers.trans (closedCards_sent hsent x s.receivers)
  · obtain ⟨t, d, hexec, hclosed⟩ := slot_closes hbypass hframe hbefore hopen
    have hentries := congrArg ExposureTable.entries hclosed.exposure
    refine ⟨t, d, hexec, congrArg SweepEngine.frame hclosed.sweep, fun r n id duty raster hrole hident => ?_,
      fun id sponsor raster o hrole hident => ?_, fun hident => ?_⟩
    · obtain ⟨layer, role, hident⟩ := hident
      intro unshown occluded dimmed credited
      rw [hentries, reportedEntries_sponsor hrole hident, onEntry_schedule]
      simp only [settleUnit_unshown, settleUnit_occluded, settleUnit_dimmed, settleUnit_credited]
      rfl
    · obtain ⟨layer, role, hident⟩ := hident
      rw [hentries, reportedEntries_message hrole hident, creditedWhere_eq]
      refine List.map_congr_left fun e _ => ?_
      have hcondition : ((e.sponsor = sponsor ∧ e.frozen = false) ∧ sponsor ≠ 0 ∧ (d = .fresh ∨ d = .held) ∧ x.visible)
          ↔ (e.sponsor = sponsor ∧ sponsor ≠ 0 ∧ (d = .fresh ∨ d = .held) ∧ x.visible = true ∧ e.frozen = false) := by
        tauto
      simp only [hcondition]
    · rw [hclosed.exposure, reportedEntries_unsponsored hident]
  · intro payload closed
    exact congrArg Host.Outcome.next ((outOfBypass_out hbypass).trans ((slotDeadline_alert hframe hopen).trans (closeAlert_eq x s)))
  · intro pixel place
    exact ⟨zonePixels_whole z got _, zonePixels_blank (place_lt hi hj),
      fun count cw hcell hwidth hgot => zonePixels_cells hi hj hcell hwidth hgot,
      fun first last start hfirst hwidth hgot => zonePixels_window hi hj hfirst hwidth hgot⟩
  · intro pixelOf lies
    have hpixel (p : Payload) (w i j : Nat) : payloadPixel p w i j = pixelOf p w i j := by cases p <;> rfl
    refine ⟨fun hkind p hp => (boardPixel_alert hheader hkind hp).trans (hpixel _ _ _ _), fun hkind => ⟨fun hnone => ?_,
      fun z hz hlies htop => ?_⟩⟩
    · refine boardPixel_backdrop hheader hkind (List.eq_nil_iff_forall_not_mem.2 fun z hz => ?_)
      obtain ⟨hheld, hlies⟩ := mem_lying.1 hz
      exact hnone z hheld hlies
    · refine (boardPixel_top hheader hkind (mem_lying.2 ⟨hz, hlies⟩) fun u hu => ?_).trans (hpixel _ _ _ _)
      obtain ⟨hheld, hulies⟩ := mem_lying.1 hu
      exact or_iff_not_imp_left.2 fun hne => htop u hheld hne hulies
end Sys2Proof.Proofs
end

section
/-! PROOFS. A pending layout at a boundary (R7, R8, R121, R166, log 31). -/

namespace Sys2Proof.Proofs

open Sys2Proof.Machine Sys2Proof.Safety

/-! ### The units' work without an alert -/

theorem runTask_quiet {s : State} (h : s.alert.state = .quiet) {t : BoundaryTask} (ht : t ≠ .layout) :
    Within (calmParts t) s (runTask t s) := by
  cases t with
  | layout => exact absurd rfl ht
  | alert =>
    rw [runTask, alertWork_quiet h]
    exact .refl _ s
  | replay => exact runTask_within .replay s
  | rotation => exact runTask_within .rotation s
  | message => exact runTask_within .message s

theorem runTasks_quiet {ps : List Part} (hstate : .alertState ∉ ps) {order : List BoundaryTask} (hlayout : .layout ∉ order)
    (sub : ∀ t ∈ order, ∀ p ∈ calmParts t, p ∈ ps) {s : State} (h : s.alert.state = .quiet) :
    Within ps s (runTasks order s) := by
  induction order generalizing s with
  | nil => exact .refl _ s
  | cons t order ih =>
    have hfirst := (runTask_quiet h (List.ne_of_not_mem_cons hlayout).symm).mono (sub t List.mem_cons_self)
    exact hfirst.trans (ih (List.not_mem_of_not_mem_cons hlayout) (fun u hu => sub u (List.mem_cons_of_mem t hu))
      (Eq.trans (hfirst .alertState hstate) h))

/-- What the other units' work can change around a layout's application where no alert stands. -/
abbrev quietParts : List Part := replayParts ++ rotationParts ++ airParts

/-- The start of a boundary with every slot of the frame in progress closed. -/
abbrev settledParts : List Part := [.image, .lines, .captureDue, .number]

theorem closeFrame_closed {s : State} (hzones : ∀ slots, s.sweep.frame = .zones slots → ∀ x ∈ slots, x.closed ≠ none)
    (halert : ∀ x, s.sweep.frame = .alert x → x.closed = true) : closeFrame s = s := by
  have hopen : openSlots s = 0 := by
    cases hframe : s.sweep.frame with
    | none => rw [openSlots, hframe]
    | zones slots =>
      simp only [openSlots, hframe]
      rw [List.length_eq_zero_iff, List.filter_eq_nil_iff]
      exact fun x hx => mt Option.isNone_iff_eq_none.1 (hzones slots hframe x hx)
    | alert x => simp only [openSlots, hframe, halert x hframe, if_true]
  rw [closeFrame, hopen, closeTimes]

theorem boundaryOpened_closed {s : State}
    (hzones : ∀ slots, s.sweep.frame = .zones slots → ∀ x ∈ slots, x.closed ≠ none)
    (halert : ∀ x, s.sweep.frame = .alert x → x.closed = true) : Within settledParts s (boundaryOpened s) := by
  have hcaptured := captureIfDue_within s
  have hframe : (captureIfDue s).sweep.frame = s.sweep.frame := hcaptured .frame (by decide)
  rw [boundaryOpened, closeFrame_closed (hframe ▸ hzones) (hframe ▸ halert)]
  exact (hcaptured.mono (by decide)).andThen (nextNumber_within _) (by decide)

theorem applyLayout_pending {s : State} {load : LayoutLoad} {new : Layout} (hload : s.sweep.load = some load)
    (hpending : load.pending = some new) : applyLayout s = installLayout new s := by
  obtain ⟨addr, lines, count, pending⟩ := load
  cases hpending
  simp only [applyLayout, hload]

/-! ### The zones -/

/-- A zone as another, but for the content epoch where a unit's work at a boundary can report to it. -/
def Alike (z u : Zone) : Prop :=
  (u.cfg, u.receiver, u.lastEpoch, u.lastIdent, u.underruns) = (z.cfg, z.receiver, z.lastEpoch, z.lastIdent, z.underruns)
    ∧ ((∃ f, z.cfg.role = .figure f) ∨ (∃ a b i, z.cfg.role = .house a b i) → u.epoch = z.epoch)

theorem alike_refl (z : Zone) : Alike z z := ⟨rfl, fun _ => rfl⟩

theorem Alike.cfg_eq {z u : Zone} (h : Alike z u) : u.cfg = z.cfg := congrArg Prod.fst h.1

theorem Alike.trans {z u v : Zone} (h : Alike z u) (h' : Alike u v) : Alike z v :=
  ⟨h'.1.trans h.1, fun hrole => (h'.2 (h.cfg_eq ▸ hrole)).trans (h.2 hrole)⟩

/-- The work at a boundary around a layout's application leaves the zones alike. -/
theorem Within.alike {ps : List Part} {s t : State} (h : Within ps s t) (hcfgs : .cfgs ∉ ps) (hholds : .holds ∉ ps)
    (hsent : .sent ∉ ps) (hunderruns : .underruns ∉ ps) (hfigures : .epochs .figure ∉ ps) (hhouses : .epochs .house ∉ ps) :
    List.Forall₂ Alike s.sweep.zones t.sweep.zones := by
  refine List.forall₂_iff_get.2 ⟨(length_of_map_eq (h .cfgs hcfgs)).symm, fun n hn hm => ?_⟩
  have hz : s.sweep.zones[n]? = some (s.sweep.zones.get ⟨n, hn⟩) := List.getElem?_eq_getElem hn
  have hu : t.sweep.zones[n]? = some (t.sweep.zones.get ⟨n, hm⟩) := List.getElem?_eq_getElem hm
  generalize s.sweep.zones.get ⟨n, hn⟩ = z at hz
  generalize t.sweep.zones.get ⟨n, hm⟩ = u at hu
  have hcfg := congrArg (·[n]?) (h _ hcfgs)
  have hhold := congrArg (·[n]?) (h _ hholds)
  have hlast := congrArg (·[n]?) (h _ hsent)
  have hunder := congrArg (·[n]?) (h _ hunderruns)
  simp only [List.getElem?_map, hz, hu, Option.map_some, Option.some.injEq, Prod.mk.injEq] at hcfg hhold hlast hunder
  refine ⟨by rw [hcfg, hhold, hlast.1, hlast.2, hunder], fun hrole => ?_⟩
  rcases hrole with ⟨f, hrole⟩ | ⟨a, b, i, hrole⟩
  · exact (h.epoch_eq hz hu (congrArg roleKind hrole) hcfgs hfigures).2
  · exact (h.epoch_eq hz hu (congrArg roleKind hrole) hcfgs hhouses).2

theorem forall₂_find? {α : Type} {R : α → α → Prop} {p : α → Bool} (hp : ∀ x y, R x y → p y = p x) {l l' : List α}
    (h : List.Forall₂ R l l') : Option.Rel R (l.find? p) (l'.find? p) := by
  induction h with
  | nil => exact .none
  | @cons x y _ _ hxy _ ih =>
    rw [List.find?_cons, List.find?_cons, hp x y hxy]
    cases p x
    · exact ih
    · exact .some hxy

/-- R7: the zone that a zone of the new layout keeps its state from. -/
def keepsFrom (z : ZoneRec) (o : Zone) : Bool :=
  o.cfg.id == z.id && o.cfg.x == z.x && o.cfg.y == z.y && o.cfg.w == z.w && o.cfg.h == z.h
    && sameRole o.cfg.role z.role && o.cfg.enabled && z.enabled

theorem keptZone_eq (s : State) (hd : ScreenHeader) (z : ZoneRec) :
    keptZone s hd z = if s.sweep.header = some hd then s.sweep.zones.find? (keepsFrom z) else none := rfl

theorem keptZone_alike {s u : State} (hheader : u.sweep.header = s.sweep.header)
    (h : List.Forall₂ Alike s.sweep.zones u.sweep.zones) (hd : ScreenHeader) (z : ZoneRec) :
    Option.Rel Alike (keptZone s hd z) (keptZone u hd z) := by
  rw [keptZone_eq, keptZone_eq, hheader]
  split
  · exact forall₂_find? (fun x y hxy => by rw [keepsFrom, keepsFrom, hxy.cfg_eq]) h
  · exact .none

theorem keptZone_some {s : State} {hd : ScreenHeader} {z : ZoneRec} {o : Zone} (h : keptZone s hd z = some o) :
    s.sweep.header = some hd ∧ o ∈ s.sweep.zones ∧ keepsFrom z o = true := by
  rw [keptZone_eq] at h
  split at h
  next hheader => exact ⟨hheader, List.mem_of_find?_eq_some h, List.find?_some h⟩
  next => cases h

theorem keptZone_none {s : State} {hd : ScreenHeader} {z : ZoneRec} (h : keptZone s hd z = none)
    (hheader : s.sweep.header = some hd) {o : Zone} (ho : o ∈ s.sweep.zones) : keepsFrom z o = false := by
  rw [keptZone_eq, if_pos hheader] at h
  exact Bool.eq_false_of_not_eq_true (List.find?_eq_none.1 h o ho)

/-- The kinds of zone to which no unit's work at a boundary reports. -/
def Unreported (r : Role) : Prop := (∃ f, r = .figure f) ∨ ∃ a b i, r = .house a b i

theorem sameRole_unreported {a b : Role} (h : sameRole a b = true) : Unreported b → Unreported a := by
  cases a <;> cases b <;> simp_all [sameRole, Unreported]

theorem keepsFrom_iff {z : ZoneRec} {o : Zone} : keepsFrom z o = true ↔ o.cfg.id = z.id ∧ o.cfg.x = z.x ∧ o.cfg.y = z.y
    ∧ o.cfg.w = z.w ∧ o.cfg.h = z.h ∧ sameRole o.cfg.role z.role = true ∧ o.cfg.enabled = true ∧ z.enabled = true := by
  simp only [keepsFrom, Bool.and_eq_true, beq_iff_eq, and_assoc]

theorem applyZone_kept {s : State} {hd : ScreenHeader} {z : ZoneRec} {o : Zone} (h : keptZone s hd z = some o) :
    applyZone s hd z = { o with cfg := z } := by
  rw [applyZone, h]

theorem applyZone_fresh {s : State} {hd : ScreenHeader} {z : ZoneRec} (h : keptZone s hd z = none) :
    applyZone s hd z = { cfg := z, epoch := 0, receiver := .stale, lastEpoch := 0, lastIdent := none, underruns := 0 } := by
  rw [applyZone, h]

theorem applyZone_alike {s u : State} (hheader : u.sweep.header = s.sweep.header)
    (h : List.Forall₂ Alike s.sweep.zones u.sweep.zones) (hd : ScreenHeader) (z : ZoneRec) :
    Alike (applyZone s hd z) (applyZone u hd z) := by
  have hrel := keptZone_alike hheader h hd z
  cases hs : keptZone s hd z with
  | none =>
    rw [hs] at hrel
    cases hu : keptZone u hd z with
    | none =>
      rw [applyZone_fresh hs, applyZone_fresh hu]
      exact alike_refl _
    | some o => rw [hu] at hrel; cases hrel
  | some o =>
    rw [hs] at hrel
    cases hu : keptZone u hd z with
    | none => rw [hu] at hrel; cases hrel
    | some o' =>
      rw [hu] at hrel
      obtain ⟨_, _, hkeeps⟩ := keptZone_some hs
      obtain ⟨-, -, -, -, -, hrole, -, -⟩ := keepsFrom_iff.1 hkeeps
      cases hrel with
      | some halike =>
        rw [applyZone_kept hs, applyZone_kept hu]
        refine ⟨?_, fun hunreported => halike.2 (sameRole_unreported hrole hunreported)⟩
        exact congrArg (Prod.mk z) (Prod.mk.inj halike.1).2

/-! ### The application -/

theorem applyZone_cfg (s : State) (hd : ScreenHeader) (z : ZoneRec) : (applyZone s hd z).cfg = z := by
  rw [applyZone]
  split <;> rfl

theorem installZones_cfgs (l : Layout) (u : State) : (installZones l u).sweep.zones.map (·.cfg) = l.zones :=
  List.map_map.trans ((List.map_congr_left fun z _ => applyZone_cfg u l.header z).trans (List.map_id _))

theorem messageZone_installed (l : Layout) (b : Bool) (u : State) :
    messageZone (replayRelayout b (installZones l u)) = l.zones.find? isMessage := by
  have hcfgs := replayRelayout_within b (installZones l u) .cfgs (by decide)
  rw [messageZone_eq]
  exact congrArg (List.find? isMessage) (Eq.trans hcfgs (installZones_cfgs l u))

/-- The application, piece by piece. -/
theorem installLayout_eq (l : Layout) (u : State) : installLayout l u = settleLong .done l.zones.length (rebuildWatch
    (messageRelayout (messageZone u) (l.zones.find? isMessage) (replayRelayout (l.zones.any isReplay) (installZones l u)))) := by
  rw [← messageZone_installed l (l.zones.any isReplay) u]
  rfl

/-- What the application changes once the new zones stand. -/
abbrev relaidParts : List Part := [.current, .onDeck, .take, .lane] ++ airParts

theorem installLayout_relaid (l : Layout) (u : State) : Within relaidParts (installZones l u) (installLayout l u) := by
  rw [installLayout_eq]
  exact ((((replayRelayout_within _ _).mono (by decide)).andThen (messageRelayout_within _ _ _) (by decide)).andThen
    (rebuildWatch_within _) (by decide)).andThen (settleLong_within _ _ _) (by decide)

theorem installLayout_lane (l : Layout) {u : State} {x : Lane} (hlane : u.decoder.lane = some x) (hopen : x.final = none) :
    (installLayout l u).decoder.lane = settled x .done l.zones.length := by
  have hrelaid : Within ([.current, .onDeck, .take] ++ airParts) (installZones l u) (rebuildWatch
      (messageRelayout (messageZone u) (l.zones.find? isMessage)
        (replayRelayout (l.zones.any isReplay) (installZones l u)))) :=
    (((replayRelayout_within _ _).mono (by decide)).andThen (messageRelayout_within _ _ _) (by decide)).andThen
      (rebuildWatch_within _) (by decide)
  rw [installLayout_eq, settleLong_open (Eq.trans (hrelaid .lane (by decide)) hlane) hopen]

/-- R166: with a MESSAGE zone of the old height the application leaves the air and the queue alone. -/
theorem installLayout_messages {l : Layout} {u : State} {z n : ZoneRec} (hold : messageZone u = some z)
    (hnew : l.zones.find? isMessage = some n) (hheight : z.h = n.h) : (installLayout l u).messages = u.messages := by
  rw [installLayout_eq, hold, hnew]
  simp only [messageRelayout, hheight, if_true]
  cases l.zones.any isReplay <;> rfl

/-- R166: with no MESSAGE zone in the new layout nothing is on air. -/
theorem installLayout_offAir {l : Layout} (u : State) (hnew : l.zones.find? isMessage = none) :
    (installLayout l u).messages.onAir = none := by
  have hleft (v : State) : (messageRelayout (messageZone u) none v).messages.onAir = none := by
    rw [messageRelayout]
    split
    next =>
      show (returnToQueue v).messages.onAir = none
      rw [returnToQueue]
      split
      · exact Eq.trans (joinQueue_within _ _ .onAir (by decide)) rfl
      next hnone => exact hnone
    next hnone => exact Option.not_isSome_iff_eq_none.1 hnone
  rw [installLayout_eq, hnew]
  exact hleft _

/-- R121: with no REPLAY zone in the new layout both clips are gone. -/
theorem installLayout_clips {l : Layout} (u : State) (hnew : l.zones.any isReplay = false) :
    (installLayout l u).replay = { u.replay with current := none, onDeck := none, take := false } := by
  have hair := messageRelayout_within (messageZone u) (l.zones.find? isMessage) (replayRelayout false (installZones l u))
  rw [installLayout_eq, hnew]
  exact (congrArg State.replay hair.eq_merge).trans rfl


/-! ### The boundary -/

section
variable {s : State} {load : LayoutLoad} {new : Layout}

/-- R6: the application between the other units' work, in any order of it. -/
theorem sweepBoundary_relaid (hquiet : s.alert.state = .quiet)
    (hzones : ∀ slots, s.sweep.frame = .zones slots → ∀ x ∈ slots, x.closed ≠ none)
    (halert : ∀ x, s.sweep.frame = .alert x → x.closed = true) (hload : s.sweep.load = some load)
    (hpending : load.pending = some new) (order : List BoundaryTask) (hold : Bool) :
    ∃ u after, Within (settledParts ++ quietParts) s u ∧ .layout ∉ after
      ∧ sweepBoundary order hold s = boundaryEnded hold (runTasks after (installLayout new u)) := by
  obtain ⟨before, after, hbefore, hafter, hrun⟩ := sweepBoundary_around .layout order hold s
  have hopened := boundaryOpened_closed hzones halert
  have hworked := runTasks_quiet (ps := quietParts) (by decide) hbefore (fun t _ => by cases t <;> decide)
    (Eq.trans (hopened .alertState (by decide)) hquiet)
  have hreached := (hopened.mono (qs := settledParts ++ quietParts) (by decide)).andThen hworked (by decide)
  refine ⟨_, after, hreached, hafter, ?_⟩
  rw [hrun, runTask, applyLayout_pending (Eq.trans (hreached .load (by decide)) hload) hpending]

theorem installLayout_quiet {u : State} (hquiet : u.alert.state = .quiet) : (installLayout new u).alert.state = .quiet :=
  Eq.trans (installLayout_within new u .alertState (by decide)) hquiet

/-- The work after the application. -/
theorem runTasks_relaid {after : List BoundaryTask} (hafter : .layout ∉ after) {u : State} (hquiet : u.alert.state = .quiet) :
    Within quietParts (installLayout new u) (runTasks after (installLayout new u)) :=
  runTasks_quiet (by decide) hafter (fun t _ => by cases t <;> decide) (installLayout_quiet hquiet)

/-! ### The zones and the HOUSE buffers -/

/-- R22: with link-ready low every zone is STALE, otherwise the frame leaves the zones as they are. -/
theorem boundaryEnded_receivers {w : State} {h : ScreenHeader} (hheader : w.sweep.header = some h)
    (halert : w.alert.state ≠ .onAir) (hold : Bool) :
    (boundaryEnded hold w).sweep.zones = w.sweep.zones.map (fun z =>
      { z with receiver := if w.pins.linkReady then z.receiver else .stale }) := by
  have hplanned := boundaryPlanned_within w
  have hpins : (frameOpened (boundaryPlanned w)).pins = w.pins := hplanned .pins (by decide)
  have hkept : (frameOpened (boundaryPlanned w)).sweep.zones = w.sweep.zones := hplanned.zones_eq rfl
  rw [boundaryEnded_frame, startFrame_zones (h := h) (Eq.trans (hplanned .header (by decide)) hheader)
    (by rw [show (boundaryPlanned w).alert.state = w.alert.state from hplanned .alertState (by decide)]; exact halert),
    startZoneFrame, hpins]
  cases w.pins.linkReady
  · rw [if_neg Bool.false_ne_true, raise_sweep]
    exact congrArg (List.map _) hkept
  · rw [if_pos rfl]
    exact hkept.trans (List.map_id _).symm

theorem boundaryEnded_houses (hold : Bool) (w : State) :
    (boundaryEnded hold w).path.houses = w.path.houses.map exchangeHouse := by
  have hended : Within ([.onAir, .rate, .image, .lines, .captureDue] ++ frameParts) (exchangeFlips w) (boundaryEnded hold w) :=
    ((((startOnAir_within _).mono (by decide)).andThen (setRate_within _) (by decide)).andThen (startFrame_within _)
      (by decide)).andThen (boundaryCapture_within hold _) (by decide)
  exact Eq.trans (hended .houses (by decide)) rfl

/-- R8: a HOUSE zone of the new layout, its on-air buffer `side`. -/
def houseOf (z : ZoneRec) (bufA bufB idle : Nat) (side : Buffer) : House :=
  { zone := z.id, bufA := bufA, bufB := bufB, size := zoneBytes z, onAir := side, flip := .steady
    timeout := idleTimeout z idle, idle := loadedTimer (idleTimeout z idle), stale := false }

theorem exchangeHouse_steady {h : House} (hflip : h.flip = .steady) : exchangeHouse h = h := by
  obtain ⟨zone, bufA, bufB, size, onAir, flip, timeout, idle, stale⟩ := h
  cases hflip
  rfl

end

theorem applyHouse_house {s : State} {hd : ScreenHeader} {z : ZoneRec} {bufA bufB idle : Nat}
    (hrole : z.role = .house bufA bufB idle) : ∃ side, applyHouse s hd z = some (houseOf z bufA bufB idle side)
      ∧ (keptZone s hd z = none → side = .a)
      ∧ ∀ o g, keptZone s hd z = some o → findHouse z.id s = some g → side = g.onAir := by
  refine ⟨match keptZone s hd z, findHouse z.id s with
    | some _, some h => h.onAir
    | _, _ => .a, ?_, fun hfresh => ?_, fun o g hkept hfound => ?_⟩
  · rw [applyHouse, hrole]
    rfl
  · rw [hfresh]
  · rw [hkept, hfound]

theorem idle_loaded (z : ZoneRec) (idle : Nat) :
    loadedTimer (idleTimeout z idle) = if z.enabled = true ∧ idle ≠ 0 then some (idle * 100) else none := by
  rw [loadedTimer, idleTimeout]
  cases z.enabled
  · rfl
  · by_cases hidle : idle = 0
    · rw [hidle]
      rfl
    · rw [if_pos rfl, if_neg (by omega), if_pos ⟨rfl, hidle⟩]

/-! ### The air -/

section
variable {new : Layout} {n : ZoneRec}

/-- Without an alert, a layout of the MESSAGE zone `n` to apply over one of the same height, or standing. -/
def Fitting (new : Layout) (n : ZoneRec) (p : State) : Prop :=
  p.alert.state = .quiet
    ∧ ((∃ load z, p.sweep.load = some load ∧ load.pending = some new ∧ messageZone p = some z ∧ z.h = n.h)
      ∨ (p.sweep.load = none ∧ messageZone p = some n))

theorem messageZone_congr {s t : State} (h : Part.cfgs.Same s t) : messageZone t = messageZone s := by
  rw [messageZone_eq, messageZone_eq]
  exact congrArg _ h

theorem fitting_dependsOn (new : Layout) (n : ZoneRec) : DependsOn [.alertState, .load, .cfgs] (Fitting new n) :=
  fun s t hsame h => by
    have hload : t.sweep.load = s.sweep.load := hsame .load (by decide)
    rw [Fitting, show t.alert.state = s.alert.state from hsame .alertState (by decide), hload,
      messageZone_congr (hsame .cfgs (by decide))]
    exact h

theorem boundaryZone_fitting (hn : new.zones.find? isMessage = some n) {p : State} (h : Fitting new n p) :
    boundaryZone p = some n := by
  obtain ⟨-, ⟨load, z, hload, hpending, -, -⟩ | ⟨hload, hzone⟩⟩ := h
  · obtain ⟨addr, lines, count, pending⟩ := load
    cases hpending
    rw [boundaryZone, hload]
    exact hn
  · rw [boundaryZone_unloaded (by rw [hload]; exact nofun), hzone]

theorem applyLayout_fitting (hn : new.zones.find? isMessage = some n) {p : State} (h : Fitting new n p) :
    Fitting new n (applyLayout p) ∧ (applyLayout p).messages = p.messages := by
  obtain ⟨hquiet, ⟨load, z, hload, hpending, hzone, hheight⟩ | ⟨hload, hzone⟩⟩ := h
  · rw [applyLayout_pending hload hpending]
    have hrelaid := installLayout_relaid new p
    refine ⟨⟨installLayout_quiet hquiet, .inr ⟨hrelaid .load (by decide), ?_⟩⟩, installLayout_messages hzone hn hheight⟩
    exact (messageZone_congr (hrelaid .cfgs (by decide))).trans ((messageZone_installed new true p).trans hn)
  · rw [applyLayout_idle (by rw [hload]; exact nofun)]
    exact ⟨⟨hquiet, .inr ⟨hload, hzone⟩⟩, rfl⟩

/-- The other units' work around the Message Queue's leaves the air and the queue alone. -/
theorem runTask_fitting (hn : new.zones.find? isMessage = some n) (q : MessageQueue) (t : BoundaryTask) (ht : t ≠ .message) :
    Keeps (fun p => Fitting new n p ∧ p.messages = q) (runTask t) := by
  have haside {ps : List Part} {p p' : State} (hwithin : Within ps p p') (happart : meets [.alertState, .load, .cfgs] ps = false)
      (hmessages : p'.messages = p.messages) (h : Fitting new n p ∧ p.messages = q) : Fitting new n p' ∧ p'.messages = q :=
    ⟨(fitting_dependsOn new n).kept hwithin happart h.1, hmessages.trans h.2⟩
  intro p h
  cases t with
  | message => exact absurd rfl ht
  | layout => exact ⟨(applyLayout_fitting hn h.1).1, (applyLayout_fitting hn h.1).2.trans h.2⟩
  | alert => rwa [runTask, alertWork_quiet h.1.1]
  | replay =>
    exact haside (replayWork_within p) (by decide) ((congrArg State.messages (replayWork_within p).eq_merge).trans rfl) h
  | rotation =>
    exact haside (rotationWork_within p) (by decide) ((congrArg State.messages (rotationWork_within p).eq_merge).trans rfl) h

end

section
variable {s : State} {new : Layout} {n : ZoneRec}

/-- R160, log 31: the Message Queue's work at a boundary, in any order with a layout of a MESSAGE zone of the old height. -/
theorem sweepBoundary_air (hn : new.zones.find? isMessage = some n) (h : Fitting new n (boundaryOpened s))
    (order : List BoundaryTask) (hold : Bool) : ∃ p, Fitting new n p ∧ p.messages = (boundaryOpened s).messages
      ∧ (sweepBoundary order hold s).messages = (startOnAir (messageWork p)).messages := by
  obtain ⟨before, after, hbefore, hafter, hrun⟩ := sweepBoundary_around .message order hold s
  obtain ⟨hfits, hsame⟩ := runTasks_keep (runTask_fitting hn (boundaryOpened s).messages) hbefore _ ⟨h, rfl⟩
  refine ⟨_, hfits, hsame, ?_⟩
  have hworked := (fitting_dependsOn new n).kept (messageWork_within _) (by decide) hfits
  obtain ⟨-, hlast⟩ := runTasks_keep (runTask_fitting hn (messageWork (runTasks before (boundaryOpened s))).messages) hafter
    _ ⟨hworked, rfl⟩
  rw [hrun, boundaryEnded_messages, startOnAir_messages, startOnAir_messages]
  exact congrArg (fun q : MessageQueue => { q with onAir := q.onAir.map startedOnAir }) hlast

theorem boundaryZone_congr {s t : State} (hload : Part.load.Same s t) (hcfgs : Part.cfgs.Same s t) :
    boundaryZone t = boundaryZone s := by
  rw [boundaryZone, boundaryZone, messageZone_congr hcfgs, show t.sweep.load = s.sweep.load from hload]

/-- R160: one boundary of a crawl over the zone that the boundary leaves, with no repeat left. -/
theorem crawl_over {p : State} {m : Message} {offset v : Nat} (hzone : boundaryZone p = some n)
    (halert : p.alert.state ≠ .onAir) (hair : p.messages.onAir = some { msg := m, showing := .crawl offset })
    (hmode : m.mode = .crawl v) :
    (offset + v < m.width + n.w →
      (startOnAir (messageWork p)).messages
        = { p.messages with onAir := some { msg := m, showing := .crawl (offset + v) } })
    ∧ (m.width + n.w ≤ offset + v → m.remaining ≤ 1 →
      (p.messages.queue = [] → (startOnAir (messageWork p)).messages = { p.messages with onAir := none })
      ∧ ∀ x rest, p.messages.queue = x :: rest → x.height = n.h → (startOnAir (messageWork p)).messages
          = { p.messages with queue := rest, onAir := some { msg := x, showing := startShowing x } }) := by
  have hspeed : crawlSpeed m = v := by rw [crawlSpeed, hmode]
  have hmoved := bumpZones_within (p := isMessage) isMessage_kind
    { p with messages.onAir := some { msg := m, showing := .crawl (offset + crawlSpeed m) } }
  have hzone' : boundaryZone (crawled { msg := m, showing := .crawl offset } offset p) = some n :=
    (boundaryZone_congr (s := { p with messages.onAir := some { msg := m, showing := .crawl (offset + crawlSpeed m) } })
      (hmoved .load (by decide)) (hmoved .cfgs (by decide))).trans hzone
  have hwidth : messageWidth (crawled { msg := m, showing := .crawl offset } offset p) = n.w := by
    rw [messageWidth, hzone']
    rfl
  have hwork : messageWork p = if m.width + n.w ≤ offset + v
      then endShowing m (crawled { msg := m, showing := .crawl offset } offset p)
      else crawled { msg := m, showing := .crawl offset } offset p := by
    rw [messageWork, hair]
    dsimp only
    rw [stepShowing_crawl rfl, hwidth, hspeed]
  have hmessages : (crawled { msg := m, showing := .crawl offset } offset p).messages
      = { p.messages with onAir := some { msg := m, showing := .crawl (offset + v) } } := by
    rw [← hspeed]
    rfl
  refine ⟨fun hgoes => ?_, fun hends hlast => ⟨fun hqueue => ?_, fun x rest hqueue hheight => ?_⟩⟩
  · rw [hwork, if_neg (Nat.not_le.2 hgoes), startOnAir_messages, hmessages]
    rfl
  · rw [hwork, if_pos hends, startOnAir_messages,
      endShowing_leaves hzone' ((queueLeft_last hlast _).trans hqueue)
        fun hmore => (Nat.not_le.2 hmore hlast).elim, airChanged_messages,
      putOnAirIn_empty (s := { (crawled { msg := m, showing := .crawl offset } offset p) with
        messages := { (crawled { msg := m, showing := .crawl offset } offset p).messages with
          onAir := none, queue := [] } }) rfl, hmessages, ← hqueue]
    rfl
  · rw [hwork, if_pos hends, endShowing_head hzone' halert ((queueLeft_last hlast _).trans hqueue)
      (fun hmore => (Nat.not_le.2 hmore hlast).elim) hheight, hmessages]

end

/-! ### What the application empties -/

/-- Nothing is on air, and no alert stands. -/
def OffAir (p : State) : Prop := p.alert.state = .quiet ∧ p.messages.onAir = none

/-- No clip is current or on deck, no take is pending, and no alert stands. -/
def NoClips (p : State) : Prop :=
  p.alert.state = .quiet ∧ p.replay.current = none ∧ p.replay.onDeck = none ∧ p.replay.take = false

theorem runTask_offAir (t : BoundaryTask) (ht : t ≠ .layout) : Keeps OffAir (runTask t) := by
  intro p h
  have haside {ps : List Part} {p' : State} (hwithin : Within ps p p') (hstate : .alertState ∉ ps) (hair : .onAir ∉ ps) :
      OffAir p' := ⟨Eq.trans (hwithin .alertState hstate) h.1, Eq.trans (hwithin .onAir hair) h.2⟩
  cases t with
  | layout => exact absurd rfl ht
  | alert => rwa [runTask, alertWork_quiet h.1]
  | replay => exact haside (replayWork_within p) (by decide) (by decide)
  | rotation => exact haside (rotationWork_within p) (by decide) (by decide)
  | message =>
    rw [runTask, messageWork, h.2]
    exact h

theorem runTask_noClips (t : BoundaryTask) (ht : t ≠ .layout) : Keeps NoClips (runTask t) := by
  intro p h
  have haside {ps : List Part} {p' : State} (hwithin : Within ps p p')
      (hparts : .alertState ∉ ps ∧ .current ∉ ps ∧ .onDeck ∉ ps ∧ .take ∉ ps) : NoClips p' :=
    ⟨Eq.trans (hwithin .alertState hparts.1) h.1, Eq.trans (hwithin .current hparts.2.1) h.2.1,
      Eq.trans (hwithin .onDeck hparts.2.2.1) h.2.2.1, Eq.trans (hwithin .take hparts.2.2.2) h.2.2.2⟩
  cases t with
  | layout => exact absurd rfl ht
  | alert => rwa [runTask, alertWork_quiet h.1]
  | replay =>
    obtain ⟨-, hcurrent, -, htake⟩ := id h
    rw [runTask, replayWork, consumeTake_idle htake]
    dsimp only
    rw [hcurrent]
    exact h
  | rotation => exact haside (rotationWork_within p) (by decide)
  | message => exact haside (messageWork_within p) (by decide)


/-! ### The statement -/

/-- R7: two zones of one ID, rectangle and role under an unchanged header, enabled in both. -/
theorem keptZone_unique {s : State} {hd : ScreenHeader} {z : ZoneRec} {o : Zone}
    (hdistinct : s.sweep.zones.Pairwise (fun a b => a.cfg.id ≠ b.cfg.id)) (ho : o ∈ s.sweep.zones)
    (hheader : s.sweep.header = some hd) (hkeeps : keepsFrom z o = true) : keptZone s hd z = some o := by
  cases hkept : keptZone s hd z with
  | none => exact absurd hkeeps (Bool.eq_false_iff.1 (keptZone_none hkept hheader ho))
  | some y =>
    obtain ⟨-, hy, hfrom⟩ := keptZone_some hkept
    obtain ⟨hid, -⟩ := keepsFrom_iff.1 hkeeps
    obtain ⟨hid', -⟩ := keepsFrom_iff.1 hfrom
    have hnodup : (s.sweep.zones.map (·.cfg.id)).Nodup := List.pairwise_map.2 hdistinct
    rw [List.inj_on_of_nodup_map hnodup hy ho (hid'.trans hid.symm)]

theorem forall₂_mem_right {α : Type} {R : α → α → Prop} {l l' : List α} (h : List.Forall₂ R l l') {y : α} (hy : y ∈ l') :
    ∃ x ∈ l, R x y := by
  induction h with
  | nil => cases hy
  | cons hxy _ ih =>
    rcases List.mem_cons.1 hy with rfl | hy
    · exact ⟨_, List.mem_cons_self, hxy⟩
    · obtain ⟨x, hx, hR⟩ := ih hy
      exact ⟨x, List.mem_cons_of_mem _ hx, hR⟩

/-- R7: the zones that a boundary leaves of a layout applied at it: those of the application, alike. -/
theorem relaid_zones {s u w : State} {new : Layout} (hu : Within (settledParts ++ quietParts) s u)
    (hw : Within (relaidParts ++ quietParts) (installZones new u) w) (hquiet : w.alert.state = .quiet) (hold : Bool) :
    ∀ x ∈ (boundaryEnded hold w).sweep.zones, ∃ z y, Alike (applyZone s new.header z) y
      ∧ x = { y with receiver := if s.pins.linkReady then y.receiver else .stale } := by
  have hpins : w.pins = s.pins := Eq.trans (hw .pins (by decide)) (hu .pins (by decide))
  rw [boundaryEnded_receivers (h := new.header) (hw .header (by decide)) (by rw [hquiet]; exact AlertState.noConfusion), hpins]
  intro x hx
  obtain ⟨y, hy, rfl⟩ := List.mem_map.1 hx
  obtain ⟨y', hy', halike⟩ := forall₂_mem_right
    (hw.alike (by decide) (by decide) (by decide) (by decide) (by decide) (by decide)) hy
  obtain ⟨z, _, rfl⟩ := List.mem_map.1 hy'
  exact ⟨z, y, (applyZone_alike (hu .header (by decide))
    (hu.alike (by decide) (by decide) (by decide) (by decide) (by decide) (by decide)) new.header z).trans halike, rfl⟩

theorem keptZone_isSome_congr {s u : State} (hheader : u.sweep.header = s.sweep.header)
    (h : List.Forall₂ Alike s.sweep.zones u.sweep.zones) (hd : ScreenHeader) (z : ZoneRec) :
    (keptZone u hd z).isSome = (keptZone s hd z).isSome := by
  have hrel := keptZone_alike hheader h hd z
  generalize keptZone s hd z = a at hrel
  generalize keptZone u hd z = b at hrel
  cases hrel <;> rfl

/-- R7: a zone of the applied layout, by what stood before. -/
theorem relaid_zone {s : State} {hd : ScreenHeader} {y : Zone} (halike : Alike (applyZone s hd y.cfg) y) :
    (∀ o, keptZone s hd y.cfg = some o → y.lastEpoch = o.lastEpoch ∧ y.lastIdent = o.lastIdent ∧ y.underruns = o.underruns
      ∧ y.receiver = o.receiver ∧ (Unreported y.cfg.role → y.epoch = o.epoch))
    ∧ (keptZone s hd y.cfg = none → y.lastEpoch = 0 ∧ y.lastIdent = none ∧ y.underruns = 0 ∧ y.receiver = .stale
      ∧ (Unreported y.cfg.role → y.epoch = 0)) := by
  refine ⟨fun o hkept => ?_, fun hfresh => ?_⟩
  · rw [applyZone_kept hkept] at halike
    obtain ⟨heq, hepoch⟩ := halike
    simp only [Prod.mk.injEq] at heq
    obtain ⟨-, hreceiver, hlast, hident, hunder⟩ := heq
    exact ⟨hlast, hident, hunder, hreceiver, hepoch⟩
  · rw [applyZone_fresh hfresh] at halike
    obtain ⟨heq, hepoch⟩ := halike
    simp only [Prod.mk.injEq] at heq
    obtain ⟨-, hreceiver, hlast, hident, hunder⟩ := heq
    exact ⟨hlast, hident, hunder, hreceiver, hepoch⟩

theorem boundaryEnded_rate {w : State} {h : ScreenHeader} (hheader : w.sweep.header = some h) (hold : Bool) :
    (boundaryEnded hold w).sweep.rate = h.rate := by
  have hstarted : (startOnAir (exchangeFlips w)).sweep.header = w.sweep.header :=
    Eq.trans (startOnAir_within _ .header (by decide)) rfl
  have hset : (boundaryPlanned w).sweep.rate = h.rate := by
    rw [boundaryPlanned, setRate, hstarted, hheader]
  rw [boundaryEnded_frame, ← hset]
  exact startFrame_within (boundaryPlanned w) .rate (by decide)

/-- Settles O22. -/
theorem layoutIsAppliedAtTheBoundary : Obligations.LayoutIsAppliedAtTheBoundary := by
  intro s order hold l load new hbypass hquiet hzones halert hlane hopen hload hpending sameKind keeps
  obtain ⟨u, after, hu, hafter, hrun⟩ := sweepBoundary_relaid hquiet hzones halert hload hpending order hold
  have huquiet : u.alert.state = .quiet := Eq.trans (hu .alertState (by decide)) hquiet
  have hwork := runTasks_relaid (new := new) hafter huquiet
  have hinstalled : Within (relaidParts ++ quietParts) (installZones new u) (runTasks after (installLayout new u)) :=
    ((installLayout_relaid new u).mono (by decide)).andThen hwork (by decide)
  have hended := boundaryEnded_within hold (runTasks after (installLayout new u))
  have hrest : Within (quietParts ++ endedParts) (installLayout new u)
      (boundaryEnded hold (runTasks after (installLayout new u))) := (hwork.mono (by decide)).andThen hended (by decide)
  have hwhole : Within (relaidParts ++ quietParts ++ endedParts) (installZones new u)
      (boundaryEnded hold (runTasks after (installLayout new u))) := (hinstalled.mono (by decide)).andThen hended (by decide)
  have hwquiet : (runTasks after (installLayout new u)).alert.state = .quiet :=
    Eq.trans (hwork .alertState (by decide)) (installLayout_quiet huquiet)
  have hrelaid := relaid_zones hu hinstalled hwquiet hold
  have hkind (a b : Role) : sameKind a b ↔ sameRole a b = true := by
    cases a <;> cases b <;> simp [sameKind, sameRole]
  have hkeeps (o : Zone) (z : ZoneRec) : keeps o z ↔ s.sweep.header = some new.header ∧ keepsFrom z o = true := by
    simp only [keeps, hkind, keepsFrom_iff]
  have hfresh (z : ZoneRec) (h : ∀ o ∈ s.sweep.zones, ¬ keeps o z) : keptZone s new.header z = none :=
    Option.eq_none_iff_forall_not_mem.2 fun o ho => by
      obtain ⟨hheader, hmem, hfrom⟩ := keptZone_some ho
      exact h o hmem ((hkeeps o z).2 ⟨hheader, hfrom⟩)
  refine ⟨_, (exec_sweepBoundary hbypass order hold).trans (congrArg Host.Outcome.next hrun),
    hwhole .header (by decide), boundaryEnded_rate (hinstalled .header (by decide)) hold, hwhole .load (by decide),
    Eq.trans (hwhole .cfgs (by decide)) (installZones_cfgs new u),
    Eq.trans (hrest .lane (by decide)) (installLayout_lane new (Eq.trans (hu .lane (by decide)) hlane) hopen),
    fun x hx => ?_, fun z hz bufA bufB idle hrole => ?_, fun hclips => ?_, fun hmessages => ?_, ?_⟩
  · obtain ⟨z, y, halike, rfl⟩ := hrelaid x hx
    obtain rfl : z = y.cfg := (halike.cfg_eq.trans (applyZone_cfg s new.header z)).symm
    obtain ⟨hkept, hnew⟩ := relaid_zone halike
    refine ⟨fun o hdistinct ho hsame => ?_, fun hnone => ?_⟩
    · obtain ⟨hheader, hfrom⟩ := (hkeeps o _).1 hsame
      obtain ⟨hlast, hident, hunder, hreceiver, hepoch⟩ := hkept o (keptZone_unique hdistinct ho hheader hfrom)
      exact ⟨hlast, hident, hunder, fun hready => (if_pos hready).trans hreceiver, hepoch⟩
    · obtain ⟨hlast, hident, hunder, hreceiver, hepoch⟩ := hnew (hfresh _ hnone)
      exact ⟨hlast, hident, hunder, (ite_eq_right_iff.2 fun _ => hreceiver), hepoch⟩
  · have hhouses : (boundaryEnded hold (runTasks after (installLayout new u))).path.houses
        = (new.zones.filterMap (applyHouse u new.header)).map exchangeHouse :=
      (boundaryEnded_houses _ _).trans (congrArg (List.map exchangeHouse) (hinstalled .houses (by decide)))
    obtain ⟨side, happlied, hnew, hkept⟩ := applyHouse_house (s := u) (hd := new.header) hrole
    have hsome := keptZone_isSome_congr (hu .header (by decide))
      (hu.alike (by decide) (by decide) (by decide) (by decide) (by decide) (by decide)) new.header z
    refine ⟨houseOf z bufA bufB idle side,
      hhouses ▸ List.mem_map.2 ⟨_, List.mem_filterMap.2 ⟨z, hz, happlied⟩, exchangeHouse_steady rfl⟩,
      rfl, rfl, rfl, rfl, rfl, rfl, idle_loaded z idle, fun hnone => hnew ?_, fun o ho hsame g hfound => ?_⟩
    · rw [← Option.isNone_iff_eq_none, ← Option.not_isSome, hsome, hfresh z hnone]
      rfl
    · obtain ⟨hheader, hfrom⟩ := (hkeeps o z).1 hsame
      have hstands : (keptZone s new.header z).isSome = true := Option.isSome_iff_ne_none.2 fun hnone =>
        Bool.eq_false_iff.1 (keptZone_none hnone hheader ho) hfrom
      obtain ⟨o', ho'⟩ := Option.isSome_iff_exists.1 (hsome.trans hstands)
      exact hkept o' g ho' ((congrArg (List.find? _) (hu .houses (by decide))).trans hfound)
  · have hnone : new.zones.any isReplay = false :=
      List.any_eq_false.2 fun z hz => mt (isReplay_iff z).1 (hclips z hz)
    have hgone : NoClips (installLayout new u) := ⟨installLayout_quiet huquiet, by rw [installLayout_clips u hnone],
      by rw [installLayout_clips u hnone], by rw [installLayout_clips u hnone]⟩
    obtain ⟨-, hcurrent, hdeck, -⟩ := runTasks_keep runTask_noClips hafter _ hgone
    exact ⟨Eq.trans (hended .current (by decide)) hcurrent, Eq.trans (hended .onDeck (by decide)) hdeck⟩
  · have hnone : new.zones.find? isMessage = none :=
      List.find?_eq_none.2 fun z hz => mt (isMessage_iff z).1 (hmessages z hz)
    obtain ⟨-, hair⟩ := runTasks_keep runTask_offAir hafter _ ⟨installLayout_quiet huquiet, installLayout_offAir u hnone⟩
    rw [boundaryEnded_messages, startOnAir_messages, hair]
    rfl
  · intro m v o z n hair hmode hzone hn hheight
    have hopened := boundaryOpened_closed hzones halert
    have hsame : (boundaryOpened s).messages = s.messages := (congrArg State.messages hopened.eq_merge).trans rfl
    have hfits : Fitting new n (boundaryOpened s) := ⟨Eq.trans (hopened .alertState (by decide)) hquiet,
      .inl ⟨load, z, Eq.trans (hopened .load (by decide)) hload, hpending,
        (messageZone_congr (hopened .cfgs (by decide))).trans hzone, hheight⟩⟩
    obtain ⟨p, hp, hmessages, hwork⟩ := sweepBoundary_air hn hfits order hold
    rw [hrun] at hwork
    rw [hsame] at hmessages
    obtain ⟨hgoes, hends⟩ := crawl_over (boundaryZone_fitting hn hp) (by rw [hp.1]; exact AlertState.noConfusion)
      (hmessages ▸ hair) hmode
    rw [hmessages] at hgoes hends
    refine ⟨fun hless => hwork.trans (hgoes hless), fun hpast hlast hqueue => hwork.trans ((hends hpast hlast).1 hqueue),
      fun x rest hpast hlast hqueue hx => hwork.trans ((hends hpast hlast).2 x rest hqueue hx)⟩
end Sys2Proof.Proofs
end
